-- ==== Sys2Proof/Word.lean ====
section
/-! DEFINITION. The two word types of the part: the byte of frames and slot images, and the 16-bit version. -/

namespace Sys2Proof

/-- A byte of a frame or of a slot image (R169, R173). -/
abbrev Byte := BitVec 8

/-- A 16-bit field: a version (R2) or a check word (R15). -/
abbrev Half := BitVec 16

end Sys2Proof
end

