-- ==== Sys2Proof/Config.lean ====
section
/-! DEFINITION. The fixed sizes and limits of the part, each with the rule that gives it. -/

namespace Sys2Proof.Config

/-- R1: records are numbered 0..1023. -/
def records : Nat := 1024
/-- R1: a payload holds 1..48 bytes. -/
def maxPayload : Nat := 48
/-- R18: the pending write queue holds at most 32 entries. -/
def queueSize : Nat := 32
/-- R14: 32 spares S0..S31, at slots 1024..1055. -/
def spares : Nat := 32
/-- R14: the marker slot. -/
def markerSlot : Nat := 1056
/-- R14: 1,057 slots. -/
def slots : Nat := 1057
/-- R173: every slot holds a 56-byte image. -/
def slotBytes : Nat := 56
/-- R61: the acceptance that leaves this occupancy turns FETCH_FIRST into DRAIN_FIRST. -/
def highWater : Nat := 24
/-- R61: the removal that leaves this occupancy or less turns DRAIN_FIRST into FETCH_FIRST. -/
def lowWater : Nat := 8
/-- R57, R58: at this starvation count a waiting READ goes first. -/
def starvationLimit : Nat := 4
/-- R65, R159: three attempts on a slot, and three of a marker sequence. -/
def maxAttempts : Nat := 3
/-- R72: 16 request-table entries, the first eight reserved, two a port. -/
def tableSize : Nat := 16
/-- R72: the entries from this number on are pooled. -/
def firstPooled : Nat := 8
/-- R143: the window of outstanding requests. -/
def window : Nat := 4
/-- R87: response slots of a transmit queue. -/
def responseSlots : Nat := 4
/-- R114: notice slots of a transmit queue. -/
def noticeSlots : Nat := 4
/-- R92: claim-table entries. -/
def claimSlots : Nat := 16
/-- R105: watch-table entries. -/
def watchSlots : Nat := 64
/-- R82: the longest lease, in ticks. -/
def maxLease : Nat := 3000
/-- R133, R176: 8 µs in timebase periods of 62.5 ns. -/
def calibrationMin : Nat := 128
/-- R133, R176: 834 µs in timebase periods. -/
def calibrationMax : Nat := 13344
/-- R133, R137: 2.5 ms in timebase periods; a longer low period is attention. -/
def attentionLow : Nat := 40000
/-- R140: the least and the greatest L. -/
def minBody : Nat := 3
/-- R140: the greatest L. -/
def maxBody : Nat := 56

end Sys2Proof.Config
end

