-- ==== Sys2Proof/Syntax.lean ====
section
/-! DEFINITION. The commands: one constructor of Instr for each row of spec/opcode_table.json, with its operands. -/

namespace Sys2Proof

/-- The host ports P0 to P3. -/
inductive PortId where
  | p0 | p1 | p2 | p3
  deriving DecidableEq, Repr

/-- The level of an input pin. -/
inductive Level where
  | low | high
  deriving DecidableEq, Repr

/-- MODE0 to MODE3 as they stand when the reset ends (R130). -/
structure Straps where
  mode0 : Level
  mode1 : Level
  mode2 : Level
  mode3 : Level
  deriving DecidableEq, Repr

/-- What the cells of a slot give when the part reads them: the bytes expected there, or other bytes (log 5).
For a program the bytes expected are the image written (R46); for a fetch, the bytes the slot holds. -/
inductive Cells where
  | expected
  | other (bytes : List Byte)
  deriving DecidableEq, Repr

/-- What a program torn by a reset leaves in its slot (R48). -/
inductive Torn where
  | oldImage
  | newImage
  | other (bytes : List Byte)
  deriving DecidableEq, Repr

/-- What begins a reset, or takes place while one lasts (R150, R151): NRST beyond its filter time, the supply
below the brown-out threshold, or the supply below the power-on level. -/
inductive ResetEvent where
  | pin | brownOut | powerOn
  deriving DecidableEq, Repr

/-- The failures of the table of R141 that FRAME_ERROR covers. `stopBit left`: a stop-bit error on a body or CRC
byte with `left` bytes of the frame still to come by its L. `crcMismatch length`: the second CRC byte of a frame of
this L has come and does not match. -/
inductive FrameFailure where
  | badLength
  | lengthStopBit
  | stopBit (left : Nat)
  | crcMismatch (length : Nat)
  deriving DecidableEq, Repr

/-- Which of two events that fall on one edge of CLKn is taken first (R143, log 9). -/
inductive EdgeOrder where
  | incomingFirst | outgoingFirst
  deriving DecidableEq, Repr

/-- The moments of a byte on the wire. `stopBit`: an ASYNC byte at its stop-bit sample, `good` or in error (R132).
`eighthEdge`: a CLOCKED byte at its eighth rising edge, which completes it in both directions (R135). `selection`: SELn
becoming active, which starts a CLOCKED byte and fixes the one the part presents (R135, R136, log 10). -/
inductive ByteMoment where
  | stopBit (good : Bool)
  | eighthEdge
  | selection
  deriving DecidableEq, Repr

/-- A frame that has come whole with a matching CRC, and the order of the events on its last edge (CLOCKED; R143). -/
structure WholeFrame where
  body  : List Byte
  order : EdgeOrder
  deriving DecidableEq, Repr

/-- The commands. The request rows name the port alone: their record, version, payload, lease and tag are the bytes
of the frame at the head of that port's receive buffer (R73, R76, log 3). -/
inductive Instr where
  /-- FRAME_RECEIVED (R140). -/
  | frameReceived (p : PortId) (frame : WholeFrame)
  /-- FRAME_ERROR (R141). -/
  | frameError (p : PortId) (failure : FrameFailure)
  /-- INTER_BYTE_GAP_TIMEOUT (R141). -/
  | interByteGapTimeout (p : PortId)
  /-- DESELECTION (R136): SELn goes inactive. -/
  | deselection (p : PortId)
  /-- CALIBRATION (R133): a low period of RXn of this many timebase periods has ended. -/
  | calibration (p : PortId) (low : Nat)
  /-- ATTENTION (R139), recognised under R137 or R138. -/
  | attention (p : PortId)
  /-- FRAME_SENT (R146): the last byte of the head frame is sent. -/
  | frameSent (p : PortId)
  /-- POOL_GRANT (R77). -/
  | poolGrant
  /-- BAD_KIND_REQUEST (R79). -/
  | badKindRequest (p : PortId)
  /-- READ (R83, R84). -/
  | read (p : PortId)
  /-- WRITE (R85). -/
  | write (p : PortId)
  /-- WRITE_IF (R85). -/
  | writeIf (p : PortId)
  /-- ERASE (R85). -/
  | erase (p : PortId)
  /-- INSPECT (R86). -/
  | inspect (p : PortId)
  /-- FLUSH (R38). -/
  | flush (p : PortId)
  /-- CLAIM (R95). -/
  | claim (p : PortId)
  /-- RELEASE (R99). -/
  | release (p : PortId)
  /-- WATCH (R106). -/
  | watch (p : PortId)
  /-- UNWATCH (R107). -/
  | unwatch (p : PortId)
  /-- OPEN (R120, R121). -/
  | openSession (p : PortId)
  /-- CLOSE (R122). -/
  | closeSession (p : PortId)
  /-- STATUS (R127). -/
  | status (p : PortId)
  /-- RESYNC (R145). -/
  | resync (p : PortId)
  /-- FETCH_COMPLETION (R52): the fetch in flight completes with these bytes. -/
  | fetchCompletion (got : Cells)
  /-- PROGRAM_COMPLETION (R64): the program in flight completes; these bytes are read back. -/
  | programCompletion (got : Cells)
  /-- MARKER_PROGRAM_COMPLETION (R70). -/
  | markerProgramCompletion (got : Cells)
  /-- SCAN_FETCH_COMPLETION (R60). -/
  | scanFetchCompletion (got : Cells)
  /-- CLAIM_CLOCK_TICK (R93). -/
  | claimClockTick
  /-- LEASE_EXPIRY (R94): the tick at which the lease of this record's claim reaches 0 (log 7). -/
  | leaseExpiry (record : Nat)
  /-- PFW_ASSERTION (R149, R153): a recognised assertion. -/
  | pfwAssertion
  /-- PFW_DEASSERTION (R149, R153): a recognised deassertion. -/
  | pfwDeassertion
  /-- RESET (R150); `torn` says what a program torn by it leaves (R48). -/
  | reset (cause : ResetEvent) (torn : Torn)
  /-- END_OF_RESET (R151, R152), with the straps and the PFW pin as they stand. -/
  | endOfReset (straps : Straps) (pfw : Level)
  /-- BYTE_RECEIVED (R132, R135, R140): a byte completes, or on CLOCKED the first byte of a selection starts, which
  reads neither `byte` nor `order`; an ASYNC byte reads no `order` (log 10). -/
  | byteReceived (p : PortId) (byte : Byte) (moment : ByteMoment) (order : EdgeOrder)
  deriving DecidableEq, Repr

end Sys2Proof
end

