-- ==== Sys2Proof/WellFormed.lean ====
section
/-! DEFINITION. Which commands are well formed: the ranges the spec gives their operands. -/

namespace Sys2Proof

/-- Bytes read from a slot are 56 (R173). -/
def Cells.wf : Cells → Bool
  | .expected => true
  | .other bytes => bytes.length == Config.slotBytes

/-- Bytes left in a torn slot are 56 (R173). -/
def Torn.wf : Torn → Bool
  | .oldImage => true
  | .newImage => true
  | .other bytes => bytes.length == Config.slotBytes

/-- After a body or CRC byte at most L + 1 bytes of a frame are to come, and L runs 3..56 (R140). -/
def FrameFailure.wf : FrameFailure → Bool
  | .stopBit left => left ≤ Config.maxBody + 1
  | .badLength => true
  | .lengthStopBit => true
  | .crcMismatch length => Config.minBody ≤ length && length ≤ Config.maxBody

/-- The well-formed commands. -/
def Instr.wf : Instr → Bool
  | .frameReceived _ frame => Config.minBody ≤ frame.body.length && frame.body.length ≤ Config.maxBody
  | .frameError _ f => f.wf
  | .interByteGapTimeout _ => true
  | .deselection _ => true
  | .calibration _ low => low ≤ Config.attentionLow
  | .attention _ => true
  | .frameSent _ => true
  | .poolGrant => true
  | .badKindRequest _ => true
  | .read _ => true
  | .write _ => true
  | .writeIf _ => true
  | .erase _ => true
  | .inspect _ => true
  | .flush _ => true
  | .claim _ => true
  | .release _ => true
  | .watch _ => true
  | .unwatch _ => true
  | .openSession _ => true
  | .closeSession _ => true
  | .status _ => true
  | .resync _ => true
  | .fetchCompletion got => got.wf
  | .programCompletion got => got.wf
  | .markerProgramCompletion got => got.wf
  | .scanFetchCompletion got => got.wf
  | .claimClockTick => true
  | .leaseExpiry record => record < Config.records
  | .pfwAssertion => true
  | .pfwDeassertion => true
  | .reset _ torn => torn.wf
  | .endOfReset _ _ => true
  | .byteReceived _ _ _ _ => true

end Sys2Proof
end

