-- ==== Sys2Proof/Decode.lean ====
section
/-! DEFINITION. The decoder of the command table: no row of spec/opcode_table.json gives bits, so no word spells a
command (log 17). The bytes of request frames are read in Machine/Operands.lean. -/

namespace Sys2Proof

/-- The command that a word spells by the table's bits: none, since no row of the table has any. -/
def decodeTableWord (_nbits _w : Nat) : Option Instr := none

end Sys2Proof
end

