-- ==== Sys2Proof/Machine/State.lean ====
section
/-! DEFINITION. The state of the part as plain data, every piece the spec gives it, and State.reset. -/

namespace Sys2Proof.Machine

/-! ### Records, rows and slots -/

/-- The states of a directory row (R5). -/
inductive RowState where
  | empty | valid | corrupt | faulted
  deriving DecidableEq, Repr

/-- The slot that serves a record, or the target of a program: its primary or spare n (R5, R19). -/
inductive Location where
  | primary
  | spare (n : Nat)
  deriving DecidableEq, Repr

/-- A directory row (R5). -/
structure Row where
  state    : RowState
  version  : Half
  length   : Nat
  location : Location
  deriving DecidableEq, Repr

/-- The state of a spare (R68). -/
inductive SpareState where
  | free
  | inUse (record : Nat)
  | retired
  deriving DecidableEq, Repr

/-- The two values of the marker slot (R17). -/
inductive MarkerValue where
  | clean | dirty
  deriving DecidableEq, Repr

/-! ### The pending write queue -/

/-- A set of ports. -/
structure PortSet where
  p0 : Bool
  p1 : Bool
  p2 : Bool
  p3 : Bool
  deriving DecidableEq, Repr

/-- The content of a change: WRITE with its payload, or ERASE, which has none (R19). -/
inductive Change where
  | write (payload : List Byte)
  | erase
  deriving DecidableEq, Repr

/-- WRITE or ERASE, as CHANGED and INSPECT_INFO report it (R171). -/
inductive ChangeKind where
  | write | erase
  deriving DecidableEq, Repr

/-- The phase of a queue entry (R19). -/
inductive Phase where
  | pending | programming
  deriving DecidableEq, Repr

/-- A queue entry: the nine fields of R19, kind and payload in one. -/
structure QueueEntry where
  record   : Nat
  change   : Change
  version  : Half
  phase    : Phase
  origins  : PortSet
  marks    : PortSet
  attempts : Nat
  target   : Option Location
  deriving DecidableEq, Repr

/-- An open FLUSH record (R37). -/
structure FlushRecord where
  tag   : Byte
  count : Nat
  fault : Bool
  deriving DecidableEq, Repr

/-! ### States of the power manager, the controller and the ports -/

/-- The part states (R149). -/
inductive PartState where
  | startup | run | holdup | parked | resuming
  deriving DecidableEq, Repr

/-- The reset causes (R151). -/
inductive ResetCause where
  | powerOn | brownOut | pin
  deriving DecidableEq, Repr

/-- The last-shutdown verdicts (R155). -/
inductive Verdict where
  | clean | unclean | unknown
  deriving DecidableEq, Repr

/-- The supply monitor's record of what took place during a reset (R151). -/
structure ResetRecord where
  belowPowerOn  : Bool
  belowBrownOut : Bool
  deriving DecidableEq, Repr

/-- The modes of the array controller (R61, R62). -/
inductive ArrayMode where
  | scan | fetchFirst | drainFirst | drainOnly
  deriving DecidableEq, Repr

/-- The operation in flight (R46). A FETCH names the request-table entry it serves; a scan fetch, whether its scan
order was withdrawn after it started, so that its outcome is discarded (R60). -/
inductive ArrayOp where
  | fetch (entry : Nat) (slot : Nat)
  | program (slot : Nat)
  | markerProgram (value : MarkerValue)
  | scanFetch (slot : Nat) (withdrawn : Bool)
  deriving DecidableEq, Repr

/-- The session states (R117). -/
inductive SessionState where
  | linkDown | linkUp | session
  deriving DecidableEq, Repr

/-- The link modes (R130). -/
inductive LinkMode where
  | async | clocked
  deriving DecidableEq, Repr

/-- The frame receiver (R140): HUNTING, IN_FRAME with the length byte once it has come and the body and CRC bytes
so far, or SKIPPING with the number of bytes still to be counted. -/
inductive Receiver where
  | hunting
  | inFrame (length : Option Nat) (got : List Byte)
  | skipping (left : Nat)
  deriving DecidableEq, Repr

/-! ### Frames -/

/-- The NAK codes with the field each carries (R171). -/
inductive NakCode where
  | badKind | noSession | tagInUse | notReady | badRec | badArg
  | holdup | parked
  | claimed (holder : PortId)
  | faulted
  | versionMismatch (visible : Half)
  | empty (version : Half)
  | corrupt
  | flushPending | claimFull | notHeld | watchFull
  deriving DecidableEq, Repr

/-- A queue entry as INSPECT_INFO reports it (R172). -/
structure InspectEntry where
  phase    : Phase
  kind     : ChangeKind
  version  : Half
  attempts : Nat
  target   : Option Location
  deriving DecidableEq, Repr

/-- The fields of INSPECT_INFO (R86). -/
structure InspectInfo where
  record   : Nat
  row      : Row
  entries  : List InspectEntry
  visible  : Half
  claim    : Option (PortId × Nat)
  watchers : Nat
  deriving DecidableEq, Repr

/-- The fields of STATUS_INFO but the part identity, which is fixed (R128). -/
structure StatusInfo where
  partState   : PartState
  cause       : ResetCause
  verdict     : Verdict
  markerFault : Bool
  occupancy   : Nat
  mode        : ArrayMode
  freeSpares  : Nat
  corrupt     : Nat
  faulted     : Nat
  claims      : Nat
  watches     : Nat
  epoch       : Byte
  session     : SessionState
  frameErr    : Bool
  overrun     : Bool
  noticeGap   : Bool
  deriving DecidableEq, Repr

/-- What a response says, its tag apart (R171). -/
inductive Answer where
  | data (record : Nat) (version : Half) (payload : List Byte)
  | accepted (record : Nat) (version : Half) (coalesced : Bool)
  | inspectInfo (info : InspectInfo)
  | flushed (someFaulted : Bool)
  | granted (record : Nat) (lease : Nat)
  | released (record : Nat)
  | watching (record : Nat)
  | unwatched (record : Nat)
  | opened (epoch : Byte) (part : PartState)
  | closed (epoch : Byte)
  | statusInfo (info : StatusInfo)
  | resynced (lost : Bool)
  | nak (kind : Byte) (code : NakCode)
  deriving DecidableEq, Repr

/-- A response: the tag of its request and the answer (R169). -/
structure Response where
  tag    : Byte
  answer : Answer
  deriving DecidableEq, Repr

/-- A notice, its gap mark apart (06, 6.3). -/
inductive Notice where
  | linkup (port : PortId) (part : PartState)
  | changed (record : Nat) (version : Half) (writer : PortId) (kind : ChangeKind)
  | fault (record : Nat) (version : Half)
  | claimExpired (record : Nat)
  | power (part : PartState)
  deriving DecidableEq, Repr

/-- A frame of a transmit queue; a notice with its gap mark (R115, R146). -/
inductive TxFrame where
  | response (r : Response)
  | notice (n : Notice) (gap : Bool)
  deriving DecidableEq, Repr

/-- A good frame in a receive buffer: its body, and the value OVERRUN had when it was admitted, which a RESYNC
carries (R144). -/
structure RxFrame where
  body    : List Byte
  overrun : Bool
  deriving DecidableEq, Repr

/-! ### The request table, the ports, the claims -/

/-- The states of a held entry (R74). -/
inductive EntryState where
  | dispatched | waitFetch | fetching | waitSpace | waitFlush | orphan
  deriving DecidableEq, Repr

/-- The arguments of a request; a kind without a field holds the zero there (R73). -/
structure Args where
  record   : Nat
  expected : Half
  payload  : List Byte
  lease    : Nat
  overrun  : Bool
  deriving DecidableEq, Repr

/-- A held entry of the request table (R73). `id` is its number: 0..7 reserved, two a port, 8..15 pooled (R72), so
it also says `pooled`. `current` is the session field. -/
structure Entry where
  id       : Nat
  port     : PortId
  tag      : Byte
  kind     : Byte
  args     : Args
  current  : Bool
  state    : EntryState
  response : Option Response
  deriving DecidableEq, Repr

/-- What one host port holds: link (08), session (07), FLUSH record (R37) and the order of its held responses
(R87). `sending` is the count of bytes sent of the head frame while it is in progress, `outByte` the byte a
CLOCKED port is presenting on DOUT, `selected` whether SELn is active (R135). -/
structure Port where
  mode      : LinkMode
  session   : SessionState
  epoch     : Byte
  bitPeriod : Option Nat
  receiver  : Receiver
  rxBuffer  : List RxFrame
  tx        : List TxFrame
  sending   : Option Nat
  outByte   : Option Byte
  selected  : Bool
  frameErr  : Bool
  overrun   : Bool
  noticeGap : Bool
  flush     : Option FlushRecord
  held      : List Nat
  deriving DecidableEq, Repr

/-- The four ports. -/
structure Ports where
  p0 : Port
  p1 : Port
  p2 : Port
  p3 : Port
  deriving DecidableEq, Repr

/-- A claim, its record apart (R92). -/
structure Claim where
  holder : PortId
  lease  : Nat
  deriving DecidableEq, Repr

/-- An entry of the watch table (R105). -/
structure Watch where
  record : Nat
  port   : PortId
  deriving DecidableEq, Repr

/-! ### The state -/

/-- The state of the part. Lists keyed by a number (directory, cells, spares, claims) are kept in rising order of
the key and list no value that an unlisted key reads as (log 24). -/
structure State where
  /-- The commands that wait, first in, first out (the model's own field, log 15). -/
  pending       : List Instr
  ports         : Ports
  /-- The held entries of the request table (R72). -/
  table         : List Entry
  /-- The pool arbiter's last-granted port (R77). -/
  lastGranted   : PortId
  /-- The pending write queue, oldest entry first (R18). -/
  queue         : List QueueEntry
  /-- The space-waiter list, as entry numbers (R34). -/
  spaceWait     : List Nat
  /-- The directory rows that differ from the reset row (R5, R6). -/
  directory     : List (Nat × Row)
  /-- The directory is marked built (R6). -/
  built         : Bool
  /-- The bytes of the cell array that differ from delivery (R14, R173). -/
  cells         : List Host.Cell
  /-- The array operation in flight (R46). -/
  op            : Option ArrayOp
  /-- The marker program requested and not yet started (R70). -/
  markerRequest : Option MarkerValue
  /-- The fetch waiting list, as entry numbers (R50). -/
  fetchWait     : List Nat
  mode          : ArrayMode
  /-- The starvation count (R58). -/
  starvation    : Nat
  /-- The spares that are not RETIRED (R68). -/
  spares        : List (Nat × SpareState)
  /-- The place in scan order of the next scan fetch (R60). -/
  scanNext      : Nat
  /-- The claim table, keyed by record (R92). -/
  claims        : List (Nat × Claim)
  /-- The watch table (R105). -/
  watches       : List Watch
  partState     : PartState
  resetCause    : ResetCause
  verdict       : Verdict
  markerFault   : Bool
  /-- The scan order stands (R154). -/
  scanOrder     : Bool
  /-- The marker sequence in course and its attempt (R159, R163). -/
  markerSeq     : Option (MarkerValue × Nat)
  /-- The recognised PFW level is asserted (R153). -/
  pfwAsserted   : Bool
  /-- The part is held in reset, with the supply monitor's record (R150, R151). -/
  resetHold     : Option ResetRecord
  deriving DecidableEq, Repr

/-- The part has no fault that stops it (INVENTORY, Faults): no command raises one, so the type is empty. -/
inductive Fault where
  deriving DecidableEq, Repr

/-- The refusals of the model. -/
inductive Refusal where
  /-- A command that has no meaning yet, raised by exec's arms alone (safe: the model stops). No arm raises it. -/
  | notModelled (mnemonic : String)
  deriving DecidableEq, Repr

/-! ### Reset values -/

/-- Every directory row after a reset (R6). -/
def Row.reset : Row := ⟨.empty, 0, 0, .primary⟩

/-- A port after a reset with this strap (R131); the LINKUP of a CLOCKED port is placed at the end of the reset. No
byte is in course: where SELn is active already when the reset ends, which R131 leaves open, the port is unselected until
SELn next becomes active (DESIGN CHOICE, unsafe, log 18). -/
def Port.reset (mode : LinkMode) : Port where
  mode      := mode
  session   := match mode with | .async => .linkDown | .clocked => .linkUp
  epoch     := 0
  bitPeriod := none
  receiver  := .hunting
  rxBuffer  := []
  tx        := []
  sending   := none
  outByte   := none
  selected  := false
  frameErr  := false
  overrun   := false
  noticeGap := false
  flush     := none
  held      := []

/-- The machine right after the end of a power-on reset with PFW deasserted (R149, R152): STARTUP, the scan ordered
and its first fetch in flight. Straps: P0 and P1 ASYNC, P2 and P3 CLOCKED (DESIGN CHOICE, log 12). The array is as
delivered (log 13). -/
def State.reset : State where
  pending       := []
  ports         := ⟨Port.reset .async, Port.reset .async,
                    { Port.reset .clocked with tx := [.notice (.linkup .p2 .startup) false] },
                    { Port.reset .clocked with tx := [.notice (.linkup .p3 .startup) false] }⟩
  table         := []
  lastGranted   := .p3
  queue         := []
  spaceWait     := []
  directory     := []
  built         := false
  cells         := []
  op            := some (.scanFetch Config.markerSlot false)
  markerRequest := none
  fetchWait     := []
  mode          := .scan
  starvation    := 0
  spares        := []
  scanNext      := 1
  claims        := []
  watches       := []
  partState     := .startup
  resetCause    := .powerOn
  verdict       := .unknown
  markerFault   := false
  scanOrder     := true
  markerSeq     := none
  pfwAsserted   := false
  resetHold     := none

end Sys2Proof.Machine
end

