-- ==== Sys2Proof/Machine/Bytes.lean ====
section
/-! DEFINITION. Byte order, the check word, and the images of slots. -/

namespace Sys2Proof.Machine

/-! ### Byte order: most significant byte first (00, Conventions; 10) -/

/-- The two bytes of a 16-bit field, most significant first. -/
def halfBytes (h : Half) : List Byte := [(h >>> 8).setWidth 8, h.setWidth 8]

/-- The 16-bit field of two bytes. -/
def halfOf (hi lo : Byte) : Half := (hi.setWidth 16 <<< 8) ||| lo.setWidth 16

/-- The two bytes of a record number, a lease or a count. -/
def natBytes (n : Nat) : List Byte := halfBytes (BitVec.ofNat 16 n)

/-- Byte i of a byte string, 00H beyond its end. -/
def byteAt (bytes : List Byte) (i : Nat) : Byte := bytes.getD i 0

/-- The 16-bit field at byte i. -/
def halfAt (bytes : List Byte) (i : Nat) : Half := halfOf (byteAt bytes i) (byteAt bytes (i + 1))

/-! ### The check word (R15, R169) -/

/-- One bit of the CRC: polynomial 1021H, most significant bit first. -/
def crcBit (c : Half) : Half := if c.msb then (c <<< 1) ^^^ 0x1021#16 else c <<< 1

/-- One byte of the CRC, taken most significant bit first. -/
def crcByte (c : Half) (b : Byte) : Half :=
  crcBit (crcBit (crcBit (crcBit (crcBit (crcBit (crcBit (crcBit (c ^^^ (b.setWidth 16 <<< 8)))))))))

/-- The check word: initial value FFFFH, no reflection, no final inversion (R169). -/
def crc (bytes : List Byte) : Half := bytes.foldl crcByte 0xFFFF#16

/-! ### Slot images (R15, R173) -/

/-- R173: the marker value of a VALID-image. -/
def validMark : Byte := 0x3C
/-- R173: the marker value of an EMPTY-image. -/
def emptyMark : Byte := 0x5A
/-- R173: the marker value of a FREE image. -/
def freeMark : Byte := 0xA5
/-- R173: the owner field of a FREE spare. -/
def noOwner : Half := 0xFFFF

/-- A record or spare image: six fields, the payload padded with 00H to 48 bytes, then the check word (R15, R173). -/
def slotImage (mark : Byte) (owner version : Half) (payload : List Byte) : List Byte :=
  let body := [mark] ++ halfBytes owner ++ halfBytes version ++ [BitVec.ofNat 8 payload.length] ++
    (payload ++ List.replicate (Config.maxPayload - payload.length) 0)
  body ++ halfBytes (crc body)

/-- The marker value of a marker image (R173). -/
def markerMark : MarkerValue → Byte
  | .clean => 0x96
  | .dirty => 0x69

/-- The marker image: the value, its check word, and 00H fill (R17, R173). -/
def markerImage (v : MarkerValue) : List Byte :=
  [markerMark v] ++ halfBytes (crc [markerMark v]) ++ List.replicate 53 0

/-- The image a queue entry programs: a VALID-image for a WRITE, an EMPTY-image for an ERASE (R15, R46). -/
def entryImage (e : QueueEntry) : List Byte :=
  match e.change with
  | .write payload => slotImage validMark (BitVec.ofNat 16 e.record) e.version payload
  | .erase => slotImage emptyMark (BitVec.ofNat 16 e.record) e.version []

/-- What a slot holds as the part is delivered (R14, R173). -/
def deliveredImage (slot : Nat) : List Byte :=
  if slot < Config.records then slotImage emptyMark (BitVec.ofNat 16 slot) 0 []
  else if slot < Config.markerSlot then slotImage freeMark noOwner 0 []
  else markerImage .clean

/-- The role of a slot (R14). -/
inductive SlotRole where
  | primary (record : Nat)
  | spare
  deriving DecidableEq, Repr

/-- R16, test 1: the check word matches. -/
def checkWordGood (image : List Byte) : Bool := halfAt image 54 == crc (image.take 54)

/-- R16, test 2: the marker value is one that the role allows. -/
def markGood (role : SlotRole) (image : List Byte) : Bool :=
  match role with
  | .primary _ => byteAt image 0 == validMark || byteAt image 0 == emptyMark
  | .spare => byteAt image 0 == validMark || byteAt image 0 == emptyMark || byteAt image 0 == freeMark

/-- R16, test 3: the owner agrees with the role and the marker value. -/
def ownerGood (role : SlotRole) (image : List Byte) : Bool :=
  match role with
  | .primary r => (halfAt image 1).toNat == r
  | .spare =>
    if byteAt image 0 == freeMark then halfAt image 1 == noOwner
    else (halfAt image 1).toNat < Config.records

/-- R16, test 4: the length is 1..48 for a VALID-image and 0 otherwise. -/
def lengthGood (image : List Byte) : Bool :=
  if byteAt image 0 == validMark then
    1 ≤ (byteAt image 5).toNat && (byteAt image 5).toNat ≤ Config.maxPayload
  else (byteAt image 5).toNat == 0

/-- The first four tests of R16. -/
def imageGood (role : SlotRole) (image : List Byte) : Bool :=
  checkWordGood image && markGood role image && ownerGood role image && lengthGood image

/-- The four tests, and a VALID-image with version 0 taken as bad, as the scan judges (R156, R157). -/
def scanGood (role : SlotRole) (image : List Byte) : Bool :=
  imageGood role image && !(byteAt image 0 == validMark && halfAt image 3 == 0)

/-- The payload of an image: the first `length` bytes of its payload field (R52, R173). -/
def imagePayload (image : List Byte) (length : Nat) : List Byte := (image.drop 6).take length

/-- The verdict of a marker image, from its bytes 0 to 2 alone (R155, R173). -/
def imageVerdict (image : List Byte) : Verdict :=
  if halfAt image 1 == crc (image.take 1) then
    if byteAt image 0 == markerMark .clean then .clean
    else if byteAt image 0 == markerMark .dirty then .unclean
    else .unknown
  else .unknown

end Sys2Proof.Machine
end

