-- ==== Sys2Proof/Machine/Ops.lean ====
section
/-! DEFINITION. The named operations on ports, sets of ports, keyed lists, the cell array, the directory, the spare
pool and the request table, and the placing of responses and notices. -/

namespace Sys2Proof.Machine

/-! ### Ports -/

/-- P0 to P3 in order. -/
def allPorts : List PortId := [.p0, .p1, .p2, .p3]

/-- The port's number, 0..3 (R171). -/
def portNumber : PortId → Nat
  | .p0 => 0
  | .p1 => 1
  | .p2 => 2
  | .p3 => 3

/-- The port after p in the arbiter's order P0, P1, P2, P3, P0 (R77). -/
def nextPort : PortId → PortId
  | .p0 => .p1
  | .p1 => .p2
  | .p2 => .p3
  | .p3 => .p0

/-- One port's state. -/
def portOf (s : State) : PortId → Port
  | .p0 => s.ports.p0
  | .p1 => s.ports.p1
  | .p2 => s.ports.p2
  | .p3 => s.ports.p3

/-- The ports with one replaced. -/
def setPorts (ps : Ports) (p : PortId) (x : Port) : Ports :=
  match p with
  | .p0 => { ps with p0 := x }
  | .p1 => { ps with p1 := x }
  | .p2 => { ps with p2 := x }
  | .p3 => { ps with p3 := x }

/-- The state with one port replaced. -/
def setPort (s : State) (p : PortId) (x : Port) : State := { s with ports := setPorts s.ports p x }

/-- The state with one port changed. -/
def updPort (p : PortId) (f : Port → Port) (s : State) : State := setPort s p (f (portOf s p))

/-! ### Sets of ports -/

/-- The set with no port. -/
def noPorts : PortSet := ⟨false, false, false, false⟩

/-- Membership. -/
def inPorts (ps : PortSet) : PortId → Bool
  | .p0 => ps.p0
  | .p1 => ps.p1
  | .p2 => ps.p2
  | .p3 => ps.p3

/-- The set with p's membership set to b. -/
def putPort (ps : PortSet) (p : PortId) (b : Bool) : PortSet :=
  match p with
  | .p0 => { ps with p0 := b }
  | .p1 => { ps with p1 := b }
  | .p2 => { ps with p2 := b }
  | .p3 => { ps with p3 := b }

/-- The set with p added. -/
def addPort (ps : PortSet) (p : PortId) : PortSet := putPort ps p true

/-- The set with p removed. -/
def dropPort (ps : PortSet) (p : PortId) : PortSet := putPort ps p false

/-- The union of two sets. -/
def joinPorts (a b : PortSet) : PortSet := ⟨a.p0 || b.p0, a.p1 || b.p1, a.p2 || b.p2, a.p3 || b.p3⟩

/-- Do a thing for each port in turn, P0 first. -/
def forPorts (f : PortId → State → State) (s : State) : State := f .p3 (f .p2 (f .p1 (f .p0 s)))

/-! ### Lists keyed by a number, keys rising -/

/-- The value at key k, if one is listed. -/
def keyedFind {α : Type} : List (Nat × α) → Nat → Option α
  | [], _ => none
  | (j, v) :: rest, k => if j = k then some v else keyedFind rest k

/-- The list with v at key k. -/
def keyedInsert {α : Type} (k : Nat) (v : α) : List (Nat × α) → List (Nat × α)
  | [] => [(k, v)]
  | (j, w) :: rest =>
    if k < j then (k, v) :: (j, w) :: rest
    else if k = j then (k, v) :: rest
    else (j, w) :: keyedInsert k v rest

/-- The list with nothing at key k. -/
def keyedErase {α : Type} (k : Nat) (l : List (Nat × α)) : List (Nat × α) := l.filter (fun e => e.1 != k)

/-- The value at key k where an unlisted key reads as `unlisted k`. -/
def keyedGet {α : Type} (unlisted : Nat → α) (l : List (Nat × α)) (k : Nat) : α :=
  (keyedFind l k).getD (unlisted k)

/-- The list after key k is given the value v: a value an unlisted key reads as is not listed. -/
def keyedSet {α : Type} [DecidableEq α] (unlisted : Nat → α) (k : Nat) (v : α) (l : List (Nat × α)) : List (Nat × α) :=
  if v = unlisted k then keyedErase k l else keyedInsert k v l

/-- The keys rise strictly. -/
abbrev KeysRise {α : Type} (l : List (Nat × α)) : Prop := l.Pairwise (fun a b => a.1 < b.1)

/-- The canonical form of a keyed list: keys rise, and no value is listed that an unlisted key reads as. -/
abbrev Canonical {α : Type} (unlisted : Nat → α) (l : List (Nat × α)) : Prop :=
  KeysRise l ∧ ∀ e ∈ l, e.2 ≠ unlisted e.1

/-! ### The cell array (R14, R173) -/

/-- The address of a byte of a slot. -/
def cellAddress (slot i : Nat) : Nat := Config.slotBytes * slot + i

/-- What an unlisted address reads as: the byte delivered with the part (R14, R173, log 13). -/
def deliveredByte (a : Nat) : Byte := byteAt (deliveredImage (a / Config.slotBytes)) (a % Config.slotBytes)

/-- One byte of the array. -/
def readCell (s : State) (a : Nat) : Byte := keyedGet deliveredByte s.cells a

/-- The array's bytes after a byte string is written from an address on. -/
def writeBytes (a : Nat) : List Byte → List Host.Cell → List Host.Cell
  | [], cells => cells
  | b :: rest, cells => writeBytes (a + 1) rest (keyedSet deliveredByte a b cells)

/-- A slot read whole. -/
def readSlot (s : State) (slot : Nat) : List Byte :=
  (List.range Config.slotBytes).map (fun i => readCell s (cellAddress slot i))

/-- A slot's 56 cells written; bytes beyond 56 are not. -/
def writeSlot (slot : Nat) (bytes : List Byte) (s : State) : State :=
  { s with cells := writeBytes (cellAddress slot 0) (bytes.take Config.slotBytes) s.cells }

/-- The canonical form of the cell array: equal arrays are equal lists (log 24). -/
abbrev CellsCanonical (cells : List Host.Cell) : Prop := Canonical deliveredByte cells

/-- The bytes a read of a slot returns (log 5). -/
def cellsRead (s : State) (slot : Nat) : Cells → List Byte
  | .expected => readSlot s slot
  | .other bytes => bytes

/-- The bytes a program leaves in its slot, `image` being the image written (log 5). -/
def cellsLeft (image : List Byte) : Cells → List Byte
  | .expected => image
  | .other bytes => bytes

/-- R46: a program's outcome is VERIFY_OK when every byte read back equals the byte written. -/
def verifyOk (image : List Byte) (got : Cells) : Bool := cellsLeft image got == image

/-! ### The directory and the spare pool -/

/-- A directory row (R5); an unlisted row is the reset row (R6). -/
def rowOf (s : State) (r : Nat) : Row := keyedGet (fun _ => Row.reset) s.directory r

/-- The directory with row r set. -/
def setRow (r : Nat) (row : Row) (s : State) : State :=
  { s with directory := keyedSet (fun _ => Row.reset) r row s.directory }

/-- The slot that a location of record r names (R46). -/
def slotOf (r : Nat) : Location → Nat
  | .primary => r
  | .spare n => Config.records + n

/-- The role of the slot that a location of record r names. -/
def roleOf (r : Nat) : Location → SlotRole
  | .primary => .primary r
  | .spare _ => .spare

/-- The state of spare n; an unlisted spare is RETIRED (R49, R68). -/
def spareOf (s : State) (n : Nat) : SpareState := keyedGet (fun _ => SpareState.retired) s.spares n

/-- The pool with spare n set. -/
def setSpare (n : Nat) (x : SpareState) (s : State) : State :=
  { s with spares := keyedSet (fun _ => SpareState.retired) n x s.spares }

/-- A location's spare, if it is one, becomes RETIRED. -/
def retire (l : Location) (s : State) : State :=
  match l with
  | .primary => s
  | .spare n => setSpare n .retired s

/-- The lowest-numbered FREE spare (R66, R69). -/
def lowestFree (s : State) : Option Nat := (List.range Config.spares).find? (fun n => spareOf s n == .free)

/-- The count of FREE spares (R69). -/
def freeSpares (s : State) : Nat := ((List.range Config.spares).filter (fun n => spareOf s n == .free)).length

/-- The number of directory rows in a state (R128). -/
def rowCount (s : State) (x : RowState) : Nat :=
  ((List.range Config.records).filter (fun r => (rowOf s r).state == x)).length

/-- Marks the failed target of a program, a newly reserved spare, RETIRED; a primary or the serving spare stays as
it is (R66, R67). -/
def retireReserved (r : Nat) (target : Location) (s : State) : State :=
  if target = (rowOf s r).location then s else retire target s

/-! ### The request table (R72, R73) -/

/-- The held entry with this number. -/
def entryOf (s : State) (id : Nat) : Option Entry := s.table.find? (fun e => e.id == id)

/-- The table with the entry of this number changed. -/
def updEntry (id : Nat) (f : Entry → Entry) (s : State) : State :=
  { s with table := s.table.map (fun e => if e.id = id then f e else e) }

/-- The entry of this number freed (R88). -/
def freeEntry (id : Nat) (s : State) : State := { s with table := s.table.filter (fun e => e.id != id) }

/-- Whether the entry of this number is free. -/
def entryFree (s : State) (id : Nat) : Bool := s.table.all (fun e => e.id != id)

/-- A free reserved entry of p, if there is one (R76); of two, the lower-numbered (DESIGN CHOICE, safe, log 20: R76
names neither). -/
def freeReserved (s : State) (p : PortId) : Option Nat :=
  [2 * portNumber p, 2 * portNumber p + 1].find? (entryFree s)

/-- A free pooled entry, if there is one (R77); of several, the lowest-numbered (DESIGN CHOICE, safe, log 20: R77
names none). -/
def freePooled (s : State) : Option Nat :=
  ((List.range Config.tableSize).drop Config.firstPooled).find? (entryFree s)

/-- A port's outstanding count (R78). -/
def outstanding (s : State) (p : PortId) : Nat :=
  (portOf s p).rxBuffer.length + (s.table.filter (fun e => e.port == p && e.current)).length

/-! ### Transmit queues: responses (R87), notices (R110, R114, R115) -/

/-- Whether a frame takes a response slot. -/
def isResponse : TxFrame → Bool
  | .response _ => true
  | .notice _ _ => false

/-- Response slots in use. -/
def responseCount (tx : List TxFrame) : Nat := (tx.filter isResponse).length

/-- Notice slots in use. -/
def noticeCount (tx : List TxFrame) : Nat := (tx.filter (fun f => !isResponse f)).length

/-- A frame joins the back of a port's transmit queue; an ASYNC port starts it if the queue was empty (R146, R147). -/
def pushTx (f : TxFrame) (x : Port) : Port :=
  { x with tx := x.tx ++ [f], sending := if x.mode = .async ∧ x.tx = [] then some 0 else x.sending }

/-- A response slot of the port is free and no older response of the port is held (R87). -/
def canPlace (x : Port) : Bool := x.held.isEmpty && responseCount x.tx < Config.responseSlots

/-- The answer of a held entry is formed: placed, which frees the entry, or held behind the older held responses of
its port (R74, R87). -/
def answer (id : Nat) (a : Answer) (s : State) : State :=
  match entryOf s id with
  | none => s
  | some e =>
    if canPlace (portOf s e.port) then
      freeEntry id (updPort e.port (pushTx (.response ⟨e.tag, a⟩)) s)
    else
      updEntry id (fun e => { e with state := .dispatched, response := some ⟨e.tag, a⟩ })
        (updPort e.port (fun x => { x with held := x.held ++ [id] }) s)

/-- A NAK of the entry's request (04, 4.6; R171). -/
def refuse (e : Entry) (code : NakCode) (s : State) : State := answer e.id (.nak e.kind code) s

/-- A response slot of p has freed: the oldest held response is placed and its entry freed (R87). -/
def placeHeld (p : PortId) (s : State) : State :=
  match (portOf s p).held with
  | [] => s
  | id :: rest =>
    match entryOf s id with
    | some e =>
      match e.response with
      | some r => freeEntry id (updPort p (fun x => pushTx (.response r) { x with held := rest }) s)
      | none => updPort p (fun x => { x with held := rest }) s
    | none => updPort p (fun x => { x with held := rest }) s

/-- A notice produced for a port: placed in a free notice slot with the gap mark of NOTICE_GAP, which it clears, or
dropped, which sets NOTICE_GAP (R114, R115). -/
def offerNotice (n : Notice) (x : Port) : Port :=
  if noticeCount x.tx < Config.noticeSlots then
    { pushTx (.notice n x.noticeGap) x with noticeGap := false }
  else { x with noticeGap := true }

/-- A notice other than LINKUP: a port without a session is passed over (R110). -/
def notify (n : Notice) (p : PortId) (s : State) : State :=
  if (portOf s p).session = .session then updPort p (offerNotice n) s else s

/-- LINKUP, placed whether or not the port has a session (R110, R148). -/
def placeLinkup (p : PortId) (s : State) : State := updPort p (offerNotice (.linkup p s.partState)) s

/-! ### The claim table and the watch table -/

/-- The claim on record r, if there is one (R92). -/
def claimOf (s : State) (r : Nat) : Option Claim := keyedFind s.claims r

/-- Port p watches record r (R105). -/
def isWatching (s : State) (r : Nat) (p : PortId) : Bool := s.watches.any (fun w => w.record == r && w.port == p)

/-! ### Commands while the part is held in reset (R150) -/

/-- A command's effect: none while the part is held in reset. -/
def whileRunning (f : State → State) (s : State) : Host.Outcome State Fault Refusal :=
  if s.resetHold.isSome then .next s else .next (f s)

end Sys2Proof.Machine
end

