-- ==== Sys2Proof/Machine/Operands.lean ====
section
/-! DEFINITION. The operands of requests: kind codes, the body layouts of R170, and the dispatch checks of R79 to R82. -/

namespace Sys2Proof.Machine

/-! ### Kind codes (R169) -/

def kindRead : Byte := 0x01
def kindWrite : Byte := 0x02
def kindWriteIf : Byte := 0x03
def kindErase : Byte := 0x04
def kindInspect : Byte := 0x05
def kindFlush : Byte := 0x06
def kindClaim : Byte := 0x10
def kindRelease : Byte := 0x11
def kindWatch : Byte := 0x18
def kindUnwatch : Byte := 0x19
def kindOpen : Byte := 0x20
def kindClose : Byte := 0x21
def kindStatus : Byte := 0x22
def kindResync : Byte := 0x28

/-- The fourteen request codes (R169). -/
def requestKinds : List Byte :=
  [kindRead, kindWrite, kindWriteIf, kindErase, kindInspect, kindFlush, kindClaim, kindRelease, kindWatch,
   kindUnwatch, kindOpen, kindClose, kindStatus, kindResync]

/-- The kind byte opens the body (R169). -/
def bodyKind (body : List Byte) : Byte := byteAt body 0

/-- The tag follows the kind (R169). -/
def bodyTag (body : List Byte) : Byte := byteAt body 1

/-- RESYNC as the port recognises it: kind 28H with a body of exactly 3 bytes (R144, R170). -/
def isResync (body : List Byte) : Bool := bodyKind body == kindResync && body.length == 3

/-! ### Body layouts (R170) -/

/-- The kinds that carry a record. -/
def carriesRecord (kind : Byte) : Bool :=
  [kindRead, kindWrite, kindWriteIf, kindErase, kindInspect, kindClaim, kindRelease, kindWatch, kindUnwatch].contains kind

/-- The byte that holds the payload length n of a WRITE or a WRITE_IF (R170). -/
def payloadLengthAt (kind : Byte) : Nat := if kind = kindWriteIf then 6 else 4

/-- The body lengths that a kind's layout allows (R170). -/
def bodyLengthGood (kind : Byte) (length : Nat) : Bool :=
  if kind = kindWrite then 5 ≤ length && length ≤ 53
  else if kind = kindWriteIf then 7 ≤ length && length ≤ 55
  else if kind = kindClaim then length == 6
  else if carriesRecord kind then length == 4
  else length == 3

/-- The arguments of a request as its body carries them (R73, R170). `overrun` is the value the frame carries (R144). -/
def argsOf (f : RxFrame) : Args where
  record   := if carriesRecord (bodyKind f.body) then (halfAt f.body 2).toNat else 0
  expected := if bodyKind f.body = kindWriteIf then halfAt f.body 4 else 0
  payload  :=
    if bodyKind f.body = kindWrite ∨ bodyKind f.body = kindWriteIf then
      f.body.drop (payloadLengthAt (bodyKind f.body) + 1)
    else []
  lease    := if bodyKind f.body = kindClaim then (halfAt f.body 4).toNat else 0
  overrun  := f.overrun

/-- R170: the payload argument is bad when n is 0 or above 48, or when the bytes that follow n are not n. -/
def payloadBad (body : List Byte) : Bool :=
  let at' := payloadLengthAt (bodyKind body)
  let n := (byteAt body at').toNat
  n == 0 || n > Config.maxPayload || (body.drop (at' + 1)).length != n

/-- Dispatch check 5: the argument tests in the order body length, record, expected version, payload, lease; the
expected version is never refused (R82). -/
def checkArgs (f : RxFrame) : Option NakCode :=
  let kind := bodyKind f.body
  if !bodyLengthGood kind f.body.length then some .badArg
  else if carriesRecord kind && Config.records ≤ (argsOf f).record then some .badRec
  else if (kind == kindWrite || kind == kindWriteIf) && payloadBad f.body then some .badArg
  else if kind == kindClaim && ((argsOf f).lease == 0 || Config.maxLease < (argsOf f).lease) then some .badArg
  else none

/-- The body of a request of this kind with these arguments, by the layouts of R170. -/
def bodyOf (kind tag : Byte) (a : Args) : List Byte :=
  [kind, tag] ++
    (if kind = kindWrite then
      natBytes a.record ++ [BitVec.ofNat 8 a.payload.length] ++ a.payload
    else if kind = kindWriteIf then
      natBytes a.record ++ halfBytes a.expected ++ [BitVec.ofNat 8 a.payload.length] ++ a.payload
    else if kind = kindClaim then natBytes a.record ++ natBytes a.lease
    else if carriesRecord kind then natBytes a.record
    else [0])

/-! ### Dispatch (R79, R80, R81) -/

/-- The kinds that need no session (R79, check 2). -/
def sessionless (kind : Byte) : Bool := kind == kindOpen || kind == kindStatus || kind == kindResync

/-- R80: the kinds refused in STARTUP: those of the data, claim and watch classes. -/
def refusedInStartup (kind : Byte) : Bool :=
  [kindRead, kindWrite, kindWriteIf, kindErase, kindInspect, kindFlush, kindClaim, kindRelease, kindWatch,
   kindUnwatch].contains kind

/-- R80: the kinds refused in RESUMING: the same but READ and INSPECT. -/
def refusedInResuming (kind : Byte) : Bool :=
  [kindWrite, kindWriteIf, kindErase, kindFlush, kindClaim, kindRelease, kindWatch, kindUnwatch].contains kind

/-- Check 4. -/
def notReady (part : PartState) (kind : Byte) : Bool :=
  match part with
  | .startup => refusedInStartup kind
  | .resuming => refusedInResuming kind
  | .run => false
  | .holdup => false
  | .parked => false

/-- Check 3: another entry of p whose session is current holds the tag, and the kind is not RESYNC (R81). -/
def tagInUse (s : State) (p : PortId) (id : Nat) (tag kind : Byte) : Bool :=
  kind != kindResync && s.table.any (fun e => e.port == p && e.current && e.id != id && e.tag == tag)

/-- The dispatch checks of R79 on a frame of port p that has taken entry id; the first that applies. -/
def dispatchCheck (s : State) (p : PortId) (id : Nat) (f : RxFrame) : Option NakCode :=
  let kind := bodyKind f.body
  if !requestKinds.contains kind then some .badKind
  else if (portOf s p).session != .session && !sessionless kind then some .noSession
  else if tagInUse s p id (bodyTag f.body) kind then some .tagInUse
  else if notReady s.partState kind then some .notReady
  else checkArgs f

/-- The entry that a frame of port p fills (R73). -/
def newEntry (id : Nat) (p : PortId) (f : RxFrame) : Entry where
  id       := id
  port     := p
  tag      := bodyTag f.body
  kind     := bodyKind f.body
  args     := argsOf f
  current  := true
  state    := .dispatched
  response := none

/-- The frame leaves p's receive buffer, whose rest is `rest`, and fills entry id (R76). -/
def takeFrame (p : PortId) (id : Nat) (f : RxFrame) (rest : List RxFrame) (s : State) : State :=
  updPort p (fun x => { x with rxBuffer := rest }) { s with table := s.table ++ [newEntry id p f] }

/-- The frame takes entry id and is dispatched at once: refused, or handed to the block that owns its kind (R76,
R79). -/
def dispatch (handler : Entry → State → State) (p : PortId) (id : Nat) (f : RxFrame) (rest : List RxFrame)
    (s : State) : State :=
  match dispatchCheck (takeFrame p id f rest s) p id f with
  | some code => refuse (newEntry id p f) code (takeFrame p id f rest s)
  | none => handler (newEntry id p f) (takeFrame p id f rest s)

/-- A request command of port p: the head frame, if it is of a kind that `rowKind` admits and a reserved entry of p
is free, takes it and is dispatched; otherwise the command does not take place (R76, log 2, log 3). -/
def request (rowKind : Byte → Bool) (handler : Entry → State → State) (p : PortId) (s : State) : State :=
  match (portOf s p).rxBuffer with
  | [] => s
  | f :: rest =>
    if rowKind (bodyKind f.body) then
      match freeReserved s p with
      | some id => dispatch handler p id f rest s
      | none => s
    else s

/-- The change that a request asks for: ERASE, or WRITE for a WRITE or a WRITE_IF (R19). -/
def changeOf (e : Entry) : Change := if e.kind = kindErase then .erase else .write e.args.payload

/-- The expected version of a WRITE_IF (R20, step 4). -/
def expectedOf (e : Entry) : Option Half := if e.kind = kindWriteIf then some e.args.expected else none

end Sys2Proof.Machine
end

