-- ==== Sys2Proof/Machine/Flags.lean ====
section
/-! DEFINITION. The port flags FRAME_ERR and OVERRUN, the window check that sets OVERRUN, and the flags as STATUS
reports them. NOTICE_GAP is computed where notices are placed (Machine/Ops.lean). -/

namespace Sys2Proof.Machine

/-- A frame failure sets FRAME_ERR; setting a set flag leaves it set (R142). -/
def setFrameErr (x : Port) : Port := { x with frameErr := true }

/-- A STATUS that has read FRAME_ERR clears it (R127, R142). -/
def clearFrameErr (x : Port) : Port := { x with frameErr := false }

/-- A frame joins the back of the receive buffer with the OVERRUN value it met, and OVERRUN is then clear: it was
clear, or the frame is the RESYNC that clears it (R143, R144). -/
def admitFrame (body : List Byte) (x : Port) : Port :=
  { x with rxBuffer := x.rxBuffer ++ [⟨body, x.overrun⟩], overrun := false }

/-- The window check on a good frame (R143, R144). -/
def windowCheck (p : PortId) (body : List Byte) (s : State) : State :=
  if (portOf s p).overrun then
    if isResync body && outstanding s p < Config.window then updPort p (admitFrame body) s else s
  else if outstanding s p < Config.window then updPort p (admitFrame body) s
  else updPort p (fun x => { x with overrun := true }) s

/-- The flags byte of STATUS_INFO: bit 0 FRAME_ERR, bit 1 OVERRUN, bit 2 NOTICE_GAP (R172). -/
def flagsByte (i : StatusInfo) : Byte :=
  (if i.frameErr then 1 else 0) ||| (if i.overrun then 2 else 0) ||| (if i.noticeGap then 4 else 0)

end Sys2Proof.Machine
end

