-- ==== Sys2Proof/Machine/Queue.lean ====
section
/-! DEFINITION. The pending write queue: forwarding and visible state, acceptance, the space-waiter list, FLUSH
marks, and the removal of entries at success and at fault (02; 01, 1.2 and 1.5). -/

namespace Sys2Proof.Machine

/-! ### Forwarding and visible state (R12, R29) -/

/-- The record's PENDING entry, if it has one. -/
def pendingEntry (s : State) (r : Nat) : Option QueueEntry :=
  s.queue.find? (fun e => e.record == r && e.phase == .pending)

/-- The record's PROGRAMMING entry, if it has one. -/
def programmingEntry (s : State) (r : Nat) : Option QueueEntry :=
  s.queue.find? (fun e => e.record == r && e.phase == .programming)

/-- The forwarding lookup: PENDING, otherwise PROGRAMMING, otherwise none (R29). -/
def newestEntry (s : State) (r : Nat) : Option QueueEntry := (pendingEntry s r).or (programmingEntry s r)

/-- The visible version of a record (R12). -/
def visibleVersion (s : State) (r : Nat) : Half :=
  match newestEntry s r with
  | some e => e.version
  | none => (rowOf s r).version

/-- The successor of a version (R2). -/
def nextVersion (v : Half) : Half := if v = 65535#16 then 1#16 else v + 1#16

/-- The answer that the visible state gives a READ without a fetch, or none where it needs one (R13). -/
def readOutcome (s : State) (r : Nat) : Option Answer :=
  match newestEntry s r with
  | some e =>
    match e.change with
    | .write payload => some (.data r e.version payload)
    | .erase => some (.nak kindRead (.empty e.version))
  | none =>
    match (rowOf s r).state with
    | .empty => some (.nak kindRead (.empty (rowOf s r).version))
    | .corrupt => some (.nak kindRead .corrupt)
    | .faulted => some (.nak kindRead .faulted)
    | .valid => none

/-! ### Acceptance (R20 to R28) -/

/-- The outcomes of acceptance (R20). -/
inductive Decision where
  | refused (code : NakCode)
  | merge
  | append
  | wait
  deriving DecidableEq, Repr

/-- Step 2 of acceptance: the holder of a claim on r, if it is a port other than p (R22). -/
def otherHolder (s : State) (p : PortId) (r : Nat) : Option PortId :=
  match claimOf s r with
  | some c => if c.holder = p then none else some c.holder
  | none => none

/-- The NAK of step 1 of acceptance and of step 1 of CLAIM (R20, R95). In STARTUP and RESUMING dispatch has
refused already. -/
def notRunCode : PartState → NakCode
  | .holdup => .holdup
  | .parked => .parked
  | .startup => .notReady
  | .resuming => .notReady
  | .run => .notReady

/-- The steps of acceptance, in order (R20). -/
def acceptance (s : State) (p : PortId) (r : Nat) (expected : Option Half) : Decision :=
  if s.partState ≠ .run then .refused (notRunCode s.partState)
  else match otherHolder s p r with
    | some holder => .refused (.claimed holder)
    | none =>
      if (rowOf s r).state = .faulted then .refused .faulted
      else if expected.any (fun v => v != visibleVersion s r) then .refused (.versionMismatch (visibleVersion s r))
      else if (pendingEntry s r).isSome then .merge
      else if s.queue.length < Config.queueSize then .append
      else .wait

/-- A change merged into its record's PENDING entry (R24). -/
def mergeChange (p : PortId) (r : Nat) (change : Change) (v : Half) (q : List QueueEntry) : List QueueEntry :=
  q.map (fun e =>
    if e.record = r ∧ e.phase = .pending then
      { e with change := change, version := v, origins := addPort e.origins p }
    else e)

/-- A new entry (R25). -/
def freshEntry (p : PortId) (r : Nat) (change : Change) (v : Half) : QueueEntry where
  record   := r
  change   := change
  version  := v
  phase    := .pending
  origins  := addPort noPorts p
  marks    := noPorts
  attempts := 0
  target   := none

/-- The mode after an acceptance (R61). -/
def modeAfterAcceptance (s : State) : State :=
  if s.partState = .run ∧ s.mode = .fetchFirst ∧ Config.highWater ≤ s.queue.length then
    { s with mode := .drainFirst }
  else s

/-- The mode after a removal (R61). -/
def modeAfterRemoval (s : State) : State :=
  if s.partState = .run ∧ s.mode = .drainFirst ∧ s.queue.length ≤ Config.lowWater then
    { s with mode := .fetchFirst }
  else s

/-- WRITE or ERASE (R28, R111). -/
def kindOf : Change → ChangeKind
  | .write _ => .write
  | .erase => .erase

/-- CHANGED to each watcher of the record other than the writer (R111). -/
def reportChange (p : PortId) (r : Nat) (v : Half) (kind : ChangeKind) (s : State) : State :=
  forPorts (fun q s => if isWatching s r q && q != p then notify (.changed r v p kind) q s else s) s

/-- The change placed in the queue, merged or as a new entry, with version v (R24, R25). -/
def placeChange (p : PortId) (r : Nat) (change : Change) (v : Half) (coalesced : Bool) (s : State) : State :=
  modeAfterAcceptance { s with queue :=
    if coalesced then mergeChange p r change v s.queue else s.queue ++ [freshEntry p r change v] }

/-- An acceptance in full: the successor version, the entry, ACCEPTED, and the report to the watch unit (R26, R28). -/
def acceptChange (e : Entry) (coalesced : Bool) (s : State) : State :=
  let r := e.args.record
  let v := nextVersion (visibleVersion s r)
  reportChange e.port r v (kindOf (changeOf e))
    (answer e.id (.accepted r v coalesced) (placeChange e.port r (changeOf e) v coalesced s))

/-- The acceptance decision on a held entry's change. -/
def decisionOf (e : Entry) (s : State) : Decision := acceptance s e.port e.args.record (expectedOf e)

/-! ### The space-waiter list (R34 to R36) -/

/-- The entry joins the back of the space-waiter list in the state WAIT_SPACE (R34). -/
def joinWaiters (e : Entry) (s : State) : State :=
  updEntry e.id (fun x => { x with state := .waitSpace }) { s with spaceWait := s.spaceWait ++ [e.id] }

/-- A change of port p waits in the list (R35). -/
def hasWaiter (s : State) (p : PortId) : Bool :=
  s.spaceWait.any (fun id => (entryOf s id).any (fun e => e.port == p))

/-- A decided change: refused with its NAK or accepted (R20). -/
def settleChange (e : Entry) (d : Decision) (s : State) : State :=
  match d with
  | .refused code => refuse e code s
  | .merge => acceptChange e true s
  | .append => acceptChange e false s
  | .wait => s

/-- A change that has passed dispatch: behind its port's waiter, or to acceptance (R35, R85). -/
def handleChange (e : Entry) (s : State) : State :=
  if hasWaiter s e.port then joinWaiters e s
  else if decisionOf e s = .wait then joinWaiters e s
  else settleChange e (decisionOf e s) s

/-- The waiter leaves the list. -/
def leaveWaiters (id : Nat) (s : State) : State := { s with spaceWait := s.spaceWait.filter (fun j => j != id) }

/-- A retry pass over the waiters listed, oldest first; `blocked` holds the ports with an earlier waiter that stays
(R36). -/
def retryWalk : List Nat → PortSet → State → State
  | [], _, s => s
  | id :: rest, blocked, s =>
    match entryOf s id with
    | none => retryWalk rest blocked s
    | some e =>
      if inPorts blocked e.port then retryWalk rest blocked s
      else if decisionOf e s = .wait then retryWalk rest (addPort blocked e.port) s
      else retryWalk rest blocked (settleChange e (decisionOf e s) (leaveWaiters id s))

/-- The retry pass that follows each removal (R36). -/
def retryPass (s : State) : State := retryWalk s.spaceWait noPorts s

/-! ### FLUSH (R37 to R42) -/

/-- p's open FLUSH entry in the request table. -/
def flushEntry (s : State) (p : PortId) : Option Entry :=
  s.table.find? (fun e => e.port == p && e.state == .waitFlush)

/-- Every entry whose origin set contains p takes p into its flush marks (R38). -/
def markQueue (p : PortId) (q : List QueueEntry) : List QueueEntry :=
  q.map (fun e => if inPorts e.origins p then { e with marks := addPort e.marks p } else e)

/-- The number of entries whose origin set contains p. -/
def originCount (p : PortId) (q : List QueueEntry) : Nat := (q.filter (fun e => inPorts e.origins p)).length

/-- n entries marked by p have left the queue: the count falls, a fault is noted, and at 0 the FLUSH is answered and
its record closed (R41). -/
def dropMarks (p : PortId) (n : Nat) (fault : Bool) (s : State) : State :=
  if n = 0 then s
  else match (portOf s p).flush with
    | none => s
    | some f =>
      if f.count ≤ n then
        match flushEntry s p with
        | some e => answer e.id (.flushed (f.fault || fault)) (updPort p (fun x => { x with flush := none }) s)
        | none => updPort p (fun x => { x with flush := none }) s
      else updPort p (fun x => { x with flush := some { f with count := f.count - n, fault := f.fault || fault } }) s

/-- How many of the entries carry p's mark. -/
def markCount (p : PortId) (q : List QueueEntry) : Nat := (q.filter (fun e => inPorts e.marks p)).length

/-- Each port's marks on the removed entries leave (R31 step 2, R32 step 3). -/
def dropAllMarks (removed : List QueueEntry) (fault : Bool) (s : State) : State :=
  forPorts (fun p s => dropMarks p (markCount p removed) fault s) s

/-! ### Removal (R31, R32) -/

/-- The entry being programmed (R47: at most one). -/
def inProgramming (s : State) : Option QueueEntry := s.queue.find? (fun e => e.phase == .programming)

/-- The row that the success of an entry leaves (R7). -/
def rowAfter (e : QueueEntry) (location : Location) : Row :=
  match e.change with
  | .write payload => ⟨.valid, e.version, payload.length, location⟩
  | .erase => ⟨.empty, e.version, 0, location⟩

/-- The program of e has succeeded: pool and row (R7, R64), removal and mode (R31 step 1, R61), marks (step 2), retry
pass (step 4). The empty queue of step 3 is read where the power manager acts on it (`settle`). -/
def commit (e : QueueEntry) (s : State) : State :=
  let old := (rowOf s e.record).location
  let target := e.target.getD old
  let s := if target = old then s else retire old s
  let s := setRow e.record (rowAfter e target) s
  let s := modeAfterRemoval { s with queue := s.queue.filter (fun x => !(x.record == e.record && x.phase == .programming)) }
  retryPass (dropAllMarks [e] false s)

/-- The watch unit's FAULT notices: each watcher of the record and each port of the union, once (R112). -/
def reportFault (r : Nat) (v : Half) (origins : PortSet) (s : State) : State :=
  forPorts (fun q s => if isWatching s r q || inPorts origins q then notify (.fault r v) q s else s) s

/-- The controller has given e up: removal of e and of its record's PENDING entry, the FAULTED row (R9), FAULT
notices, marks, retry pass, in the order of R32. -/
def faultRecord (e : QueueEntry) (s : State) : State :=
  let r := e.record
  let newer := (pendingEntry s r).toList
  let v := visibleVersion s r
  let s := setRow r ⟨.faulted, v, 0, (rowOf s r).location⟩ s
  let s := modeAfterRemoval { s with queue := s.queue.filter (fun x => x.record != r) }
  let s := reportFault r v ((e :: newer).foldl (fun o x => joinPorts o x.origins) noPorts) s
  retryPass (dropAllMarks (e :: newer) true s)

end Sys2Proof.Machine
end

