-- ==== Sys2Proof/Machine/Controller.lean ====
section
/-! DEFINITION. The array controller: the fetch waiting list, the choice of the next operation and its start (03, 3.2
to 3.4), and the power manager's CLEAN sequence on an empty queue and an idle array (R162, R163). -/

namespace Sys2Proof.Machine

/-! ### The fetch waiting list (R50, R58) -/

/-- The waiting list replaced; an empty list returns the starvation count to 0 (R50). -/
def setFetchWait (l : List Nat) (s : State) : State :=
  { s with fetchWait := l, starvation := if l = [] then 0 else s.starvation }

/-- A READ joins the back of the list in the state WAIT_FETCH (R50). -/
def joinFetch (e : Entry) (s : State) : State :=
  updEntry e.id (fun x => { x with state := .waitFetch }) { s with fetchWait := s.fetchWait ++ [e.id] }

/-! ### Starting operations -/

/-- The FETCH of a READ's record starts (R51); the starvation count returns to 0 (R58). -/
def startFetch (e : Entry) (s : State) : State :=
  updEntry e.id (fun x => { x with state := .fetching })
    { s with
      op := some (.fetch e.id (slotOf e.args.record (rowOf s e.args.record).location))
      starvation := 0 }

/-- The choice takes the oldest READs in turn: each leaves the list and is looked up again, and is answered without a
fetch or has its FETCH started, which ends the walk (R51). -/
def takeReads : List Nat → State → State
  | [], s => s
  | id :: rest, s =>
    match entryOf s id with
    | none => takeReads rest (setFetchWait rest s)
    | some e =>
      match readOutcome s e.args.record with
      | some a => takeReads rest (answer id a (setFetchWait rest s))
      | none => startFetch e (setFetchWait rest s)

/-- The start of a program turns the first PENDING entry of the queue into PROGRAMMING with attempts 1 and the
record's location as its target (R30, R63). -/
def startFirst (target : QueueEntry → Location) : List QueueEntry → List QueueEntry
  | [] => []
  | e :: rest =>
    if e.phase = .pending then
      { e with phase := .programming, attempts := 1, target := some (target e) } :: rest
    else e :: startFirst target rest

/-- The oldest PENDING entry (R18). -/
def oldestPending (s : State) : Option QueueEntry := s.queue.find? (fun e => e.phase == .pending)

/-- The program of the oldest PENDING entry starts, if there is one; under DRAIN_FIRST with a READ waiting it counts
towards the starvation count (R58, R63). -/
def startProgram (s : State) : State :=
  match oldestPending s with
  | none => s
  | some e =>
    { s with
      queue := startFirst (fun x => (rowOf s x.record).location) s.queue
      op := some (.program (slotOf e.record (rowOf s e.record).location))
      starvation :=
        if s.mode = .drainFirst ∧ s.fetchWait ≠ [] then min (s.starvation + 1) Config.starvationLimit
        else s.starvation }

/-- The next slot in scan order: the marker slot, the primaries, the spares (R60). -/
def scanSlot (position : Nat) : Nat := if position = 0 then Config.markerSlot else position - 1

/-- The next scan fetch starts (R60). -/
def startScan (s : State) : State :=
  if s.scanNext < Config.slots then
    { s with op := some (.scanFetch (scanSlot s.scanNext) false), scanNext := s.scanNext + 1 }
  else s

/-! ### The choice (R55 to R60) -/

/-- f, and g if f started nothing. -/
def orElse (f g : State → State) (s : State) : State := if (f s).op.isSome then f s else g (f s)

/-- The READs of the waiting list, oldest first. -/
def chooseRead (s : State) : State := takeReads s.fetchWait s

/-- The choice of the current mode: R56, R57, R59, R60. -/
def chooseByMode (s : State) : State :=
  match s.mode with
  | .fetchFirst => orElse chooseRead startProgram s
  | .drainFirst =>
    if s.starvation = Config.starvationLimit ∧ s.fetchWait ≠ [] then orElse chooseRead startProgram s
    else orElse startProgram chooseRead s
  | .drainOnly => startProgram s
  | .scan => if s.scanOrder then startScan s else s

/-- The next operation of an idle controller: a requested marker program, a retry or remap attempt, or the choice of
the mode (R55). -/
def choose (s : State) : State :=
  match s.markerRequest with
  | some v => { s with markerRequest := none, op := some (.markerProgram v) }
  | none =>
    match inProgramming s with
    | some e =>
      { s with op := some (.program (slotOf e.record (e.target.getD (rowOf s e.record).location))) }
    | none => chooseByMode s

/-- The choice is made when the controller is idle (R47). -/
def chooseIfIdle (s : State) : State := if s.op = none then choose s else s

/-- A marker sequence begins: attempt 1 is requested (R159, R163). -/
def beginSequence (v : MarkerValue) (s : State) : State :=
  { s with markerSeq := some (v, 1), markerRequest := some v }

/-- In HOLDUP, with the queue empty and the array idle and no marker sequence in course, the CLEAN sequence begins
(R44, R162, R163). -/
def cleanIfDrained (s : State) : State :=
  if s.partState = .holdup ∧ s.queue = [] ∧ s.op = none ∧ s.markerSeq = none then
    chooseIfIdle (beginSequence .clean s)
  else s

/-- What follows each event at the controller: its choice, and the power manager's reaction to an idle array (R47,
R163). -/
def settle (s : State) : State := cleanIfDrained (chooseIfIdle s)

/-- A request row's meaning: the request, then the choice that it may have made due (R47). -/
def serve (rowKind : Byte → Bool) (handler : Entry → State → State) (p : PortId) (s : State) : State :=
  settle (request rowKind handler p s)

end Sys2Proof.Machine
end

