-- ==== Sys2Proof/Machine/Formats.lean ====
section
/-! DEFINITION. The byte layouts of responses and notices, and the frame on the wire (R169, R171, R172). -/

namespace Sys2Proof.Machine

/-! ### Codes (R171) -/

/-- 00H for no, 01H for yes. -/
def boolByte (b : Bool) : Byte := if b then 1 else 0

/-- A port's code. -/
def portByte (p : PortId) : Byte := BitVec.ofNat 8 (portNumber p)

/-- A part state's code. -/
def partByte : PartState → Byte
  | .startup => 0
  | .run => 1
  | .holdup => 2
  | .parked => 3
  | .resuming => 4

/-- A change kind's code. -/
def changeByte : ChangeKind → Byte
  | .write => 0
  | .erase => 1

/-- A reset cause's code. -/
def causeByte : ResetCause → Byte
  | .powerOn => 0
  | .brownOut => 1
  | .pin => 2

/-- A verdict's code. -/
def verdictByte : Verdict → Byte
  | .clean => 0
  | .unclean => 1
  | .unknown => 2

/-- An array mode's code. -/
def modeByte : ArrayMode → Byte
  | .scan => 0
  | .fetchFirst => 1
  | .drainFirst => 2
  | .drainOnly => 3

/-- A session state's code. LINK_DOWN has none: it is never reported (R128). -/
def sessionByte : SessionState → Byte
  | .linkDown => 0
  | .linkUp => 1
  | .session => 2

/-- A directory state's code. -/
def rowStateByte : RowState → Byte
  | .empty => 0
  | .valid => 1
  | .corrupt => 2
  | .faulted => 3

/-- A location's code: the spare's number, or FFH for PRIMARY. -/
def locationByte : Location → Byte
  | .primary => 0xFF
  | .spare n => BitVec.ofNat 8 n

/-- A target's code: FEH for the absent target of a PENDING entry. -/
def targetByte : Option Location → Byte
  | none => 0xFE
  | some l => locationByte l

/-- A phase's code. -/
def phaseByte : Phase → Byte
  | .pending => 0
  | .programming => 1

/-- The part identity: family code 5A42H, revision 01H. -/
def identityBytes : List Byte := [0x5A, 0x42, 0x01]

/-- A NAK code and its field. -/
def nakBytes : NakCode → List Byte
  | .badKind => [0x01]
  | .noSession => [0x02]
  | .tagInUse => [0x03]
  | .notReady => [0x04]
  | .badRec => [0x05]
  | .badArg => [0x06]
  | .holdup => [0x10]
  | .parked => [0x11]
  | .claimed holder => [0x20, portByte holder]
  | .faulted => [0x21]
  | .versionMismatch visible => [0x22] ++ halfBytes visible
  | .empty version => [0x23] ++ halfBytes version
  | .corrupt => [0x24]
  | .flushPending => [0x30]
  | .claimFull => [0x31]
  | .notHeld => [0x32]
  | .watchFull => [0x33]

/-! ### STATUS_INFO and INSPECT_INFO (R172) -/

/-- The bytes of STATUS_INFO after kind and tag. -/
def statusBytes (i : StatusInfo) : List Byte :=
  identityBytes ++
    [partByte i.partState, causeByte i.cause, verdictByte i.verdict, boolByte i.markerFault,
     BitVec.ofNat 8 i.occupancy, modeByte i.mode, BitVec.ofNat 8 i.freeSpares] ++
    natBytes i.corrupt ++ natBytes i.faulted ++
    [BitVec.ofNat 8 i.claims, BitVec.ofNat 8 i.watches, i.epoch, sessionByte i.session, flagsByte i]

/-- The six bytes of an entry of INSPECT_INFO. -/
def inspectEntryBytes (e : InspectEntry) : List Byte :=
  [phaseByte e.phase, changeByte e.kind] ++ halfBytes e.version ++ [BitVec.ofNat 8 e.attempts, targetByte e.target]

/-- The bytes of INSPECT_INFO after kind and tag. -/
def inspectBytes (i : InspectInfo) : List Byte :=
  natBytes i.record ++ [rowStateByte i.row.state] ++ halfBytes i.row.version ++
    [BitVec.ofNat 8 i.row.length, locationByte i.row.location, BitVec.ofNat 8 i.entries.length] ++
    (i.entries.map inspectEntryBytes).flatten ++ halfBytes i.visible ++
    (match i.claim with
      | some (holder, lease) => [portByte holder] ++ natBytes lease
      | none => [0xFF, 0, 0]) ++
    [BitVec.ofNat 8 i.watchers]

/-! ### Bodies and frames (R169, R171) -/

/-- The kind byte of a response. -/
def answerKind : Answer → Byte
  | .data _ _ _ => 0x81
  | .accepted _ _ _ => 0x82
  | .inspectInfo _ => 0x85
  | .flushed _ => 0x86
  | .granted _ _ => 0x90
  | .released _ => 0x91
  | .watching _ => 0x98
  | .unwatched _ => 0x99
  | .opened _ _ => 0xA0
  | .closed _ => 0xA1
  | .statusInfo _ => 0xA2
  | .resynced _ => 0xA8
  | .nak _ _ => 0xBF

/-- The bytes of a response after kind and tag. -/
def answerBytes : Answer → List Byte
  | .data r v payload => natBytes r ++ halfBytes v ++ [BitVec.ofNat 8 payload.length] ++ payload
  | .accepted r v coalesced => natBytes r ++ halfBytes v ++ [boolByte coalesced]
  | .inspectInfo i => inspectBytes i
  | .flushed someFaulted => [boolByte someFaulted]
  | .granted r lease => natBytes r ++ natBytes lease
  | .released r => natBytes r
  | .watching r => natBytes r
  | .unwatched r => natBytes r
  | .opened epoch part => [epoch, partByte part]
  | .closed epoch => [epoch]
  | .statusInfo i => statusBytes i
  | .resynced lost => [boolByte lost]
  | .nak kind code => [kind] ++ nakBytes code

/-- The kind byte of a notice. -/
def noticeKind : Notice → Byte
  | .linkup _ _ => 0xC0
  | .changed _ _ _ _ => 0xC1
  | .fault _ _ => 0xC2
  | .claimExpired _ => 0xC3
  | .power _ => 0xC4

/-- The bytes of a notice after kind and gap mark. -/
def noticeBytes : Notice → List Byte
  | .linkup p part => identityBytes ++ [portByte p, partByte part]
  | .changed r v writer kind => natBytes r ++ halfBytes v ++ [portByte writer, changeByte kind]
  | .fault r v => natBytes r ++ halfBytes v
  | .claimExpired r => natBytes r
  | .power part => [partByte part]

/-- The body of a frame the part sends. -/
def txBody : TxFrame → List Byte
  | .response r => [answerKind r.answer, r.tag] ++ answerBytes r.answer
  | .notice n gap => [noticeKind n, boolByte gap] ++ noticeBytes n

/-- A frame's delimiter (R140, R169). -/
def delimiter : Byte := 0xD3

/-- A frame on the wire: delimiter, length byte, body, check word over length byte and body (R169). -/
def wireFrame (body : List Byte) : List Byte :=
  [delimiter, BitVec.ofNat 8 body.length] ++ body ++ halfBytes (crc (BitVec.ofNat 8 body.length :: body))

/-- The bytes that the part sends for a frame of a transmit queue. -/
def txBytes (f : TxFrame) : List Byte := wireFrame (txBody f)

end Sys2Proof.Machine
end

