-- ==== Sys2Proof/Machine/Data.lean ====
section
/-! DEFINITION. The data requests READ, WRITE, WRITE_IF, ERASE, INSPECT, FLUSH (04, 4.4; 02, 2.7) and the refusal of a
kind that is none of the part's (R79). -/

namespace Sys2Proof.Machine

/-- A READ that has passed dispatch (R6, R83, R84). -/
def handleRead (e : Entry) (s : State) : State :=
  if s.built then
    match readOutcome s e.args.record with
    | some a => answer e.id a s
    | none =>
      match s.partState with
      | .run => joinFetch e s
      | .holdup => refuse e .holdup s
      | .parked => refuse e .parked s
      | .resuming => refuse e .parked s
      | .startup => refuse e .notReady s
  else refuse e .parked s

/-- A queue entry as INSPECT reports it (R86). -/
def inspectEntry (e : QueueEntry) : InspectEntry :=
  ⟨e.phase, kindOf e.change, e.version, e.attempts, e.target⟩

/-- The number of ports watching a record (R86, R105). -/
def watcherCount (s : State) (r : Nat) : Nat := (s.watches.filter (fun w => w.record == r)).length

/-- INSPECT_INFO as the part stands; the PROGRAMMING entry first (R86, R172). -/
def inspectInfoOf (s : State) (r : Nat) : InspectInfo where
  record   := r
  row      := rowOf s r
  entries  := ((programmingEntry s r).toList ++ (pendingEntry s r).toList).map inspectEntry
  visible  := visibleVersion s r
  claim    := (claimOf s r).map (fun c => (c.holder, c.lease))
  watchers := watcherCount s r

/-- An INSPECT that has passed dispatch (R6, R86). -/
def handleInspect (e : Entry) (s : State) : State :=
  if s.built then answer e.id (.inspectInfo (inspectInfoOf s e.args.record)) s else refuse e .parked s

/-- A FLUSH that has passed dispatch: refused while one is open, answered at once where it marks nothing, or open
with the number of entries it marks (R38, R39). -/
def handleFlush (e : Entry) (s : State) : State :=
  if (portOf s e.port).flush.isSome then refuse e .flushPending s
  else if originCount e.port s.queue = 0 then answer e.id (.flushed false) s
  else
    updEntry e.id (fun x => { x with state := .waitFlush })
      (updPort e.port (fun x => { x with flush := some ⟨e.tag, originCount e.port s.queue, false⟩ })
        { s with queue := markQueue e.port s.queue })

/-- READ (R83, R84). -/
def execRead (p : PortId) (s : State) : Host.Outcome State Fault Refusal :=
  whileRunning (serve (· == kindRead) handleRead p) s

/-- WRITE (R85). -/
def execWrite (p : PortId) (s : State) : Host.Outcome State Fault Refusal :=
  whileRunning (serve (· == kindWrite) handleChange p) s

/-- WRITE_IF (R85). -/
def execWriteIf (p : PortId) (s : State) : Host.Outcome State Fault Refusal :=
  whileRunning (serve (· == kindWriteIf) handleChange p) s

/-- ERASE (R85). -/
def execErase (p : PortId) (s : State) : Host.Outcome State Fault Refusal :=
  whileRunning (serve (· == kindErase) handleChange p) s

/-- INSPECT (R86). -/
def execInspect (p : PortId) (s : State) : Host.Outcome State Fault Refusal :=
  whileRunning (serve (· == kindInspect) handleInspect p) s

/-- FLUSH (R38). -/
def execFlush (p : PortId) (s : State) : Host.Outcome State Fault Refusal :=
  whileRunning (serve (· == kindFlush) handleFlush p) s

/-- BAD_KIND_REQUEST: the dispatch of a frame of another kind, which check 1 refuses (R79, R169). -/
def execBadKindRequest (p : PortId) (s : State) : Host.Outcome State Fault Refusal :=
  whileRunning (serve (fun kind => !requestKinds.contains kind) (fun e s => refuse e .badKind s) p) s

end Sys2Proof.Machine
end

