-- ==== Sys2Proof/Machine/Claims.lean ====
section
/-! DEFINITION. The claim unit: CLAIM, RELEASE, the claim clock and lease expiry (05). -/

namespace Sys2Proof.Machine

/-- A CLAIM that has passed dispatch, by the steps of R95. -/
def handleClaim (e : Entry) (s : State) : State :=
  let r := e.args.record
  let granted := answer e.id (.granted r e.args.lease)
    { s with claims := keyedInsert r ⟨e.port, e.args.lease⟩ s.claims }
  if s.partState ≠ .run then refuse e (notRunCode s.partState) s
  else match claimOf s r with
    | some c => if c.holder = e.port then granted else refuse e (.claimed c.holder) s
    | none => if Config.claimSlots ≤ s.claims.length then refuse e .claimFull s else granted

/-- A RELEASE that has passed dispatch (R99). -/
def handleRelease (e : Entry) (s : State) : State :=
  match claimOf s e.args.record with
  | some c =>
    if c.holder = e.port then
      answer e.id (.released e.args.record) { s with claims := keyedErase e.args.record s.claims }
    else refuse e .notHeld s
  | none => refuse e .notHeld s

/-- The claims whose lease the next tick brings to 0, in ascending order of record (R94). -/
def expiring (claims : List (Nat × Claim)) : List (Nat × Claim) := claims.filter (fun c => c.2.lease ≤ 1)

/-- The claims that the next tick leaves, each lease one lower (R93). -/
def ticked (claims : List (Nat × Claim)) : List (Nat × Claim) :=
  (claims.filter (fun c => !(c.2.lease ≤ 1))).map (fun c => (c.1, { c.2 with lease := c.2.lease - 1 }))

/-- CLAIM_EXPIRED to the holder of each claim listed, in order (R94). -/
def notifyExpired : List (Nat × Claim) → State → State
  | [], s => s
  | c :: rest, s => notifyExpired rest (notify (.claimExpired c.1) c.2.holder s)

/-- A tick of the claim clock: every lease falls by one, and every claim whose lease reaches 0 is removed at that
tick with CLAIM_EXPIRED (R93, R94). -/
def tick (s : State) : State := notifyExpired (expiring s.claims) { s with claims := ticked s.claims }

/-- CLAIM (R95). -/
def execClaim (p : PortId) (s : State) : Host.Outcome State Fault Refusal :=
  whileRunning (serve (· == kindClaim) handleClaim p) s

/-- RELEASE (R99). -/
def execRelease (p : PortId) (s : State) : Host.Outcome State Fault Refusal :=
  whileRunning (serve (· == kindRelease) handleRelease p) s

/-- CLAIM_CLOCK_TICK (R93). -/
def execClaimClockTick (s : State) : Host.Outcome State Fault Refusal := whileRunning tick s

/-- LEASE_EXPIRY: the tick at which the lease of this record's claim reaches 0 (R94; DEDUCED, log 7). -/
def execLeaseExpiry (r : Nat) (s : State) : Host.Outcome State Fault Refusal :=
  whileRunning (fun s => if (claimOf s r).any (fun c => c.lease ≤ 1) then tick s else s) s

end Sys2Proof.Machine
end

