-- ==== Sys2Proof/Machine/Watches.lean ====
section
/-! DEFINITION. The watch unit's WATCH and UNWATCH (06, 6.2). -/

namespace Sys2Proof.Machine

/-- A WATCH that has passed dispatch, by the steps of R106. -/
def handleWatch (e : Entry) (s : State) : State :=
  let r := e.args.record
  if isWatching s r e.port then answer e.id (.watching r) s
  else if Config.watchSlots ≤ s.watches.length then refuse e .watchFull s
  else answer e.id (.watching r) { s with watches := s.watches ++ [⟨r, e.port⟩] }

/-- An UNWATCH that has passed dispatch (R107). -/
def handleUnwatch (e : Entry) (s : State) : State :=
  answer e.id (.unwatched e.args.record)
    { s with watches := s.watches.filter (fun w => !(w.record == e.args.record && w.port == e.port)) }

/-- WATCH (R106). -/
def execWatch (p : PortId) (s : State) : Host.Outcome State Fault Refusal :=
  whileRunning (serve (· == kindWatch) handleWatch p) s

/-- UNWATCH (R107). -/
def execUnwatch (p : PortId) (s : State) : Host.Outcome State Fault Refusal :=
  whileRunning (serve (· == kindUnwatch) handleUnwatch p) s

end Sys2Proof.Machine
end

