-- ==== Sys2Proof/Machine/Sessions.lean ====
section
/-! DEFINITION. The session unit: OPEN, CLOSE, STATUS, and the teardown of a session (07). -/

namespace Sys2Proof.Machine

/-- The entry belongs to the session of p that ends; `keep` is the entry of a replacing OPEN (R123 step 2). -/
def endsWith (p : PortId) (keep : Option Nat) (e : Entry) : Bool := e.port == p && e.current && keep != some e.id

/-- What the end of its session leaves of an entry, by its state (R88, R123 step 2). -/
def endEntry (e : Entry) : Option Entry :=
  match e.state with
  | .dispatched => some { e with current := false }
  | .fetching => some { e with current := false, state := .orphan }
  | .orphan => some { e with current := false }
  | .waitFetch => none
  | .waitSpace => none
  | .waitFlush => none

/-- The numbers of the entries of the ending session. -/
def endingIds (p : PortId) (keep : Option Nat) (s : State) : List Nat :=
  (s.table.filter (endsWith p keep)).map (fun e => e.id)

/-- The teardown, in the order of R123: receive buffer; request-table entries with their waiting lists, marks and
FLUSH record; claims; watches. The queue's entries keep their contents and origins. -/
def teardown (p : PortId) (keep : Option Nat) (s : State) : State :=
  let gone := endingIds p keep s
  let s := updPort p (fun x => { x with rxBuffer := [], flush := none }) s
  let s := { s with table := s.table.filterMap (fun e => if endsWith p keep e then endEntry e else some e) }
  let s := setFetchWait (s.fetchWait.filter (fun id => !gone.contains id)) s
  { s with
    spaceWait := s.spaceWait.filter (fun id => !gone.contains id)
    queue     := s.queue.map (fun e => { e with marks := dropPort e.marks p })
    claims    := s.claims.filter (fun c => c.2.holder != p)
    watches   := s.watches.filter (fun w => w.port != p) }

/-- At an OPEN in LINK_UP the entries that p held there take the session field ended (R120). -/
def endSessionless (p : PortId) (keep : Nat) (s : State) : State :=
  { s with table := s.table.map (fun e => if endsWith p (some keep) e then { e with current := false } else e) }

/-- The next epoch: 255 gives 1 (R118). -/
def nextEpoch (n : Byte) : Byte := if n = 255#8 then 1#8 else n + 1#8

/-- p is in a new session: SESSION, the next epoch, NOTICE_GAP clear (R120). -/
def beginSession (x : Port) : Port :=
  { x with session := .session, epoch := nextEpoch x.epoch, noticeGap := false }

/-- An OPEN that has passed dispatch (R120, R121). -/
def handleOpen (e : Entry) (s : State) : State :=
  let s :=
    if (portOf s e.port).session = .session then teardown e.port (some e.id) s
    else endSessionless e.port e.id s
  answer e.id (.opened (nextEpoch (portOf s e.port).epoch) s.partState) (updPort e.port beginSession s)

/-- A CLOSE that has passed dispatch: CLOSED is formed first, then the teardown (R122). -/
def handleClose (e : Entry) (s : State) : State :=
  updPort e.port (fun x => { x with session := .linkUp })
    (teardown e.port none (answer e.id (.closed (portOf s e.port).epoch) s))

/-- STATUS_INFO as the part and port p stand (R128). -/
def statusInfoOf (s : State) (p : PortId) : StatusInfo where
  partState   := s.partState
  cause       := s.resetCause
  verdict     := s.verdict
  markerFault := s.markerFault
  occupancy   := s.queue.length
  mode        := s.mode
  freeSpares  := freeSpares s
  corrupt     := rowCount s .corrupt
  faulted     := rowCount s .faulted
  claims      := s.claims.length
  watches     := s.watches.length
  epoch       := (portOf s p).epoch
  session     := (portOf s p).session
  frameErr    := (portOf s p).frameErr
  overrun     := (portOf s p).overrun
  noticeGap   := (portOf s p).noticeGap

/-- A STATUS that has passed dispatch: the fields are read, then FRAME_ERR is cleared (R127). -/
def handleStatus (e : Entry) (s : State) : State :=
  updPort e.port clearFrameErr (answer e.id (.statusInfo (statusInfoOf s e.port)) s)

/-- A RESYNC that has passed dispatch: SOME if the OVERRUN value it carried was set (R145). -/
def handleResync (e : Entry) (s : State) : State := answer e.id (.resynced e.args.overrun) s

/-- OPEN (R120, R121). -/
def execOpen (p : PortId) (s : State) : Host.Outcome State Fault Refusal :=
  whileRunning (serve (· == kindOpen) handleOpen p) s

/-- CLOSE (R122). -/
def execClose (p : PortId) (s : State) : Host.Outcome State Fault Refusal :=
  whileRunning (serve (· == kindClose) handleClose p) s

/-- STATUS (R127). -/
def execStatus (p : PortId) (s : State) : Host.Outcome State Fault Refusal :=
  whileRunning (serve (· == kindStatus) handleStatus p) s

/-- RESYNC (R145). -/
def execResync (p : PortId) (s : State) : Host.Outcome State Fault Refusal :=
  whileRunning (serve (· == kindResync) handleResync p) s

end Sys2Proof.Machine
end

