-- ==== Sys2Proof/Machine/Arbiter.lean ====
section
/-! DEFINITION. The pool arbiter (R77). -/

namespace Sys2Proof.Machine

/-- The block that owns a kind (R80); dispatch check 1 has refused every other kind. -/
def handlerOf (kind : Byte) (e : Entry) (s : State) : State :=
  if kind = kindRead then handleRead e s
  else if kind = kindInspect then handleInspect e s
  else if kind = kindFlush then handleFlush e s
  else if kind = kindClaim then handleClaim e s
  else if kind = kindRelease then handleRelease e s
  else if kind = kindWatch then handleWatch e s
  else if kind = kindUnwatch then handleUnwatch e s
  else if kind = kindOpen then handleOpen e s
  else if kind = kindClose then handleClose e s
  else if kind = kindStatus then handleStatus e s
  else if kind = kindResync then handleResync e s
  else if kind = kindWrite ∨ kind = kindWriteIf ∨ kind = kindErase then handleChange e s
  else refuse e .badKind s

/-- p's head frame waits for a pooled entry: there is one, and p's reserved entries are held (R76). -/
def headWaits (s : State) (p : PortId) : Bool := !(portOf s p).rxBuffer.isEmpty && (freeReserved s p).isNone

/-- The ports in the arbiter's order, beginning with the port after the one last granted (R77). -/
def roundRobin (last : PortId) : List PortId :=
  [nextPort last, nextPort (nextPort last), nextPort (nextPort (nextPort last)), last]

/-- One grant: the first port in order whose head frame waits takes a free pooled entry, and its request is
dispatched (R76, R77). -/
def grant (s : State) : State :=
  match freePooled s, (roundRobin s.lastGranted).find? (headWaits s) with
  | some id, some p =>
    match (portOf s p).rxBuffer with
    | [] => s
    | f :: rest => dispatch (handlerOf (bodyKind f.body)) p id f rest { s with lastGranted := p }
  | _, _ => s

/-- POOL_GRANT (R77). -/
def execPoolGrant (s : State) : Host.Outcome State Fault Refusal := whileRunning (fun s => settle (grant s)) s

end Sys2Proof.Machine
end

