-- ==== Sys2Proof/Machine/Links.lean ====
section
/-! DEFINITION. The host links: bytes, frames, deselection, calibration, attention and transmission (08). -/

namespace Sys2Proof.Machine

/-! ### The frame receiver (R140, R141) -/

/-- The port exchanges bytes: it is not in LINK_DOWN (R117, R132). -/
def linkIsUp (s : State) (p : PortId) : Bool := (portOf s p).session != .linkDown

/-- A frame failure: the frame is discarded, FRAME_ERR is set, and the receiver goes on as given (R141). -/
def failFrame (next : Receiver) (x : Port) : Port := setFrameErr { x with receiver := next }

/-- The receiver while `left` bytes of a discarded frame are still to come (R141). -/
def skipTo (left : Nat) : Receiver := if left = 0 then .hunting else .skipping left

/-- A good frame: the receiver returns to HUNTING and the frame meets the window check (R140). -/
def goodFrame (p : PortId) (body : List Byte) (s : State) : State :=
  windowCheck p body (updPort p (fun x => { x with receiver := .hunting }) s)

/-- The second CRC byte has come: `got` is the body and the two CRC bytes (R140). -/
def checkFrame (p : PortId) (length : Nat) (got : List Byte) (s : State) : State :=
  let body := got.take length
  if halfAt got length = crc (BitVec.ofNat 8 length :: body) then goodFrame p body s
  else updPort p (failFrame .hunting) s

/-- A byte handed to the frame receiver; `good` is false for a stop-bit error (R140, R141). -/
def takeByte (p : PortId) (b : Byte) (good : Bool) (s : State) : State :=
  match (portOf s p).receiver with
  | .hunting =>
    if b = delimiter ∧ good then updPort p (fun x => { x with receiver := .inFrame none [] }) s else s
  | .inFrame none _ =>
    if good && Config.minBody ≤ b.toNat && b.toNat ≤ Config.maxBody then
      updPort p (fun x => { x with receiver := .inFrame (some b.toNat) [] }) s
    else updPort p (failFrame .hunting) s
  | .inFrame (some length) got =>
    if good then
      if (got ++ [b]).length < length + 2 then
        updPort p (fun x => { x with receiver := .inFrame (some length) (got ++ [b]) }) s
      else checkFrame p length (got ++ [b]) s
    else updPort p (failFrame (skipTo (length + 1 - got.length))) s
  | .skipping left => updPort p (fun x => { x with receiver := skipTo (left - 1) }) s

/-- A frame with this body can be the one that completes: nothing of it has come yet, or the bytes that have come are
its first (R140). -/
def frameFits (body : List Byte) : Receiver → Bool
  | .hunting => true
  | .inFrame none _ => true
  | .inFrame (some length) got =>
    length == body.length && got.isPrefixOf (body ++ halfBytes (crc (BitVec.ofNat 8 body.length :: body)))
  | .skipping _ => false

/-- How many bytes of a frame of this L are to come, its second CRC byte among them (R140). -/
def bytesToCome (length : Nat) : Receiver → Nat
  | .hunting => length + 4
  | .inFrame none _ => length + 3
  | .inFrame (some _) got => length + 2 - got.length
  | .skipping _ => 0

/-- The failure can befall a frame at this point of its reception on a port of this mode; a byte has a stop bit on
ASYNC alone (R141). -/
def failureFits (mode : LinkMode) (failure : FrameFailure) (receiver : Receiver) : Bool :=
  match failure, receiver with
  | _, .skipping _ => false
  | .badLength, .inFrame (some _) _ => false
  | .badLength, _ => true
  | .lengthStopBit, .inFrame (some _) _ => false
  | .lengthStopBit, _ => mode == .async
  | .stopBit left, .inFrame (some length) got => mode == .async && got.length + left ≤ length + 1
  | .stopBit _, _ => mode == .async
  | .crcMismatch length, .inFrame (some kept) _ => length == kept
  | .crcMismatch length, _ => Config.minBody ≤ length && length ≤ Config.maxBody

/-- Where hunting resumes after the failure (R141). -/
def afterFailure : FrameFailure → Receiver
  | .badLength => .hunting
  | .lengthStopBit => .hunting
  | .stopBit left => skipTo left
  | .crcMismatch _ => .hunting

/-- How many bytes come up to the one at which the failure is detected, that byte included, on a CLOCKED port (R141);
a CLOCKED byte has no stop bit. -/
def bytesToFailure (failure : FrameFailure) (receiver : Receiver) : Nat :=
  match failure, receiver with
  | .badLength, .hunting => 2
  | .badLength, _ => 1
  | .crcMismatch length, _ => bytesToCome length receiver
  | .lengthStopBit, _ => 0
  | .stopBit _, _ => 0

/-! ### Transmission (R136, R146, R147) -/

/-- At a byte boundary with SELn active: the next byte of the frame in progress, or the first of the head frame, or
fill (R136). -/
def presentNext (x : Port) : Port :=
  match x.tx with
  | [] => { x with sending := none, outByte := some 0xFF }
  | f :: _ => { x with sending := some (x.sending.getD 0), outByte := some (byteAt (txBytes f) (x.sending.getD 0)) }

/-- The head frame is off the queue; an ASYNC port starts the next one (R147). -/
def dropHead (rest : List TxFrame) (x : Port) : Port :=
  { x with tx := rest, sending := if x.mode = .async ∧ rest ≠ [] then some 0 else none }

/-- The last byte of the head frame has been sent: it leaves the queue, its slot frees, and a freed response slot
takes the oldest held response (R87, R146). -/
def frameLeaves (p : PortId) (s : State) : State :=
  match (portOf s p).tx with
  | [] => s
  | f :: rest =>
    if isResponse f then placeHeld p (updPort p (dropHead rest) s) else updPort p (dropHead rest) s

/-- SELn becoming active starts a byte, fixed at that moment: the first of the head frame, or fill (R135, R136). -/
def select (x : Port) : Port := presentNext { x with selected := true, sending := none }

/-- The outgoing byte in course completes and counts as sent (R135, R136). -/
def outgoingDone (p : PortId) (s : State) : State :=
  match (portOf s p).sending, (portOf s p).tx with
  | some k, f :: _ =>
    if k + 1 < (txBytes f).length then updPort p (fun x => { x with sending := some (k + 1) }) s
    else frameLeaves p s
  | _, _ => s

/-- The eighth rising edge of a byte on a CLOCKED port: the incoming byte, whose effect is `incoming`, and the outgoing
byte complete in the order given, and the next outgoing byte is decided (R135, R136, R143). -/
def exchange (p : PortId) (order : EdgeOrder) (incoming : State → State) (s : State) : State :=
  updPort p presentNext
    (match order with
      | .incomingFirst => outgoingDone p (incoming s)
      | .outgoingFirst => incoming (outgoingDone p s))

/-- n bytes exchanged on a CLOCKED port, in which the part's side alone is told (R135). -/
def exchangeOut (p : PortId) : Nat → State → State
  | 0, s => s
  | n + 1, s => exchangeOut p n (exchange p .incomingFirst id s)

/-! ### Attention (R139) -/

/-- The entries of p that attention frees: all but an ORPHAN, whose fetch is in flight (R125, R139). -/
def freedByAttention (p : PortId) (e : Entry) : Bool := e.port == p && e.state != .orphan

/-- The port after attention: queues and flags as steps 1, 3 and 4 leave them, and the link as step 5 restarts it. -/
def restartLink (x : Port) : Port :=
  { x with
    receiver  := .hunting
    rxBuffer  := []
    tx        := []
    sending   := none
    outByte   := none
    selected  := false
    overrun   := false
    noticeGap := false
    held      := []
    bitPeriod := none
    session   := match x.mode with | .async => .linkDown | .clocked => .linkUp }

/-- Attention on a port that is up, in the order of R139: teardown of a session, held responses and queues, flags,
link; a CLOCKED port places LINKUP. -/
def attend (p : PortId) (s : State) : State :=
  let s := if (portOf s p).session = .session then teardown p none s else s
  let s := updPort p restartLink { s with table := s.table.filter (fun e => !freedByAttention p e) }
  if (portOf s p).mode = .clocked then placeLinkup p s else s

/-! ### The commands -/

/-- The port can receive: an ASYNC port is up, a CLOCKED port is selected (R132, R135). -/
def canReceive (s : State) (p : PortId) : Bool :=
  match (portOf s p).mode with
  | .async => linkIsUp s p
  | .clocked => (portOf s p).selected

/-- FRAME_RECEIVED (R140, R143, R144; log 4): the bytes to come of the frame come; on CLOCKED each is exchanged for one
of the part's, and the frame is good at the edge of the last (R135, R136). -/
def execFrameReceived (p : PortId) (frame : WholeFrame) (s : State) : Host.Outcome State Fault Refusal :=
  whileRunning (fun s =>
    if canReceive s p && Config.minBody ≤ frame.body.length && frame.body.length ≤ Config.maxBody &&
        frameFits frame.body (portOf s p).receiver then
      match (portOf s p).mode with
      | .async => goodFrame p frame.body s
      | .clocked => exchange p frame.order (goodFrame p frame.body)
          (exchangeOut p (bytesToCome frame.body.length (portOf s p).receiver - 1) s)
    else s) s

/-- FRAME_ERROR (R141; log 4); on CLOCKED the bytes up to the failure are exchanged (R135, R136). -/
def execFrameError (p : PortId) (failure : FrameFailure) (s : State) : Host.Outcome State Fault Refusal :=
  whileRunning (fun s =>
    if canReceive s p && failureFits (portOf s p).mode failure (portOf s p).receiver then
      match (portOf s p).mode with
      | .async => updPort p (failFrame (afterFailure failure)) s
      | .clocked => exchange p .incomingFirst (updPort p (failFrame (afterFailure failure)))
          (exchangeOut p (bytesToFailure failure (portOf s p).receiver - 1) s)
    else s) s

/-- INTER_BYTE_GAP_TIMEOUT (R141): on ASYNC, while IN_FRAME or SKIPPING. -/
def execInterByteGapTimeout (p : PortId) (s : State) : Host.Outcome State Fault Refusal :=
  whileRunning (fun s =>
    if linkIsUp s p && (portOf s p).mode == .async && (portOf s p).receiver != .hunting then
      updPort p (failFrame .hunting) s
    else s) s

/-- DESELECTION (R135, R136, R141): on CLOCKED; the outgoing frame in progress ends and stays at the head, an
incoming partial frame fails. -/
def execDeselection (p : PortId) (s : State) : Host.Outcome State Fault Refusal :=
  whileRunning (fun s =>
    if (portOf s p).mode == .clocked then
      updPort p (fun x =>
        let x := if x.receiver = .hunting then x else failFrame .hunting x
        { x with sending := none, outByte := none, selected := false }) s
    else s) s

/-- CALIBRATION (R133): a low period of 8 µs to 834 µs on an ASYNC port in LINK_DOWN. The bit period is held in units
of 1/128 µs, in which it is the low time in timebase periods (log 23). -/
def execCalibration (p : PortId) (low : Nat) (s : State) : Host.Outcome State Fault Refusal :=
  whileRunning (fun s =>
    if (portOf s p).mode == .async && (portOf s p).session == .linkDown &&
        Config.calibrationMin ≤ low && low ≤ Config.calibrationMax then
      placeLinkup p (updPort p (fun x => { x with bitPeriod := some low, session := .linkUp }) s)
    else s) s

/-- ATTENTION (R139); in LINK_DOWN it has no effect (R137), and CLKn low with SELn active is no attention (R138). -/
def execAttention (p : PortId) (s : State) : Host.Outcome State Fault Refusal :=
  whileRunning (fun s =>
    if linkIsUp s p && !((portOf s p).mode == .clocked && (portOf s p).selected) then attend p s else s) s

/-- FRAME_SENT (R146; log 4): the head frame leaves; on CLOCKED the byte boundary follows (R136). There it stands for
the exchange of the rest of the frame with bytes that the receiver, hunting, passes over. -/
def execFrameSent (p : PortId) (s : State) : Host.Outcome State Fault Refusal :=
  whileRunning (fun s =>
    if canReceive s p && !(portOf s p).tx.isEmpty then
      match (portOf s p).mode with
      | .async => frameLeaves p s
      | .clocked => if (portOf s p).receiver = .hunting then updPort p presentNext (frameLeaves p s) else s
    else s) s

/-- BYTE_RECEIVED (R132, R135, R136, R140); a moment of the other link mode, a byte while SELn is inactive, or a
selection while it is active does not take place (log 2). -/
def execByteReceived (p : PortId) (b : Byte) (moment : ByteMoment) (order : EdgeOrder) (s : State) :
    Host.Outcome State Fault Refusal :=
  whileRunning (fun s =>
    match (portOf s p).mode, moment with
    | .async, .stopBit good => if canReceive s p then takeByte p b good s else s
    | .clocked, .eighthEdge => if canReceive s p then exchange p order (takeByte p b true) s else s
    | .clocked, .selection => if (portOf s p).selected then s else updPort p select s
    | _, _ => s) s

end Sys2Proof.Machine
end

