-- ==== Sys2Proof/Machine/Power.lean ====
section
/-! DEFINITION. The power manager: part states, the marker sequences' outcomes, PFW, reset and its end (09). -/

namespace Sys2Proof.Machine

/-! ### Changes of part state (R149, R113) -/

/-- POWER(new state) to every port in SESSION (R113). -/
def announce (s : State) : State := forPorts (fun p s => notify (.power s.partState) p s) s

/-- The mode at an entry into RUN (R62). -/
def modeAtRun (s : State) : ArrayMode := if Config.lowWater ≤ s.queue.length then .drainFirst else .fetchFirst

/-- Entry into RUN with POWER(RUN) (R62, R159, R164, R167). -/
def enterRun (s : State) : State := announce { s with partState := .run, mode := modeAtRun s }

/-- Each listed request in turn is answered NAK(HOLDUP) (R43, R54). -/
def refuseAll : List Nat → State → State
  | [], s => s
  | id :: rest, s =>
    match entryOf s id with
    | some e => refuseAll rest (refuse e .holdup s)
    | none => refuseAll rest s

/-- Every space waiter is answered NAK(HOLDUP) and the list left empty (R43). -/
def refuseWaiters (s : State) : State := refuseAll s.spaceWait { s with spaceWait := [] }

/-- Every READ that waits for a fetch is answered NAK(HOLDUP) and the list left empty (R54). -/
def refuseReads (s : State) : State := refuseAll s.fetchWait (setFetchWait [] s)

/-- HOLDUP from STARTUP or RESUMING, with POWER(HOLDUP) and mode DRAIN_ONLY (R161). -/
def enterHoldup (s : State) : State := announce { s with partState := .holdup, mode := .drainOnly }

/-- HOLDUP from RUN: POWER(HOLDUP), then the waiters, then the READs (R162; DEDUCED order, log 8). -/
def holdupFromRun (s : State) : State := refuseReads (refuseWaiters (enterHoldup s))

/-- PARKED with POWER(PARKED) (R160, R163). -/
def enterParked (s : State) : State := announce { s with partState := .parked }

/-- RESUMING, which begins the DIRTY sequence (R166, R167). -/
def enterResuming (s : State) : State := beginSequence .dirty { s with partState := .resuming }

/-- STARTUP with the scan order: verdict, directory and spare pool return to their reset values (R6, R49, R154). -/
def enterStartup (s : State) : State :=
  { s with
    partState := .startup
    verdict   := .unknown
    directory := []
    built     := false
    spares    := []
    scanOrder := true
    scanNext  := 0 }

/-- The operation in flight, a scan fetch marked so that its outcome is discarded (R60). -/
def withdrawScan : Option ArrayOp → Option ArrayOp
  | some (.scanFetch slot _) => some (.scanFetch slot true)
  | x => x

/-! ### Marker sequences (R159, R161, R163, R165, R167, R168) -/

/-- The next attempt of a sequence is requested (R159, R163). -/
def nextAttempt (v : MarkerValue) (attempt : Nat) (s : State) : State :=
  { s with markerSeq := some (v, attempt + 1), markerRequest := some v }

/-- A DIRTY program has completed: PFW asserted leads to HOLDUP whatever the outcome; otherwise success, or the third
failure with MARKER_FAULT, leads to RUN (R159, R161, R168). -/
def dirtyDone (ok : Bool) (attempt : Nat) (s : State) : State :=
  if s.pfwAsserted then enterHoldup { s with markerSeq := none }
  else if ok then enterRun { s with markerSeq := none }
  else if attempt < Config.maxAttempts then nextAttempt .dirty attempt s
  else enterRun { s with markerSeq := none, markerFault := true }

/-- A CLEAN program has completed: PFW deasserted leads to RESUMING whatever the outcome; otherwise success, or the
third failure with MARKER_FAULT, leads to PARKED (R163, R165, R168). -/
def cleanDone (ok : Bool) (attempt : Nat) (s : State) : State :=
  if s.pfwAsserted then
    if ok then enterParked { s with markerSeq := none }
    else if attempt < Config.maxAttempts then nextAttempt .clean attempt s
    else enterParked { s with markerSeq := none, markerFault := true }
  else enterResuming { s with markerSeq := none }

/-- The outcome of a marker program handed to the power manager (R70). -/
def markerDone (ok : Bool) (s : State) : State :=
  match s.markerSeq with
  | some (.dirty, attempt) => dirtyDone ok attempt s
  | some (.clean, attempt) => cleanDone ok attempt s
  | none => s

/-! ### PFW (R149, R153) -/

/-- A recognised assertion (R149, R160, R162). -/
def assertPfw (s : State) : State :=
  let s := { s with pfwAsserted := true }
  match s.partState with
  | .run => holdupFromRun s
  | .startup => if s.scanOrder then enterParked { s with scanOrder := false, op := withdrawScan s.op } else s
  | .holdup => s
  | .parked => s
  | .resuming => s

/-- A recognised deassertion (R149, R160, R164, R166). -/
def deassertPfw (s : State) : State :=
  let s := { s with pfwAsserted := false }
  match s.partState with
  | .holdup => if s.markerSeq = none then enterRun s else s
  | .parked => if s.built then enterResuming s else enterStartup s
  | .startup => s
  | .run => s
  | .resuming => s

/-! ### Reset (R150 to R152) -/

/-- What a program torn by a reset leaves in its slot (R48). -/
def tearInto (slot : Nat) (image : List Byte) (torn : Torn) (s : State) : State :=
  match torn with
  | .oldImage => s
  | .newImage => writeSlot slot image s
  | .other bytes => writeSlot slot bytes s

/-- The operation in flight is torn: a fetch leaves its slot as it was (R48). -/
def tear (torn : Torn) (s : State) : State :=
  match s.op with
  | some (.program slot) =>
    match inProgramming s with
    | some e => tearInto slot (entryImage e) torn s
    | none => s
  | some (.markerProgram v) => tearInto Config.markerSlot (markerImage v) torn s
  | some (.fetch _ _) => s
  | some (.scanFetch _ _) => s
  | none => s

/-- The supply monitor's record after an event (R151). -/
def recordEvent (cause : ResetEvent) (r : ResetRecord) : ResetRecord :=
  match cause with
  | .pin => r
  | .brownOut => { r with belowBrownOut := true }
  | .powerOn => { r with belowPowerOn := true }

/-- The RAM structures at their reset values: request table (R75), queue (R45), directory (R6), controller (R49),
claims (R92), watches (R105), sessions (R119) and ports (R131). The links send and take nothing, so LINKUP waits for
the end of the reset. -/
def clearRam (s : State) : State :=
  { s with
    ports         := ⟨Port.reset s.ports.p0.mode, Port.reset s.ports.p1.mode, Port.reset s.ports.p2.mode,
                      Port.reset s.ports.p3.mode⟩
    table         := []
    lastGranted   := .p3
    queue         := []
    spaceWait     := []
    directory     := []
    built         := false
    op            := none
    markerRequest := none
    fetchWait     := []
    mode          := .scan
    starvation    := 0
    spares        := []
    scanNext      := 0
    claims        := []
    watches       := [] }

/-- A reset begins, or a further event falls within one (R150, R151). -/
def beginReset (cause : ResetEvent) (torn : Torn) (s : State) : State :=
  match s.resetHold with
  | some r => { s with resetHold := some (recordEvent cause r) }
  | none => { clearRam (tear torn s) with resetHold := some (recordEvent cause ⟨false, false⟩) }

/-- MODEn low during reset gives ASYNC, high gives CLOCKED (R130). -/
def strapMode : Level → LinkMode
  | .low => .async
  | .high => .clocked

/-- The reset cause (R151). -/
def causeOf (r : ResetRecord) : ResetCause :=
  if r.belowPowerOn then .powerOn else if r.belowBrownOut then .brownOut else .pin

/-- Every port takes the mode of its strap and its state after reset (R130, R131). -/
def latchStraps (straps : Straps) (s : State) : State :=
  { s with ports := ⟨Port.reset (strapMode straps.mode0), Port.reset (strapMode straps.mode1),
                     Port.reset (strapMode straps.mode2), Port.reset (strapMode straps.mode3)⟩ }

/-- A CLOCKED port places its LINKUP when the reset ends (R131, R148). -/
def linkupIfClocked (p : PortId) (s : State) : State :=
  if (portOf s p).mode = .clocked then placeLinkup p s else s

/-- The end of a reset: straps, cause, verdict UNKNOWN, MARKER_FAULT clear, no marker sequence, PFW as the input
stands (low is asserted, R175); STARTUP with the scan order, or PARKED without one; then the LINKUPs (R131, R152). -/
def endReset (straps : Straps) (pfw : Level) (r : ResetRecord) (s : State) : State :=
  let s := latchStraps straps
    { clearRam s with
      resetHold   := none
      resetCause  := causeOf r
      verdict     := .unknown
      markerFault := false
      markerSeq   := none
      scanOrder   := false
      pfwAsserted := pfw == .low }
  let s := if pfw = .low then { s with partState := .parked } else enterStartup s
  settle (forPorts linkupIfClocked s)

/-- PFW_ASSERTION (R149). -/
def execPfwAssertion (s : State) : Host.Outcome State Fault Refusal := whileRunning (fun s => settle (assertPfw s)) s

/-- PFW_DEASSERTION (R149). -/
def execPfwDeassertion (s : State) : Host.Outcome State Fault Refusal :=
  whileRunning (fun s => settle (deassertPfw s)) s

/-- RESET (R150). -/
def execReset (cause : ResetEvent) (torn : Torn) (s : State) : Host.Outcome State Fault Refusal :=
  .next (beginReset cause torn s)

/-- END_OF_RESET (R152); it does not take place where no reset lasts (log 2). -/
def execEndOfReset (straps : Straps) (pfw : Level) (s : State) : Host.Outcome State Fault Refusal :=
  match s.resetHold with
  | some r => .next (endReset straps pfw r s)
  | none => .next s

end Sys2Proof.Machine
end

