-- ==== Sys2Proof/Machine/Completions.lean ====
section
/-! DEFINITION. The completions of array operations: fetch (R52, R53), program (R64 to R67), marker program (R70) and
scan fetch with its reconciliation (R155 to R158). -/

namespace Sys2Proof.Machine

/-! ### Fetch completion -/

/-- The five tests of a fetch: the four of R16, and a VALID-image of the record at the row's version and length. -/
def fetchGood (r : Nat) (row : Row) (image : List Byte) : Bool :=
  imageGood (roleOf r row.location) image && byteAt image 0 == validMark && (halfAt image 1).toNat == r &&
    halfAt image 3 == row.version && (byteAt image 5).toNat == row.length

/-- A bad check sets the row CORRUPT with version 0 and length 0, its location kept (R8). -/
def applyCheck (r : Nat) (good : Bool) (s : State) : State :=
  if good then s else setRow r ⟨.corrupt, 0, 0, (rowOf s r).location⟩ s

/-- The answer at a fetch completion: the newest queue entry's if there is one, otherwise DATA from the slot or
NAK(CORRUPT) by the check (R52). -/
def fetchAnswer (s : State) (r : Nat) (image : List Byte) (good : Bool) : Answer :=
  match newestEntry s r with
  | some e =>
    match e.change with
    | .write payload => .data r e.version payload
    | .erase => .nak kindRead (.empty e.version)
  | none =>
    if good then .data r (rowOf s r).version (imagePayload image (rowOf s r).length) else .nak kindRead .corrupt

/-- The fetch for a held entry completes: the check is applied to the directory, and the READ is answered, or an
ORPHAN freed (R52, R53). -/
def fetchDone (e : Entry) (image : List Byte) (s : State) : State :=
  let r := e.args.record
  let good := fetchGood r (rowOf s r) image
  let s := applyCheck r good { s with op := none }
  if e.state = .orphan then freeEntry e.id s else answer e.id (fetchAnswer s r image good) s

/-! ### Program completion -/

/-- The entry being programmed, with f applied. -/
def updProgramming (f : QueueEntry → QueueEntry) (s : State) : State :=
  { s with queue := s.queue.map (fun e => if e.phase = .programming then f e else e) }

/-- VERIFY_FAIL on attempt 1 or 2: the attempts rise by one and the target is kept (R65). -/
def retryProgram (s : State) : State := updProgramming (fun x => { x with attempts := x.attempts + 1 }) s

/-- VERIFY_FAIL on the third attempt with FREE spare n the lowest: a newly reserved target is retired, Sn is IN_USE
for the record and becomes the target, and the attempts are 1 (R66). -/
def remap (e : QueueEntry) (n : Nat) (s : State) : State :=
  let s := match e.target with
    | some t => retireReserved e.record t s
    | none => s
  updProgramming (fun x => { x with attempts := 1, target := some (.spare n) }) (setSpare n (.inUse e.record) s)

/-- VERIFY_FAIL on the third attempt with no FREE spare: the failed target as R66 treats it, then the fault (R67). -/
def giveUp (e : QueueEntry) (s : State) : State :=
  faultRecord e (match e.target with
    | some t => retireReserved e.record t s
    | none => s)

/-- A failed attempt of the program of e (R65 to R67). -/
def programFailed (e : QueueEntry) (s : State) : State :=
  if e.attempts < Config.maxAttempts then retryProgram s
  else match lowestFree s with
    | some n => remap e n s
    | none => giveUp e s

/-- A program attempt of e on this slot completes (R46, R64). -/
def programDone (e : QueueEntry) (slot : Nat) (got : Cells) (s : State) : State :=
  let s := writeSlot slot (cellsLeft (entryImage e) got) { s with op := none }
  if verifyOk (entryImage e) got then commit e s else programFailed e s

/-! ### Scan reconciliation -/

/-- The row that a good image gives, at this location (R156, R157). -/
def rowOfImage (image : List Byte) (location : Location) : Row :=
  if byteAt image 0 = validMark then ⟨.valid, halfAt image 3, (byteAt image 5).toNat, location⟩
  else ⟨.empty, halfAt image 3, 0, location⟩

/-- Primary n (R156). -/
def reconcilePrimary (n : Nat) (image : List Byte) (s : State) : State :=
  if scanGood (.primary n) image then setRow n (rowOfImage image .primary) s
  else setRow n ⟨.corrupt, 0, 0, .primary⟩ s

/-- Every spare below n that is FREE, and the earlier spare that holds r, become RETIRED (R157, R158). -/
def retireEarlier (n r : Nat) (s : State) : State :=
  { s with spares := s.spares.filter (fun x => !(x.1 < n && (x.2 == .free || x.2 == .inUse r))) }

/-- Spare n (R157, R158). -/
def reconcileSpare (n : Nat) (image : List Byte) (s : State) : State :=
  if scanGood .spare image then
    if byteAt image 0 = freeMark then setSpare n .free s
    else
      let r := (halfAt image 1).toNat
      setRow r (rowOfImage image (.spare n)) (setSpare n (.inUse r) (retireEarlier n r s))
  else setSpare n .retired s

/-- The scan fetch of S31 is reconciled: the directory is built, the order withdrawn, the DIRTY sequence begun (R60,
R154, R159). -/
def scanDone (s : State) : State := beginSequence .dirty { s with built := true, scanOrder := false }

/-- The outcome of a scan fetch (R154 to R158). -/
def reconcile (slot : Nat) (image : List Byte) (s : State) : State :=
  if slot = Config.markerSlot then { s with verdict := imageVerdict image }
  else if slot < Config.records then reconcilePrimary slot image s
  else if slot = Config.markerSlot - 1 then scanDone (reconcileSpare (slot - Config.records) image s)
  else reconcileSpare (slot - Config.records) image s

/-- A scan fetch completes; its outcome is discarded if the order was withdrawn (R60, R154). -/
def scanFetchDone (slot : Nat) (withdrawn : Bool) (got : Cells) (s : State) : State :=
  let image := cellsRead s slot got
  let s := { s with op := none }
  if withdrawn || !s.scanOrder then s else reconcile slot image s

/-! ### The commands -/

/-- FETCH_COMPLETION (R52). -/
def execFetchCompletion (got : Cells) (s : State) : Host.Outcome State Fault Refusal :=
  whileRunning (fun s =>
    match s.op with
    | some (.fetch id slot) =>
      settle (match entryOf s id with
        | some e => fetchDone e (cellsRead s slot got) s
        | none => { s with op := none })
    | _ => s) s

/-- PROGRAM_COMPLETION (R64). -/
def execProgramCompletion (got : Cells) (s : State) : Host.Outcome State Fault Refusal :=
  whileRunning (fun s =>
    match s.op with
    | some (.program slot) =>
      settle (match inProgramming s with
        | some e => programDone e slot got s
        | none => { s with op := none })
    | _ => s) s

/-- MARKER_PROGRAM_COMPLETION (R70). -/
def execMarkerProgramCompletion (got : Cells) (s : State) : Host.Outcome State Fault Refusal :=
  whileRunning (fun s =>
    match s.op with
    | some (.markerProgram v) =>
      settle (markerDone (verifyOk (markerImage v) got)
        (writeSlot Config.markerSlot (cellsLeft (markerImage v) got) { s with op := none }))
    | _ => s) s

/-- SCAN_FETCH_COMPLETION (R60). -/
def execScanFetchCompletion (got : Cells) (s : State) : Host.Outcome State Fault Refusal :=
  whileRunning (fun s =>
    match s.op with
    | some (.scanFetch slot withdrawn) => settle (scanFetchDone slot withdrawn got s)
    | _ => s) s

end Sys2Proof.Machine
end

