-- ==== Sys2Proof/Machine/Dispatch.lean ====
section
/-! DEFINITION. exec: one arm per command, each one call of its meaning. -/

namespace Sys2Proof.Machine

/-- The effect of a command on everything but the queue of commands. -/
def exec (i : Instr) (s : State) : Host.Outcome State Fault Refusal :=
  match i with
  | .frameReceived p frame => Sys2Proof.Machine.execFrameReceived p frame s
  | .frameError p failure => Sys2Proof.Machine.execFrameError p failure s
  | .interByteGapTimeout p => Sys2Proof.Machine.execInterByteGapTimeout p s
  | .deselection p => Sys2Proof.Machine.execDeselection p s
  | .calibration p low => Sys2Proof.Machine.execCalibration p low s
  | .attention p => Sys2Proof.Machine.execAttention p s
  | .frameSent p => Sys2Proof.Machine.execFrameSent p s
  | .poolGrant => Sys2Proof.Machine.execPoolGrant s
  | .badKindRequest p => Sys2Proof.Machine.execBadKindRequest p s
  | .read p => Sys2Proof.Machine.execRead p s
  | .write p => Sys2Proof.Machine.execWrite p s
  | .writeIf p => Sys2Proof.Machine.execWriteIf p s
  | .erase p => Sys2Proof.Machine.execErase p s
  | .inspect p => Sys2Proof.Machine.execInspect p s
  | .flush p => Sys2Proof.Machine.execFlush p s
  | .claim p => Sys2Proof.Machine.execClaim p s
  | .release p => Sys2Proof.Machine.execRelease p s
  | .watch p => Sys2Proof.Machine.execWatch p s
  | .unwatch p => Sys2Proof.Machine.execUnwatch p s
  | .openSession p => Sys2Proof.Machine.execOpen p s
  | .closeSession p => Sys2Proof.Machine.execClose p s
  | .status p => Sys2Proof.Machine.execStatus p s
  | .resync p => Sys2Proof.Machine.execResync p s
  | .fetchCompletion got => Sys2Proof.Machine.execFetchCompletion got s
  | .programCompletion got => Sys2Proof.Machine.execProgramCompletion got s
  | .markerProgramCompletion got => Sys2Proof.Machine.execMarkerProgramCompletion got s
  | .scanFetchCompletion got => Sys2Proof.Machine.execScanFetchCompletion got s
  | .claimClockTick => Sys2Proof.Machine.execClaimClockTick s
  | .leaseExpiry record => Sys2Proof.Machine.execLeaseExpiry record s
  | .pfwAssertion => Sys2Proof.Machine.execPfwAssertion s
  | .pfwDeassertion => Sys2Proof.Machine.execPfwDeassertion s
  | .reset cause torn => Sys2Proof.Machine.execReset cause torn s
  | .endOfReset straps pfw => Sys2Proof.Machine.execEndOfReset straps pfw s
  | .byteReceived p byte moment order => Sys2Proof.Machine.execByteReceived p byte moment order s

end Sys2Proof.Machine
end

