-- ==== Sys2Proof/Safety.lean ====
section
/-! DEFINITION. What a safe run keeps: the invariants that the spec's laws state of the part, and the terms in which
the statements speak of requests, ports and runs. -/

namespace Sys2Proof.Machine

/-! ### Terms of the statements -/

/-- A request that passes dispatch: the part is out of reset, the head of p's receive buffer is `f` with `rest` behind
it, `id` is the free reserved entry it takes, and no check of R79 refuses it. -/
abbrev Passes (s : State) (p : PortId) (id : Nat) (f : RxFrame) (rest : List RxFrame) : Prop :=
  s.resetHold = none ∧ (portOf s p).rxBuffer = f :: rest ∧ freeReserved s p = some id ∧
    dispatchCheck (takeFrame p id f rest s) p id f = none

/-- The record that the request of a frame names (R170). -/
def recordOf (f : RxFrame) : Nat := (argsOf f).record

/-- The row of the command table for a request of this kind on port p. -/
def rowFor (p : PortId) (kind : Byte) : Instr :=
  if kind = kindRead then .read p
  else if kind = kindWrite then .write p
  else if kind = kindWriteIf then .writeIf p
  else if kind = kindErase then .erase p
  else if kind = kindInspect then .inspect p
  else if kind = kindFlush then .flush p
  else if kind = kindClaim then .claim p
  else if kind = kindRelease then .release p
  else if kind = kindWatch then .watch p
  else if kind = kindUnwatch then .unwatch p
  else if kind = kindOpen then .openSession p
  else if kind = kindClose then .closeSession p
  else if kind = kindStatus then .status p
  else if kind = kindResync then .resync p
  else .badKindRequest p

/-- Between s and t the response r to p's request in entry id was formed: with a response slot free and no older
response of the port held it was placed behind what was queued, and otherwise its entry holds it, behind the older ones
(R87); later responses and notices may have joined behind it. -/
abbrev Answered (s t : State) (p : PortId) (id : Nat) (r : Response) : Prop :=
  if (portOf s p).held = [] ∧ responseCount (portOf s p).tx < Config.responseSlots then
    ∃ later, (portOf t p).tx = (portOf s p).tx ++ .response r :: later
  else
    (∃ later, (portOf t p).held = (portOf s p).held ++ id :: later) ∧
      ∃ e ∈ t.table, e.id = id ∧ e.response = some r

/-- RESET and END_OF_RESET. -/
def isReset : Instr → Bool
  | .reset _ _ => true
  | .endOfReset _ _ => true
  | _ => false

/-- A run: commands taken one after another; it stops where a command does not answer a next state. -/
def runAll : List Instr → State → Option State
  | [], s => some s
  | c :: rest, s =>
    match exec c s with
    | .next t => runAll rest t
    | .fault _ => none
    | .refused _ => none

/-- The commands that hand a byte string to an ASYNC port, every stop bit good. -/
def asyncBytes (p : PortId) (bytes : List Byte) : List Instr := 
  bytes.map (fun b => .byteReceived p b (.stopBit true) .incomingFirst)

/-- The commands that hand a byte string to a selected CLOCKED port, the events of every edge in this order. -/
def clockedBytes (p : PortId) (order : EdgeOrder) (bytes : List Byte) : List Instr :=
  bytes.map (fun b => .byteReceived p b .eighthEdge order)

/-- The least body length that a kind's layout allows (R170). -/
def shortestBody (kind : Byte) : Nat :=
  if kind = kindWrite then 5
  else if kind = kindWriteIf then 7
  else if kind = kindClaim then 6
  else if [kindFlush, kindOpen, kindClose, kindStatus, kindResync].contains kind then 3
  else 4

/-- The greatest body length that a kind's layout allows (R170). -/
def longestBody (kind : Byte) : Nat :=
  if kind = kindWrite then 53 else if kind = kindWriteIf then 55 else shortestBody kind

/-- How far p lies behind the port after `last` in the arbiter's order (R77): 0 for that port, 3 for `last` itself. -/
def ringDistance (last p : PortId) : Nat := (portNumber p + 3 - portNumber last) % 4

/-- The arguments that a request of this kind can carry past check 5 (R82, R170): a field that the kind has not is 0 or
empty (R73). -/
structure ArgsFit (kind : Byte) (a : Args) : Prop where
  record   : if carriesRecord kind then a.record < Config.records else a.record = 0
  expected : kind ≠ kindWriteIf → a.expected = 0
  payload  : if kind = kindWrite ∨ kind = kindWriteIf then 1 ≤ a.payload.length ∧ a.payload.length ≤ Config.maxPayload
    else a.payload = []
  lease    : if kind = kindClaim then 1 ≤ a.lease ∧ a.lease ≤ Config.maxLease else a.lease = 0

/-- v taken n times to its successor (R2). -/
def laterVersion (v : Half) : Nat → Half
  | 0 => v
  | n + 1 => nextVersion (laterVersion v n)

/-! ### Invariants -/

/-- Every stored list is in its one canonical form (log 24). -/
structure StoresCanonical (s : State) : Prop where
  cells     : CellsCanonical s.cells
  directory : Canonical (fun _ => Row.reset) s.directory
  spares    : Canonical (fun _ => SpareState.retired) s.spares
  claims    : KeysRise s.claims

/-- Each transmit queue holds at most 4 responses and 4 notices (R87, R114). -/
abbrev TxBounded (s : State) : Prop :=
  ∀ p ∈ allPorts, responseCount (portOf s p).tx ≤ Config.responseSlots ∧
    noticeCount (portOf s p).tx ≤ Config.noticeSlots

/-- What R19 says of the fields of one queue entry, its record and payload apart. -/
abbrev EntryGood (e : QueueEntry) : Prop :=
  e.version ≠ 0 ∧ e.origins ≠ noPorts ∧ (∀ p ∈ allPorts, inPorts e.marks p → inPorts e.origins p) ∧
    (e.phase = .pending → e.attempts = 0 ∧ e.target = none) ∧
    (e.phase = .programming → 1 ≤ e.attempts ∧ e.attempts ≤ Config.maxAttempts ∧ e.target.isSome)

/-- Two entries of the queue are not of one record in one phase, and not both in PROGRAMMING. -/
abbrev EntriesApart (a b : QueueEntry) : Prop :=
  ¬(a.record = b.record ∧ a.phase = b.phase) ∧ ¬(a.phase = .programming ∧ b.phase = .programming)

/-- The queue's laws: at most 32 entries, one PENDING and one PROGRAMMING a record, one PROGRAMMING in all (R18, R47),
every entry as R19 has it. -/
structure QueueGood (s : State) : Prop where
  bound   : s.queue.length ≤ Config.queueSize
  apart   : s.queue.Pairwise EntriesApart
  entries : ∀ e ∈ s.queue, EntryGood e

/-- A claim's fields are in range and its holder has an open session (R92). -/
abbrev ClaimGood (s : State) (c : Nat × Claim) : Prop :=
  c.1 < Config.records ∧ 1 ≤ c.2.lease ∧ c.2.lease ≤ Config.maxLease ∧ (portOf s c.2.holder).session = .session

/-- A watch's record is in range and its port has an open session (R105). -/
abbrev WatchGood (s : State) (w : Watch) : Prop := w.record < Config.records ∧ (portOf s w.port).session = .session

/-- The claim table holds at most 16 claims, at most one a record; the watch table at most 64 watches, none twice; the
port of each has an open session (R92, R105). -/
structure SessionsBacked (s : State) : Prop where
  claimBound : s.claims.length ≤ Config.claimSlots
  claimApart : KeysRise s.claims
  claims     : ∀ c ∈ s.claims, ClaimGood s c
  watchBound : s.watches.length ≤ Config.watchSlots
  watchApart : s.watches.Nodup
  watches    : ∀ w ∈ s.watches, WatchGood s w

/-- The window: no port holds more than 4 outstanding requests (R72, R143). -/
abbrev WindowKept (s : State) : Prop := ∀ p ∈ allPorts, outstanding s p ≤ Config.window

/-- The table's entries are numbered 0..15, each once, a reserved entry by its own port alone (R72). -/
abbrev TableGood (s : State) : Prop :=
  (s.table.map (fun e => e.id)).Nodup ∧
    ∀ e ∈ s.table, e.id < Config.tableSize ∧ (e.id < Config.firstPooled → e.id / 2 = portNumber e.port)

/-- The byte in course on DOUT of a selected port: that of the frame in progress, or fill (R136). -/
def presentedByte (x : Port) : Byte :=
  match x.tx, x.sending with
  | f :: _, some k => byteAt (txBytes f) k
  | _, _ => 0xFF

/-- The frame in progress is the head frame, and not all of its bytes are sent (R136, R146). -/
def progressGood (x : Port) : Bool := x.sending.all (fun k => x.tx.head?.any (fun f => k < (txBytes f).length))

/-- A CLOCKED port's link: never in LINK_DOWN, no bit period (R131, R135); while SELn is active a byte is in course on
DOUT, and while it is not no byte and no frame is in course in either direction (R135, R136, R141). -/
structure ClockedGood (x : Port) : Prop where
  up       : x.session ≠ .linkDown
  period   : x.bitPeriod = none
  outByte  : x.outByte = if x.selected then some (presentedByte x) else none
  progress : progressGood x = true
  idle     : x.selected = false → x.receiver = .hunting ∧ x.sending = none

/-- An ASYNC port's link: a bit period exactly when it is up (R133, R134), between the bounds of R133; in LINK_DOWN
HUNTING with an empty receive buffer and transmit queue (R117, R131, R147); the head frame in progress whenever there is
one (R147, log 11). -/
structure AsyncGood (x : Port) : Prop where
  period  : x.bitPeriod = none ↔ x.session = .linkDown
  bounds  : ∀ b ∈ x.bitPeriod.toList, Config.calibrationMin ≤ b ∧ b ≤ Config.calibrationMax
  down    : x.session = .linkDown → x.receiver = .hunting ∧ x.rxBuffer = [] ∧ x.tx = [] ∧ x.held = []
  sending : x.sending = if x.tx = [] then none else some 0
  clock   : x.selected = false ∧ x.outByte = none

/-- Every port's link is as its mode has it. -/
abbrev LinksGood (s : State) : Prop :=
  ∀ p ∈ allPorts, ((portOf s p).mode = .clocked → ClockedGood (portOf s p)) ∧
    ((portOf s p).mode = .async → AsyncGood (portOf s p))

/-- A marker sequence of this value is in course, at one of its three attempts (R159, R163). -/
abbrev InSequence (v : MarkerValue) (s : State) : Prop := ∃ n ∈ [1, 2, 3], s.markerSeq = some (v, n)

/-- STARTUP: the scan order stands and the directory is not built, or the scan is done and the DIRTY sequence runs
(R60, R154, R159). -/
abbrev StartupGood (s : State) : Prop :=
  s.mode = .scan ∧ s.queue = [] ∧
    (s.scanOrder = true ∧ s.built = false ∧ s.markerSeq = none ∨
      s.scanOrder = false ∧ s.built = true ∧ InSequence .dirty s)

/-- RUN: the directory is built, PFW is deasserted and no marker sequence runs (R62, R149, R159). -/
abbrev RunGood (s : State) : Prop :=
  (s.mode = .fetchFirst ∨ s.mode = .drainFirst) ∧ s.built = true ∧ s.scanOrder = false ∧ s.markerSeq = none ∧
    s.pfwAsserted = false

/-- HOLDUP: the drain, with PFW asserted until the CLEAN sequence begins; that sequence finds the queue empty (R62,
R163, R164). -/
abbrev HoldupGood (s : State) : Prop :=
  s.mode = .drainOnly ∧ s.built = true ∧ s.scanOrder = false ∧
    (s.markerSeq = none ∧ s.pfwAsserted = true ∨ s.queue = [] ∧ InSequence .clean s)

/-- PARKED: nothing to drain and nothing in course; the mode tells which PARKED it is (R60, R152, R160, R166). -/
abbrev ParkedGood (s : State) : Prop :=
  s.mode = (if s.built then .drainOnly else .scan) ∧ s.scanOrder = false ∧ s.markerSeq = none ∧ s.queue = [] ∧
    s.pfwAsserted = true

/-- RESUMING: the DIRTY sequence runs over a built directory and an empty queue (R59, R167). -/
abbrev ResumingGood (s : State) : Prop :=
  s.mode = .drainOnly ∧ s.built = true ∧ s.scanOrder = false ∧ s.queue = [] ∧ InSequence .dirty s

/-- What the part state says of mode, scan order, directory, marker sequence and queue; outside RUN nothing waits for
space or for a fetch (R43, R54), and the starvation count is 0 with no READ waiting and never above 4 (R58). -/
structure PowerGood (s : State) : Prop where
  waiting  : s.partState ≠ .run → s.spaceWait = [] ∧ s.fetchWait = []
  starving : s.fetchWait = [] → s.starvation = 0
  guard    : s.starvation ≤ Config.starvationLimit
  startup  : s.partState = .startup → StartupGood s
  run      : s.partState = .run → RunGood s
  holdup   : s.partState = .holdup → HoldupGood s
  parked   : s.partState = .parked → ParkedGood s
  resuming : s.partState = .resuming → ResumingGood s

/-! ### The controller -/

/-- The operation in flight agrees with the rest of the state (R46, R47, R60, R63, R70): a fetch or a program runs in
RUN or in HOLDUP before the CLEAN sequence; a program is that of the entry in PROGRAMMING, on its target; a marker
program is that of the sequence in course; a scan fetch runs over a directory not built, and its order stands or was
withdrawn. -/
def opGood (s : State) : Bool :=
  match s.op with
  | none => true
  | some (.fetch _ _) =>
    (s.partState == .run || s.partState == .holdup) && s.markerSeq.isNone && (inProgramming s).isNone
  | some (.program slot) =>
    (s.partState == .run || s.partState == .holdup) && s.markerSeq.isNone &&
      (inProgramming s).any (fun e => some slot == e.target.map (slotOf e.record))
  | some (.markerProgram v) => s.markerSeq.any (fun q => q.1 == v) && (inProgramming s).isNone
  | some (.scanFetch slot withdrawn) =>
    (s.partState == .startup || s.partState == .parked) && !s.built &&
      (if withdrawn then s.scanOrder == (s.partState == .startup) && (!s.scanOrder || s.scanNext == 0)
       else s.scanOrder && slot == scanSlot (s.scanNext - 1) && 1 ≤ s.scanNext && s.scanNext ≤ Config.slots)

/-- The controller is idle only where nothing is to be done: in PARKED, or in RUN with the queue and the fetch waiting
list empty (R47, R55); no marker request is held while it is (R70). -/
abbrev IdleGood (s : State) : Prop :=
  s.markerRequest = none ∧
    (s.op = none → s.partState = .parked ∨ s.partState = .run ∧ s.queue = [] ∧ s.fetchWait = [])

/-- The array controller's, the queue's and the power manager's states agree. -/
structure ControllerGood (s : State) : Prop where
  queue : QueueGood s
  power : s.resetHold = none → PowerGood s
  op    : s.resetHold = none → opGood s = true
  idle  : s.resetHold = none → IdleGood s

/-- The marker slot does not read CLEAN in RUN, nor in HOLDUP before the CLEAN sequence, unless MARKER_FAULT is set
(R71). -/
abbrev MarkerHonest (s : State) : Prop :=
  s.resetHold = none → (s.partState = .run ∨ s.partState = .holdup ∧ s.markerSeq = none) → s.markerFault = false →
    imageVerdict (readSlot s Config.markerSlot) ≠ .clean

/-! ### The directory -/

/-- The constraints of R5 on one row. -/
abbrev RowGood (row : Row) : Prop :=
  (row.state = .valid → 1 ≤ row.length ∧ row.length ≤ Config.maxPayload ∧ row.version ≠ 0) ∧
    (row.state ≠ .valid → row.length = 0) ∧ (row.state = .corrupt → row.version = 0)

/-- A change carries 1..48 bytes or is an ERASE (R1, R19). -/
def changeGood : Change → Bool
  | .write payload => 1 ≤ payload.length && payload.length ≤ Config.maxPayload
  | .erase => true

/-- A location of SPARE n names a spare that the pool holds IN_USE for the record (R5, R63, R66). -/
def backed (s : State) (record : Nat) : Location → Bool
  | .primary => true
  | .spare n => n < Config.spares && spareOf s n == .inUse record

/-- While the scan order stands, the spares set so far lie below the one being fetched, and before the first fetch no
spare is set (R60, R157). -/
abbrev ScanBehind (s : State) : Prop :=
  s.scanOrder = true → ∀ x ∈ s.spares, Config.records + x.1 + 2 < s.scanNext

/-- A listed row names a record of the part, is as R5 has it, and its location is backed. -/
abbrev ListedGood (s : State) (x : Nat × Row) : Prop :=
  x.1 < Config.records ∧ RowGood x.2 ∧ backed s x.1 x.2.location = true

/-- A queue entry names a record of the part, its change is in range and its target, if any, is backed. -/
abbrev QueuedGood (s : State) (e : QueueEntry) : Prop :=
  e.record < Config.records ∧ changeGood e.change = true ∧ ∀ l ∈ e.target.toList, backed s e.record l = true

/-- The directory's law (R5) with what keeps it: every row as R5 has it, and every row's location and every target of a
queue entry backed by the spare pool. -/
structure DirectoryGood (s : State) : Prop where
  stores : StoresCanonical s
  rows   : ∀ x ∈ s.directory, ListedGood s x
  queue  : ∀ e ∈ s.queue, QueuedGood s e
  scan   : ScanBehind s

/-! ### The request table and the lists that name its entries -/

/-- A held entry without a response, in the port's open session. -/
abbrev Unanswered (s : State) (e : Entry) : Prop :=
  e.response = none ∧ e.current = true ∧ (portOf s e.port).session = .session

/-- An entry in the space-waiter list: a change of an open session whose arguments passed check 5 (R34, R82). -/
abbrev SpaceWaiter (s : State) (e : Entry) : Prop :=
  e.state = .waitSpace ∧ Unanswered s e ∧ e.args.record < Config.records ∧ changeGood (changeOf e) = true

/-- An entry in the fetch waiting list (R50). -/
abbrev FetchWaiter (s : State) (e : Entry) : Prop :=
  e.state = .waitFetch ∧ Unanswered s e ∧ e.args.record < Config.records

/-- The entry that a fetch in flight serves: FETCHING in its open session, or ORPHAN (R52, R53). -/
abbrev FetchServed (s : State) (e : Entry) : Prop :=
  e.args.record < Config.records ∧
    (e.state = .fetching ∧ Unanswered s e ∨ e.state = .orphan ∧ e.response = none ∧ e.current = false)

/-- The entry of an open FLUSH (R37). -/
abbrev FlushWaiter (s : State) (e : Entry) : Prop := e.state = .waitFlush ∧ Unanswered s e

/-- An entry whose formed response is held (R73, R87). -/
abbrev HeldEntry (p : PortId) (e : Entry) : Prop := e.port = p ∧ e.response.isSome ∧ e.state = .dispatched

/-- The entry that the operation in flight serves, if that is a fetch (R46). -/
def servedEntry (s : State) : Option Nat :=
  match s.op with
  | some (.fetch id _) => some id
  | _ => none

/-- The request table agrees with the lists and records that name its entries (R72 to R74, R87): an entry waits for
space, or for a fetch, exactly where its list names it, once; it is FETCHING or an ORPHAN exactly where the fetch in
flight serves it, so that at most one is (R74); a FLUSH record is open exactly where an entry waits for it; the held
responses of a port are those its order names, and no entry stays DISPATCHED without one. -/
structure ListsGood (s : State) : Prop where
  table      : TableGood s
  spaceOnce  : s.spaceWait.Nodup
  space      : ∀ id ∈ s.spaceWait, ∃ e ∈ s.table, e.id = id ∧ SpaceWaiter s e
  fetchOnce  : s.fetchWait.Nodup
  fetch      : ∀ id ∈ s.fetchWait, ∃ e ∈ s.table, e.id = id ∧ FetchWaiter s e
  inFlight   : ∀ id slot, s.op = some (.fetch id slot) → ∃ e ∈ s.table, e.id = id ∧ FetchServed s e
  flushOpen  : ∀ p ∈ allPorts, ∀ f, (portOf s p).flush = some f →
    ∃ e ∈ s.table, e.port = p ∧ e.tag = f.tag ∧ FlushWaiter s e
  flushOnly  : ∀ e ∈ s.table, e.state = .waitFlush → (portOf s e.port).flush.isSome ∧ FlushWaiter s e
  flushOnce  : s.table.Pairwise (fun a b => ¬(a.port = b.port ∧ a.state = .waitFlush ∧ b.state = .waitFlush))
  heldOnce   : ∀ p ∈ allPorts, (portOf s p).held.Nodup
  held       : ∀ p ∈ allPorts, ∀ id ∈ (portOf s p).held, ∃ e ∈ s.table, e.id = id ∧ HeldEntry p e
  heldOnly   : ∀ e ∈ s.table, e.response.isSome → e.id ∈ (portOf s e.port).held
  spaceOnly  : ∀ e ∈ s.table, e.state = .waitSpace → e.id ∈ s.spaceWait
  fetchOnly  : ∀ e ∈ s.table, e.state = .waitFetch → e.id ∈ s.fetchWait
  flightOnly : ∀ e ∈ s.table, e.state = .fetching ∨ e.state = .orphan → servedEntry s = some e.id
  dispatched : ∀ e ∈ s.table, e.state = .dispatched → e.response.isSome

/-- A FLUSH record's count is the number of queue entries that carry its port's mark, and is not 0; a closed record's
port marks none (R37). -/
abbrev FlushCounted (s : State) (p : PortId) : Prop :=
  (∀ f ∈ (portOf s p).flush.toList, f.count = markCount p s.queue ∧ f.count ≠ 0) ∧
    ((portOf s p).flush = none → markCount p s.queue = 0)

end Sys2Proof.Machine
end

