-- ==== Sys2Proof/Certificates/Slice0/Obligations.lean ====
section
/-! DEFINITION. The statements for the provers, in the order of OBLIGATIONS.json. -/

section
open Sys2Proof Sys2Proof.Machine

/-! ### Steps and commands -/

/-- A step takes the command at the front of the queue and runs it with the queue's rest; on an empty queue the part
idles. The queue is the model's own (log 15). -/
def Obligations.StepRunsTheFrontCommand : Prop :=
  (∀ (c : Instr) (rest : List Instr) (s : State),
    s.pending = c :: rest → step s = exec c { s with pending := rest }) ∧
  (∀ s : State, s.pending = [] → step s = .next s)

/-- Every command answers a next state, in every state (deduced: the spec names no event that stops the part, log 25; an
event that cannot take place as the state stands changes nothing, log 2), and leaves the commands that wait behind it,
which are the model's own queue (log 15). While a reset lasts the ports send and take nothing, no operation starts and no
tick comes, so every command but RESET and END_OF_RESET leaves the state as it was (section 9.2, log 14). -/
def Obligations.EveryCommandAnswersNext : Prop :=
  (∀ (c : Instr) (s : State), ∃ t, exec c s = .next t ∧ t.pending = s.pending) ∧
  (∀ (c : Instr) (s : State), s.resetHold ≠ none → isReset c = false → exec c s = .next s)

/-! ### Links -/

/-- FRAME_RECEIVED: a good frame is admitted below the window, or discarded with OVERRUN set at the window; with OVERRUN
set, a RESYNC below the window alone is admitted, with the value it met, and clears the flag (section 8.6). The frame
comes whole, or completes the one in reception (log 4). On an ASYNC port nothing else changes; on a selected CLOCKED port
with nothing to send the part sends fill meanwhile (section 8.3). What a CLOCKED port with frames to send exchanges for
the bytes of a frame is the matter of BytesMakeAFrame and ClockedByteIsExchanged. -/
def Obligations.GoodFrameMeetsTheWindow : Prop :=
  ∀ (s : State) (p : PortId) (body : List Byte) (order : EdgeOrder) (out : Port → Port),
    s.resetHold = none → 3 ≤ body.length → body.length ≤ 56 → frameFits body (portOf s p).receiver = true →
    ((portOf s p).mode = .async ∧ (portOf s p).session ≠ .linkDown ∧ out = (fun x => x) ∨
      (portOf s p).mode = .clocked ∧ (portOf s p).selected = true ∧ (portOf s p).tx = [] ∧
        (portOf s p).sending = none ∧ out = (fun x => { x with outByte := some 0xFF })) →
    ((portOf s p).overrun = false → outstanding s p < 4 →
      exec (.frameReceived p ⟨body, order⟩) s = .next (updPort p (fun x =>
        { out x with receiver := .hunting, rxBuffer := x.rxBuffer ++ [⟨body, false⟩] }) s)) ∧
    ((portOf s p).overrun = false → 4 ≤ outstanding s p →
      exec (.frameReceived p ⟨body, order⟩) s =
        .next (updPort p (fun x => { out x with receiver := .hunting, overrun := true }) s)) ∧
    ((portOf s p).overrun = true → byteAt body 0 = 0x28 → body.length = 3 → outstanding s p < 4 →
      exec (.frameReceived p ⟨body, order⟩) s = .next (updPort p (fun x =>
        { out x with receiver := .hunting, rxBuffer := x.rxBuffer ++ [⟨body, true⟩], overrun := false }) s)) ∧
    ((portOf s p).overrun = true → byteAt body 0 ≠ 0x28 ∨ body.length ≠ 3 ∨ 4 ≤ outstanding s p →
      exec (.frameReceived p ⟨body, order⟩) s = .next (updPort p (fun x => { out x with receiver := .hunting }) s))

/-- FRAME_ERROR, INTER_BYTE_GAP_TIMEOUT and DESELECTION: a failing frame is discarded, FRAME_ERR is set, and the
receiver hunts again, or skips the rest of the frame after a stop-bit error in it; a selected CLOCKED port with nothing
to send sends fill meanwhile. A deselection also ends the outgoing frame, which stays at the head, and one between frames
sets no flag (sections 8.3 and 8.5; log 4). -/
def Obligations.FrameFailureSetsFrameErr : Prop :=
  (∀ (s : State) (p : PortId) (f : FrameFailure) (out : Port → Port),
    s.resetHold = none → failureFits (portOf s p).mode f (portOf s p).receiver = true →
    ((portOf s p).mode = .async ∧ (portOf s p).session ≠ .linkDown ∧ out = (fun x => x) ∨
      (portOf s p).mode = .clocked ∧ (portOf s p).selected = true ∧ (portOf s p).tx = [] ∧
        (portOf s p).sending = none ∧ out = (fun x => { x with outByte := some 0xFF })) →
    exec (.frameError p f) s = .next (updPort p (fun x =>
      { out x with
        receiver := (match f with
          | .stopBit left => if left = 0 then Receiver.hunting else Receiver.skipping left
          | .badLength => Receiver.hunting
          | .lengthStopBit => Receiver.hunting
          | .crcMismatch _ => Receiver.hunting)
        frameErr := true }) s)) ∧
  (∀ (s : State) (p : PortId),
    s.resetHold = none → (portOf s p).session ≠ .linkDown → (portOf s p).mode = .async →
    (portOf s p).receiver ≠ .hunting →
    exec (.interByteGapTimeout p) s = .next (updPort p (fun x => { x with receiver := .hunting, frameErr := true }) s)) ∧
  (∀ (s : State) (p : PortId),
    s.resetHold = none → (portOf s p).mode = .clocked →
    exec (.deselection p) s = .next (updPort p (fun x =>
      { x with
        receiver := .hunting
        frameErr := x.frameErr || x.receiver != .hunting
        sending  := none
        outByte  := none
        selected := false }) s))

/-- CALIBRATION: on an ASYNC port in LINK_DOWN a low period of 8 µs to 834 µs (128 to 13344 periods of 62.5 ns) sets the
bit period, held in units of 1/128 µs (log 23), brings the link up and places LINKUP, whose frame starts at once; a
period outside the range is ignored (section 8.2). -/
def Obligations.CalibrationBringsTheLinkUp : Prop :=
  ∀ (s : State) (p : PortId) (low : Nat),
    s.resetHold = none → (portOf s p).mode = .async → (portOf s p).session = .linkDown → (portOf s p).tx = [] →
    (128 ≤ low → low ≤ 13344 →
      exec (.calibration p low) s = .next (updPort p (fun x =>
        { x with
          bitPeriod := some low
          session   := .linkUp
          tx        := [.notice (.linkup p s.partState) x.noticeGap]
          sending   := some 0
          noticeGap := false }) s)) ∧
    (low < 128 ∨ 13344 < low → exec (.calibration p low) s = .next s)

/-- ATTENTION on a port that is up, and not selected if it is CLOCKED, restarts its link: queues, partial frame, OVERRUN
and NOTICE_GAP go, FRAME_ERR and the epoch stay; an ASYNC port enters LINK_DOWN, a CLOCKED port LINK_UP with a LINKUP. Its
entries are freed but an ORPHAN, its session's claims, watches, marks and FLUSH record end, and its waiters leave the
waiting lists; no other port, and no other port's entry or waiter, changes. In LINK_DOWN, and on a CLOCKED port whose
SELn is active, it has no effect (section 8.4). -/
def Obligations.AttentionRestartsTheLink : Prop :=
  (∀ (s : State) (p : PortId), s.resetHold = none → (portOf s p).session ≠ .linkDown →
    ((portOf s p).mode = .clocked → (portOf s p).selected = false) →
    ∃ t, exec (.attention p) s = .next t ∧
      portOf t p = { portOf s p with
        session   := (match (portOf s p).mode with | .async => .linkDown | .clocked => .linkUp)
        bitPeriod := none
        receiver  := .hunting
        rxBuffer  := []
        tx        := (match (portOf s p).mode with
          | .async => [] | .clocked => [.notice (.linkup p s.partState) false])
        sending   := none
        outByte   := none
        selected  := false
        overrun   := false
        noticeGap := false
        flush     := if (portOf s p).session = .session then none else (portOf s p).flush
        held      := [] } ∧
      (∀ q, q ≠ p → portOf t q = portOf s q) ∧
      (∀ e ∈ t.table, e.port = p → e.state = .orphan) ∧
      (∀ e ∈ s.table, e.port = p → e.state = .orphan → e.current = false → e ∈ t.table) ∧
      (∀ e ∈ s.table, e.port = p → e.state = .fetching → e.current = true → (portOf s p).session = .session →
        { e with state := .orphan, current := false } ∈ t.table) ∧
      (∀ e : Entry, e.port ≠ p → (e ∈ t.table ↔ e ∈ s.table)) ∧
      ((portOf s p).session = .session →
        t.claims = s.claims.filter (fun c => c.2.holder != p) ∧ t.watches = s.watches.filter (fun w => w.port != p) ∧
        t.queue = s.queue.map (fun e => { e with marks := dropPort e.marks p }) ∧
        t.spaceWait = s.spaceWait.filter (fun id => !s.table.any (fun e => e.id == id && e.port == p && e.current)) ∧
        t.fetchWait = s.fetchWait.filter (fun id => !s.table.any (fun e => e.id == id && e.port == p && e.current)) ∧
        t.starvation = if t.fetchWait = [] then 0 else s.starvation) ∧
      ((portOf s p).session ≠ .session →
        t.claims = s.claims ∧ t.watches = s.watches ∧ t.queue = s.queue ∧ t.spaceWait = s.spaceWait ∧
        t.fetchWait = s.fetchWait ∧ t.starvation = s.starvation) ∧
      t = { s with
        ports      := t.ports
        table      := t.table
        claims     := t.claims
        watches    := t.watches
        queue      := t.queue
        spaceWait  := t.spaceWait
        fetchWait  := t.fetchWait
        starvation := t.starvation }) ∧
  (∀ (s : State) (p : PortId),
    (portOf s p).session = .linkDown ∨ (portOf s p).mode = .clocked ∧ (portOf s p).selected = true →
    exec (.attention p) s = .next s)

/-- FRAME_SENT: the head frame leaves the transmit queue; a notice frees a notice slot; a response frees a response
slot, which takes the oldest held response of the port and frees its entry (sections 4.5 and 8.7). The next head frame
starts, from its delimiter on a CLOCKED port, which otherwise goes on to fill (an ASYNC frame in progress counts no bytes
sent: log 11); nothing else of the port or the part changes. With no frame queued, on a port that is down or not
selected, and on a CLOCKED port whose receiver is in a frame, whose bytes carry the exchange there, it does not take
place (logs 2 and 4). -/
def Obligations.FrameSentFreesItsSlot : Prop :=
  (∀ (s : State) (p : PortId) (f : TxFrame) (rest : List TxFrame),
    s.resetHold = none → (portOf s p).tx = f :: rest →
    ((portOf s p).mode = .async ∧ (portOf s p).session ≠ .linkDown ∨
      (portOf s p).mode = .clocked ∧ (portOf s p).selected = true ∧ (portOf s p).receiver = .hunting) →
    ∃ t, exec (.frameSent p) s = .next t ∧
      (isResponse f = false ∨ (portOf s p).held = [] → (portOf t p).tx = rest ∧ t.table = s.table ∧
        (portOf t p).held = (portOf s p).held) ∧
      (∀ id ids e r, isResponse f = true → (portOf s p).held = id :: ids → entryOf s id = some e →
        e.response = some r →
        (portOf t p).tx = rest ++ [.response r] ∧ (portOf t p).held = ids ∧
          t.table = s.table.filter (fun d => d.id != id)) ∧
      portOf t p = { portOf s p with
        tx      := (portOf t p).tx
        held    := (portOf t p).held
        sending := if (portOf t p).tx = [] then none else some 0
        outByte := (match (portOf s p).mode with
          | .async => (portOf s p).outByte
          | .clocked => some (if (portOf t p).tx = [] then 0xFF else 0xD3)) } ∧
      (∀ q, q ≠ p → portOf t q = portOf s q) ∧
      t = { s with ports := t.ports, table := t.table }) ∧
  (∀ (s : State) (p : PortId),
    (portOf s p).tx = [] ∨ (portOf s p).mode = .async ∧ (portOf s p).session = .linkDown ∨
      (portOf s p).mode = .clocked ∧ ((portOf s p).selected = false ∨ (portOf s p).receiver ≠ .hunting) →
    exec (.frameSent p) s = .next s)

/-- The bytes of a whole frame, taken one after another by a hunting port, do what FRAME_RECEIVED does with its body, on
ASYNC and on CLOCKED, where each is exchanged for one of the part's; bytes other than the delimiter before it change
nothing on ASYNC. With a check word other than its own the frame is discarded and FRAME_ERR is set, as by FRAME_ERROR
(sections 8.3, 8.5 and 10.1; that the commands agree is the model's choice, log 4). -/
def Obligations.BytesMakeAFrame : Prop :=
  (∀ (s : State) (p : PortId) (stray body : List Byte) (order : EdgeOrder),
     s.resetHold = none → (portOf s p).mode = .async → (portOf s p).session ≠ .linkDown →
     (portOf s p).receiver = .hunting → (∀ b ∈ stray, b ≠ 0xD3) → 3 ≤ body.length → body.length ≤ 56 →
     runAll (asyncBytes p (stray ++ wireFrame body)) s = runAll [.frameReceived p ⟨body, order⟩] s) ∧
  (∀ (s : State) (p : PortId) (body : List Byte) (hi lo : Byte),
     s.resetHold = none → (portOf s p).mode = .async → (portOf s p).session ≠ .linkDown →
     (portOf s p).receiver = .hunting → 3 ≤ body.length → body.length ≤ 56 →
     halfOf hi lo ≠ crc (BitVec.ofNat 8 body.length :: body) →
     runAll (asyncBytes p ([0xD3, BitVec.ofNat 8 body.length] ++ body ++ [hi, lo])) s =
       some (updPort p (fun x => { x with frameErr := true }) s)) ∧
  (∀ (s : State) (p : PortId) (body : List Byte) (early order : EdgeOrder),
     s.resetHold = none → (portOf s p).mode = .clocked → (portOf s p).selected = true →
     (portOf s p).receiver = .hunting → 3 ≤ body.length → body.length ≤ 56 →
     runAll (clockedBytes p early ((wireFrame body).take (body.length + 3)) ++
         clockedBytes p order ((wireFrame body).drop (body.length + 3))) s =
       runAll [.frameReceived p ⟨body, order⟩] s) ∧
  (∀ (s : State) (p : PortId) (body : List Byte) (hi lo : Byte) (order : EdgeOrder),
     s.resetHold = none → (portOf s p).mode = .clocked → (portOf s p).selected = true →
     (portOf s p).receiver = .hunting → 3 ≤ body.length → body.length ≤ 56 →
     halfOf hi lo ≠ crc (BitVec.ofNat 8 body.length :: body) →
     runAll (clockedBytes p order ([0xD3, BitVec.ofNat 8 body.length] ++ body ++ [hi, lo])) s =
       runAll [.frameError p (.crcMismatch body.length)] s)

/-- BYTE_RECEIVED on an ASYNC port, by the receiver's state (sections 8.2 and 8.5): hunting, the length byte, a byte of
the frame before its last, a stop-bit error in the frame, and a byte that is skipped; its last byte is the matter of
BytesMakeAFrame. The moments of a CLOCKED byte do not take place on it (log 2). -/
def Obligations.AsyncByteByReceiverState : Prop :=
  ∀ (s : State) (p : PortId) (b : Byte) (good : Bool) (order : EdgeOrder),
    s.resetHold = none → (portOf s p).mode = .async → (portOf s p).session ≠ .linkDown →
    ((portOf s p).receiver = .hunting → b = 0xD3 → good = true →
      exec (.byteReceived p b (.stopBit good) order) s = .next (updPort p (fun x => { x with receiver := .inFrame none [] }) s)) ∧
    ((portOf s p).receiver = .hunting → b ≠ 0xD3 ∨ good = false → exec (.byteReceived p b (.stopBit good) order) s = .next s) ∧
    (∀ got, (portOf s p).receiver = .inFrame none got → good = true → 3 ≤ b.toNat → b.toNat ≤ 56 →
      exec (.byteReceived p b (.stopBit good) order) s =
        .next (updPort p (fun x => { x with receiver := .inFrame (some b.toNat) [] }) s)) ∧
    (∀ got, (portOf s p).receiver = .inFrame none got → good = false ∨ b.toNat < 3 ∨ 56 < b.toNat →
      exec (.byteReceived p b (.stopBit good) order) s =
        .next (updPort p (fun x => { x with receiver := .hunting, frameErr := true }) s)) ∧
    (∀ length got, (portOf s p).receiver = .inFrame (some length) got → good = true → got.length + 1 < length + 2 →
      exec (.byteReceived p b (.stopBit good) order) s =
        .next (updPort p (fun x => { x with receiver := .inFrame (some length) (got ++ [b]) }) s)) ∧
    (∀ length got, (portOf s p).receiver = .inFrame (some length) got → good = false → got.length ≤ length →
      exec (.byteReceived p b (.stopBit good) order) s =
        .next (updPort p (fun x => { x with receiver := .skipping (length + 1 - got.length), frameErr := true }) s)) ∧
    (∀ length got, (portOf s p).receiver = .inFrame (some length) got → good = false → got.length = length + 1 →
      exec (.byteReceived p b (.stopBit good) order) s =
        .next (updPort p (fun x => { x with receiver := .hunting, frameErr := true }) s)) ∧
    (∀ left, (portOf s p).receiver = .skipping (left + 2) →
      exec (.byteReceived p b (.stopBit good) order) s =
        .next (updPort p (fun x => { x with receiver := .skipping (left + 1) }) s)) ∧
    ((portOf s p).receiver = .skipping 1 →
      exec (.byteReceived p b (.stopBit good) order) s = .next (updPort p (fun x => { x with receiver := .hunting }) s)) ∧
    exec (.byteReceived p b .eighthEdge order) s = .next s ∧ exec (.byteReceived p b .selection order) s = .next s

/-- BYTE_RECEIVED on a CLOCKED port. SELn becoming active fixes the byte the part presents: the delimiter of the head
frame, or fill. At the eighth edge the incoming byte goes to the receiver, in each of its states, and a frame it makes
good to the window check; of the outgoing side the frame in progress goes on with its next byte, or, its last byte sent,
leaves the queue for the next head frame or fill; a frame placed on an empty queue during a fill byte begins at that
boundary (sections 8.3, 8.5 and 8.7). Where the last byte of a response frees its slot for a held one on the edge that
completes a good frame at the count of 4, the order of the two, which section 8.6 leaves open, decides the admission
(log 9). -/
def Obligations.ClockedByteIsExchanged : Prop :=
  (∀ (s : State) (p : PortId) (b : Byte) (order : EdgeOrder), s.resetHold = none → (portOf s p).mode = .clocked →
    ((portOf s p).selected = false →
      exec (.byteReceived p b .selection order) s = .next (updPort p (fun x =>
        { x with
          selected := true
          sending  := if x.tx = [] then none else some 0
          outByte  := some (if x.tx = [] then 0xFF else 0xD3) }) s) ∧
      exec (.byteReceived p b .eighthEdge order) s = .next s) ∧
    ((portOf s p).selected = true → exec (.byteReceived p b .selection order) s = .next s) ∧
    ∀ good, exec (.byteReceived p b (.stopBit good) order) s = .next s) ∧
  (∀ (s : State) (p : PortId) (b : Byte) (order : EdgeOrder) (taken : Port → Port),
    s.resetHold = none → (portOf s p).mode = .clocked → (portOf s p).selected = true →
    ((portOf s p).receiver = .hunting ∧ b ≠ 0xD3 ∧ taken = (fun x => x) ∨
      (portOf s p).receiver = .hunting ∧ b = 0xD3 ∧ taken = (fun x => { x with receiver := .inFrame none [] }) ∨
      (∃ got, (portOf s p).receiver = .inFrame none got ∧ 3 ≤ b.toNat ∧ b.toNat ≤ 56 ∧
        taken = fun x => { x with receiver := .inFrame (some b.toNat) [] }) ∨
      (∃ got, (portOf s p).receiver = .inFrame none got ∧ (b.toNat < 3 ∨ 56 < b.toNat) ∧
        taken = fun x => { x with receiver := .hunting, frameErr := true }) ∨
      (∃ length got, (portOf s p).receiver = .inFrame (some length) got ∧ got.length + 1 < length + 2 ∧
        taken = fun x => { x with receiver := .inFrame (some length) (got ++ [b]) }) ∨
      (∃ length got, (portOf s p).receiver = .inFrame (some length) got ∧ got.length = length + 1 ∧
        halfAt (got ++ [b]) length ≠ crc (BitVec.ofNat 8 length :: got.take length) ∧
        taken = fun x => { x with receiver := .hunting, frameErr := true }) ∨
      (∃ length got, (portOf s p).receiver = .inFrame (some length) got ∧ got.length = length + 1 ∧
        halfAt (got ++ [b]) length = crc (BitVec.ofNat 8 length :: got.take length) ∧
        (∀ f rest k, (portOf s p).tx = f :: rest → (portOf s p).sending = some k → k + 1 = (txBytes f).length →
          isResponse f = false ∨ (portOf s p).held = []) ∧
        ((portOf s p).overrun = false ∧ outstanding s p < 4 ∧
            taken = (fun x =>
              { x with receiver := .hunting, rxBuffer := x.rxBuffer ++ [⟨got.take length, false⟩] }) ∨
          (portOf s p).overrun = false ∧ 4 ≤ outstanding s p ∧
            taken = (fun x => { x with receiver := .hunting, overrun := true }) ∨
          (portOf s p).overrun = true ∧ byteAt (got.take length) 0 = 0x28 ∧ length = 3 ∧ outstanding s p < 4 ∧
            taken = (fun x =>
              { x with receiver := .hunting, rxBuffer := x.rxBuffer ++ [⟨got.take length, true⟩], overrun := false }) ∨
          (portOf s p).overrun = true ∧ (byteAt (got.take length) 0 ≠ 0x28 ∨ length ≠ 3 ∨ 4 ≤ outstanding s p) ∧
            taken = (fun x => { x with receiver := .hunting }))) ∨
      (∃ left, (portOf s p).receiver = .skipping (left + 2) ∧
        taken = fun x => { x with receiver := .skipping (left + 1) }) ∨
      (portOf s p).receiver = .skipping 1 ∧ taken = (fun x => { x with receiver := .hunting })) →
    (∀ f rest k, (portOf s p).tx = f :: rest → (portOf s p).sending = some k → k + 1 < (txBytes f).length →
      exec (.byteReceived p b .eighthEdge order) s = .next (updPort p (fun x =>
        { taken x with sending := some (k + 1), outByte := some (byteAt (txBytes f) (k + 1)) }) s)) ∧
    (∀ f rest k, (portOf s p).tx = f :: rest → (portOf s p).sending = some k → k + 1 = (txBytes f).length →
      isResponse f = false ∨ (portOf s p).held = [] →
      exec (.byteReceived p b .eighthEdge order) s = .next (updPort p (fun x =>
        { taken x with
          tx      := rest
          sending := if rest = [] then none else some 0
          outByte := some (if rest = [] then 0xFF else 0xD3) }) s)) ∧
    (∀ f rest k id ids e r, (portOf s p).tx = f :: rest → (portOf s p).sending = some k →
      k + 1 = (txBytes f).length → isResponse f = true → (portOf s p).held = id :: ids → entryOf s id = some e →
      e.response = some r →
      exec (.byteReceived p b .eighthEdge order) s = .next (updPort p (fun x =>
        { taken x with tx := rest ++ [.response r], held := ids, sending := some 0, outByte := some 0xD3 })
        { s with table := s.table.filter (fun d => d.id != id) })) ∧
    ((portOf s p).tx = [] → (portOf s p).sending = none →
      exec (.byteReceived p b .eighthEdge order) s =
        .next (updPort p (fun x => { taken x with outByte := some 0xFF }) s)) ∧
    (∀ f rest, (portOf s p).tx = f :: rest → (portOf s p).sending = none →
      exec (.byteReceived p b .eighthEdge order) s = .next (updPort p (fun x =>
        { taken x with sending := some 0, outByte := some 0xD3 }) s))) ∧
  (∀ (s : State) (p : PortId) (b : Byte) (order : EdgeOrder) (length k id : Nat) (got : List Byte) (f : TxFrame)
    (rest : List TxFrame) (ids : List Nat) (e : Entry) (r : Response),
    s.resetHold = none → (portOf s p).mode = .clocked → (portOf s p).selected = true →
    (portOf s p).receiver = .inFrame (some length) got → got.length = length + 1 →
    halfAt (got ++ [b]) length = crc (BitVec.ofNat 8 length :: got.take length) →
    (portOf s p).tx = f :: rest → isResponse f = true → (portOf s p).sending = some k → k + 1 = (txBytes f).length →
    (portOf s p).held = id :: ids → entryOf s id = some e → e.port = p → e.current = true → e.response = some r →
    (portOf s p).overrun = false → outstanding s p = 4 →
    ∃ t, exec (.byteReceived p b .eighthEdge order) s = .next t ∧
      t.table = s.table.filter (fun d => d.id != id) ∧ (portOf t p).tx = rest ++ [.response r] ∧
      (portOf t p).held = ids ∧ (portOf t p).receiver = .hunting ∧
      match order with
      | .incomingFirst => (portOf t p).overrun = true ∧ (portOf t p).rxBuffer = (portOf s p).rxBuffer
      | .outgoingFirst => (portOf t p).overrun = false ∧
          (portOf t p).rxBuffer = (portOf s p).rxBuffer ++ [⟨got.take length, false⟩])

/-- The links are independent (section 8.1): the link commands of a port leave every other port, and every block but
the request table, as it was; of the table they free at most entries of held responses of that port. -/
def Obligations.LinkCommandsStayOnTheirPort : Prop :=
  ∀ (s t : State) (p : PortId) (c : Instr),
    ((∃ frame, c = .frameReceived p frame) ∨ (∃ f, c = .frameError p f) ∨ c = .interByteGapTimeout p ∨
      c = .deselection p ∨ (∃ low, c = .calibration p low) ∨ c = .frameSent p ∨
      ∃ b moment order, c = .byteReceived p b moment order) →
    exec c s = .next t →
    t = { s with ports := t.ports, table := t.table } ∧ (∀ q, q ≠ p → portOf t q = portOf s q) ∧
      (∀ e ∈ t.table, e ∈ s.table) ∧ (∀ e ∈ s.table, e ∉ t.table → e.id ∈ (portOf s p).held)

/-! ### The request table -/

/-- The dispatch checks in their order, the first that applies refusing: kind, session, tag, part state, arguments; the
argument tests of a known kind in theirs: body length, record, payload, lease (sections 4.3 and 10.2). -/
def Obligations.DispatchChecksInOrder : Prop :=
  (∀ (s : State) (p : PortId) (id : Nat) (f : RxFrame),
     dispatchCheck s p id f =
       if byteAt f.body 0 ∉ requestKinds then some .badKind
       else if (portOf s p).session ≠ .session ∧ byteAt f.body 0 ∉ [kindOpen, kindStatus, kindResync] then some .noSession
       else if byteAt f.body 0 ≠ kindResync ∧
           ∃ e ∈ s.table, e.port = p ∧ e.current = true ∧ e.id ≠ id ∧ e.tag = byteAt f.body 1 then some .tagInUse
       else if s.partState = .startup ∧ byteAt f.body 0 ∉ [kindOpen, kindClose, kindStatus, kindResync] ∨
           s.partState = .resuming ∧
             byteAt f.body 0 ∉ [kindRead, kindInspect, kindOpen, kindClose, kindStatus, kindResync] then some .notReady
       else checkArgs f) ∧
  (∀ f : RxFrame, byteAt f.body 0 ∈ requestKinds →
     checkArgs f =
       if f.body.length < (shortestBody (byteAt f.body 0)) ∨ (longestBody (byteAt f.body 0)) < f.body.length then
         some .badArg
       else if byteAt f.body 0 ∈ [kindRead, kindWrite, kindWriteIf, kindErase, kindInspect, kindClaim, kindRelease,
           kindWatch, kindUnwatch] ∧ 1023 < (halfAt f.body 2).toNat then some .badRec
       else if byteAt f.body 0 = kindWrite ∧
           ((byteAt f.body 4).toNat = 0 ∨ 48 < (byteAt f.body 4).toNat ∨
             f.body.length ≠ 5 + (byteAt f.body 4).toNat) then some .badArg
       else if byteAt f.body 0 = kindWriteIf ∧
           ((byteAt f.body 6).toNat = 0 ∨ 48 < (byteAt f.body 6).toNat ∨
             f.body.length ≠ 7 + (byteAt f.body 6).toNat) then some .badArg
       else if byteAt f.body 0 = kindClaim ∧ ((halfAt f.body 4).toNat = 0 ∨ 3000 < (halfAt f.body 4).toNat) then
         some .badArg
       else none)

/-- A request that dispatch refuses is taken from the buffer into its entry and answered with the NAK of its own kind and
tag; nothing else changes but what the controller's next choice starts; the command of the frame's kind takes and
dispatches it in one step (section 4.3; log 3). BAD_KIND_REQUEST is that command for a kind that is none of the fourteen
codes, answered NAK(BAD_KIND) with the kind as received and the tag of the second byte (section 10.1). -/
def Obligations.RefusedRequestIsAnswered : Prop :=
  (∀ (s : State) (p : PortId) (id : Nat) (f : RxFrame) (rest : List RxFrame) (code : NakCode),
     s.resetHold = none → (portOf s p).rxBuffer = f :: rest → freeReserved s p = some id →
     dispatchCheck (takeFrame p id f rest s) p id f = some code →
     exec (rowFor p (byteAt f.body 0)) s =
       .next (settle (answer id (.nak (byteAt f.body 0) code) (takeFrame p id f rest s)))) ∧
  (∀ (s : State) (p : PortId) (id : Nat) (f : RxFrame) (rest : List RxFrame),
     s.resetHold = none → (portOf s p).rxBuffer = f :: rest → freeReserved s p = some id →
     byteAt f.body 0 ∉ [0x01, 0x02, 0x03, 0x04, 0x05, 0x06, 0x10, 0x11, 0x18, 0x19, 0x20, 0x21, 0x22, 0x28] →
     exec (.badKindRequest p) s =
       .next (settle (answer id (.nak (byteAt f.body 0) .badKind)
         { takeFrame p id f rest s with
           table := s.table ++ [⟨id, p, byteAt f.body 1, byteAt f.body 0, argsOf f, true, .dispatched, none⟩] }))) ∧
  (∀ (s : State) (p : PortId) (id : Nat) (f : RxFrame) (rest : List RxFrame),
     takeFrame p id f rest s = updPort p (fun x => { x with rxBuffer := rest })
       { s with table := s.table ++ [⟨id, p, byteAt f.body 1, byteAt f.body 0, argsOf f, true, .dispatched, none⟩] })

/-- A request that passes dispatch is handed to the block of its kind, from a reserved entry by the command of its kind
and from a pooled entry by POOL_GRANT alike (sections 4.2 and 4.3). POOL_GRANT serves the first port in the ring after
the one last granted whose head frame waits, and remembers it. The entry taken is a free one of the port's two, or of the
eight pooled (section 4.1); which of several free ones is the model's choice (log 20), which this leaves open. -/
def Obligations.PoolGrantServesTheRing : Prop :=
  (∀ (s : State) (p : PortId) (id : Nat) (f : RxFrame) (rest : List RxFrame),
    Passes s p id f rest →
    exec (rowFor p (byteAt f.body 0)) s =
      .next (settle (handlerOf (byteAt f.body 0) (newEntry id p f) (takeFrame p id f rest s)))) ∧
  (∀ (s u : State) (p : PortId) (id : Nat) (f : RxFrame) (rest : List RxFrame),
    s.resetHold = none → freePooled s = some id → (portOf s p).rxBuffer = f :: rest → freeReserved s p = none →
    (∀ q, (portOf s q).rxBuffer ≠ [] → freeReserved s q = none →
      ringDistance s.lastGranted p ≤ ringDistance s.lastGranted q) →
    u = takeFrame p id f rest { s with lastGranted := p } →
    (dispatchCheck u p id f = none →
      exec .poolGrant s = .next (settle (handlerOf (byteAt f.body 0) (newEntry id p f) u))) ∧
    (∀ code, dispatchCheck u p id f = some code →
      exec .poolGrant s = .next (settle (answer id (.nak (byteAt f.body 0) code) u)))) ∧
  (∀ (s : State) (p : PortId),
    (∀ id, freeReserved s p = some id →
      (id = 2 * portNumber p ∨ id = 2 * portNumber p + 1) ∧ ∀ e ∈ s.table, e.id ≠ id) ∧
    (freeReserved s p = none →
      (∃ e ∈ s.table, e.id = 2 * portNumber p) ∧ ∃ e ∈ s.table, e.id = 2 * portNumber p + 1)) ∧
  (∀ s : State,
    (∀ id, freePooled s = some id → 8 ≤ id ∧ id < 16 ∧ ∀ e ∈ s.table, e.id ≠ id) ∧
    (freePooled s = none → ∀ id, 8 ≤ id → id < 16 → ∃ e ∈ s.table, e.id = id))

/-- An answer is placed at the back of its port's transmit queue, which frees the entry, if a response slot is free and no
older response of the port is held; otherwise the entry holds it, behind the older ones (section 4.5); the table's
numbers are each used once (section 4.1). A notice other than LINKUP passes over a port without a session and is offered
to one with; in a free notice slot it carries the gap mark that NOTICE_GAP gives and clears the flag; with no slot free it
is dropped and sets the flag (sections 6.3 and 6.4). Nothing else changes. -/
def Obligations.AnswersAndNoticesArePlaced : Prop :=
  (∀ (s t : State) (id : Nat) (e : Entry) (a : Answer),
     TableGood s → entryOf s id = some e → t = answer id a s →
     ((portOf s e.port).held = [] ∧ responseCount (portOf s e.port).tx < 4 →
       portOf t e.port = { portOf s e.port with
         tx      := (portOf s e.port).tx ++ [.response ⟨e.tag, a⟩]
         sending := if (portOf s e.port).mode = .async ∧ (portOf s e.port).tx = [] then some 0
           else (portOf s e.port).sending } ∧
       t.table = s.table.filter (fun d => d.id != id)) ∧
     ((portOf s e.port).held ≠ [] ∨ 4 ≤ responseCount (portOf s e.port).tx →
       portOf t e.port = { portOf s e.port with held := (portOf s e.port).held ++ [id] } ∧
       t.table = s.table.map (fun d =>
         if d.id = id then { d with state := .dispatched, response := some ⟨e.tag, a⟩ } else d)) ∧
     t = { s with ports := t.ports, table := t.table } ∧ ∀ q, q ≠ e.port → portOf t q = portOf s q) ∧
  (∀ (s : State) (p : PortId) (n : Notice),
     ((portOf s p).session ≠ .session → notify n p s = s) ∧
     ((portOf s p).session = .session → notify n p s = updPort p (offerNotice n) s)) ∧
  (∀ (x : Port) (n : Notice),
     (noticeCount x.tx < 4 → offerNotice n x =
         { x with
           tx        := x.tx ++ [.notice n x.noticeGap]
           sending   := if x.mode = .async ∧ x.tx = [] then some 0 else x.sending
           noticeGap := false }) ∧
     (4 ≤ noticeCount x.tx → offerNotice n x = { x with noticeGap := true }))

/-- Every request within range survives its own body: the frame of the kind, tag and arguments is read as that kind,
that tag and those arguments, and passes check 5 (section 10.2). -/
def Obligations.RequestBodiesRoundTrip : Prop :=
  ∀ (kind tag : Byte) (a : Args), kind ∈ requestKinds → ArgsFit kind a →
    byteAt (bodyOf kind tag a) 0 = kind ∧ byteAt (bodyOf kind tag a) 1 = tag ∧
      argsOf ⟨bodyOf kind tag a, a.overrun⟩ = a ∧ checkArgs ⟨bodyOf kind tag a, a.overrun⟩ = none

/-! ### Data requests -/

/-- READ of a record that the queue or a row other than VALID answers: DATA from the newest entry of kind WRITE,
NAK(EMPTY), NAK(CORRUPT) or NAK(FAULTED), in every part state that dispatch lets it reach (section 1.5, section 4.4). -/
def Obligations.ReadIsAnsweredAtOnce : Prop :=
  ∀ (s u : State) (p : PortId) (id : Nat) (f : RxFrame) (rest : List RxFrame),
    Passes s p id f rest → byteAt f.body 0 = kindRead → s.built = true → u = takeFrame p id f rest s →
    (∀ e payload, newestEntry s (recordOf f) = some e → e.change = .write payload →
      exec (.read p) s = .next (settle (answer id (.data (recordOf f) e.version payload) u))) ∧
    (∀ e, newestEntry s (recordOf f) = some e → e.change = .erase →
      exec (.read p) s = .next (settle (answer id (.nak kindRead (.empty e.version)) u))) ∧
    (newestEntry s (recordOf f) = none → (rowOf s (recordOf f)).state = .empty →
      exec (.read p) s =
        .next (settle (answer id (.nak kindRead (.empty (rowOf s (recordOf f)).version)) u))) ∧
    (newestEntry s (recordOf f) = none → (rowOf s (recordOf f)).state = .corrupt →
      exec (.read p) s = .next (settle (answer id (.nak kindRead .corrupt) u))) ∧
    (newestEntry s (recordOf f) = none → (rowOf s (recordOf f)).state = .faulted →
      exec (.read p) s = .next (settle (answer id (.nak kindRead .faulted) u)))

/-- READ of a record with no queue entry and a VALID row: in RUN it joins the back of the fetch waiting list in
WAIT_FETCH; in HOLDUP it is refused NAK(HOLDUP), in PARKED and RESUMING NAK(PARKED); over a directory not built READ and
INSPECT are refused NAK(PARKED) (sections 1.3 and 4.4). -/
def Obligations.ReadThatNeedsAFetch : Prop :=
  ∀ (s u : State) (p : PortId) (id : Nat) (f : RxFrame) (rest : List RxFrame),
    Passes s p id f rest → u = takeFrame p id f rest s →
    (byteAt f.body 0 = kindRead → s.built = true → newestEntry s (recordOf f) = none →
      (rowOf s (recordOf f)).state = .valid →
      (s.partState = .run → exec (.read p) s = .next (settle
        { u with
          fetchWait := s.fetchWait ++ [id]
          table     := s.table ++ [{ newEntry id p f with state := .waitFetch }] })) ∧
      (s.partState = .holdup → exec (.read p) s = .next (settle (answer id (.nak kindRead .holdup) u))) ∧
      (s.partState = .parked ∨ s.partState = .resuming →
        exec (.read p) s = .next (settle (answer id (.nak kindRead .parked) u)))) ∧
    (byteAt f.body 0 = kindRead → s.built = false →
      exec (.read p) s = .next (settle (answer id (.nak kindRead .parked) u))) ∧
    (byteAt f.body 0 = kindInspect → s.built = false →
      exec (.inspect p) s = .next (settle (answer id (.nak kindInspect .parked) u)))

/-- WRITE, WRITE_IF and ERASE accepted: in RUN, with no earlier change of the port waiting, no other port's claim, a row
not FAULTED and, for WRITE_IF, the visible version expected, the change takes the successor of the visible version; it
merges into the record's PENDING entry, or is a new entry at the back of a queue with room; ACCEPTED is answered, the
mode turns to DRAIN_FIRST at an occupancy of 24, and CHANGED is offered to each port in SESSION that watches the record,
but the writer (sections 2.2, 2.3, 3.3 and 6.3). -/
def Obligations.ChangeIsAccepted : Prop :=
  (∀ (s u : State) (p : PortId) (id : Nat) (f : RxFrame) (rest : List RxFrame) (c : Instr) (kind : Byte)
    (change : Change) (v : Half),
    Passes s p id f rest → byteAt f.body 0 = kind →
    (c = .write p ∧ kind = kindWrite ∧ change = .write (f.body.drop 5) ∨
      c = .writeIf p ∧ kind = kindWriteIf ∧ change = .write (f.body.drop 7) ∧
        halfAt f.body 4 = visibleVersion s (recordOf f) ∨
      c = .erase p ∧ kind = kindErase ∧ change = .erase) →
    u = takeFrame p id f rest s → s.partState = .run → hasWaiter u p = false →
    (∀ claim, claimOf s (recordOf f) = some claim → claim.holder = p) →
    (rowOf s (recordOf f)).state ≠ .faulted → v = nextVersion (visibleVersion s (recordOf f)) →
    (pendingEntry s (recordOf f) ≠ none →
      exec c s = .next (settle (reportChange p (recordOf f) v (kindOf change)
        (answer id (.accepted (recordOf f) v true) (modeAfterAcceptance
          { u with queue := s.queue.map (fun e =>
              if e.record = recordOf f ∧ e.phase = .pending then
                { e with change := change, version := v, origins := addPort e.origins p }
              else e) }))))) ∧
    (pendingEntry s (recordOf f) = none → s.queue.length < 32 →
      exec c s = .next (settle (reportChange p (recordOf f) v (kindOf change)
        (answer id (.accepted (recordOf f) v false) (modeAfterAcceptance
          { u with queue := s.queue ++
              [⟨recordOf f, change, v, .pending, addPort noPorts p, noPorts, 0, none⟩] })))))) ∧
  (∀ s : State, modeAfterAcceptance s =
    if s.partState = .run ∧ s.mode = .fetchFirst ∧ 24 ≤ s.queue.length then { s with mode := .drainFirst } else s) ∧
  (∀ (s t : State) (p : PortId) (r : Nat) (v : Half) (kind : ChangeKind), t = reportChange p r v kind s →
    t = { s with ports := t.ports } ∧ ∀ q, portOf t q =
      if (⟨r, q⟩ : Watch) ∈ s.watches ∧ q ≠ p ∧ (portOf s q).session = .session then
        offerNotice (.changed r v p kind) (portOf s q)
      else portOf s q)

/-- After the acceptance of a change the record's newest entry holds it, at the successor of the visible version, with
the port among its origins; the visible version of every other record is as it was; the successor of 65535 is 1, of any
other version that version plus one (sections 1.2, 2.3 and 2.4). The queue is
one that a run can hold. -/
def Obligations.AcceptedChangeIsVisible : Prop :=
  (∀ (s t u : State) (p : PortId) (id : Nat) (f : RxFrame) (rest : List RxFrame) (c : Instr) (change : Change),
    QueueGood s → Passes s p id f rest →
    (c = .write p ∧ byteAt f.body 0 = kindWrite ∧ change = .write (f.body.drop 5) ∨
      c = .writeIf p ∧ byteAt f.body 0 = kindWriteIf ∧ change = .write (f.body.drop 7) ∧
        halfAt f.body 4 = visibleVersion s (recordOf f) ∨
      c = .erase p ∧ byteAt f.body 0 = kindErase ∧ change = .erase) →
    u = takeFrame p id f rest s → s.partState = .run → hasWaiter u p = false →
    (∀ claim, claimOf s (recordOf f) = some claim → claim.holder = p) →
    (rowOf s (recordOf f)).state ≠ .faulted →
    pendingEntry s (recordOf f) ≠ none ∨ s.queue.length < 32 →
    exec c s = .next t →
    (∃ e, newestEntry t (recordOf f) = some e ∧ e.change = change ∧
      e.version = nextVersion (visibleVersion s (recordOf f)) ∧ inPorts e.origins p = true) ∧
    ∀ r, r ≠ recordOf f → visibleVersion t r = visibleVersion s r) ∧
  (∀ v : Half, nextVersion v = if v = 65535 then 1 else v + 1)

/-- WRITE, WRITE_IF and ERASE refused, by the first step of acceptance that applies: the part state, another port's claim,
a FAULTED row, and for WRITE_IF a visible version other than the one expected (section 2.2). Those that wait: behind an
earlier waiter of the port with no check made, or because the queue holds 32 entries and none PENDING of the record, the
request joins the back of the space-waiter list in WAIT_SPACE (section 2.6). The retry pass takes the waiters oldest
first: one behind a waiter of its port that stays is passed over, any other is decided anew and leaves the list when it is
refused or accepted; after the pass the oldest waiter of each port is one that the full queue still keeps waiting. -/
def Obligations.ChangeIsRefusedOrWaits : Prop :=
  (∀ (s u : State) (p : PortId) (id : Nat) (f : RxFrame) (rest : List RxFrame) (c : Instr) (kind : Byte),
     Passes s p id f rest → byteAt f.body 0 = kind →
     (c = .write p ∧ kind = kindWrite ∨ c = .writeIf p ∧ kind = kindWriteIf ∨ c = .erase p ∧ kind = kindErase) →
     u = takeFrame p id f rest s → hasWaiter u p = false →
     (s.partState = .holdup → exec c s = .next (settle (answer id (.nak kind .holdup) u))) ∧
     (s.partState = .parked → exec c s = .next (settle (answer id (.nak kind .parked) u))) ∧
     (∀ claim, s.partState = .run → claimOf s (recordOf f) = some claim → claim.holder ≠ p →
       exec c s = .next (settle (answer id (.nak kind (.claimed claim.holder)) u))) ∧
     (s.partState = .run → (∀ claim, claimOf s (recordOf f) = some claim → claim.holder = p) →
       (rowOf s (recordOf f)).state = .faulted →
       exec c s = .next (settle (answer id (.nak kind .faulted) u))) ∧
     (s.partState = .run → (∀ claim, claimOf s (recordOf f) = some claim → claim.holder = p) →
       (rowOf s (recordOf f)).state ≠ .faulted → kind = kindWriteIf →
       halfAt f.body 4 ≠ visibleVersion s (recordOf f) →
       exec c s = .next (settle (answer id (.nak kind (.versionMismatch (visibleVersion s (recordOf f)))) u)))) ∧
  (∀ (s u : State) (p : PortId) (id : Nat) (f : RxFrame) (rest : List RxFrame) (c : Instr),
     Passes s p id f rest →
     (c = .write p ∧ byteAt f.body 0 = kindWrite ∨
       c = .writeIf p ∧ byteAt f.body 0 = kindWriteIf ∧ (hasWaiter u p = true ∨ halfAt f.body 4 = visibleVersion s (recordOf f)) ∨
       c = .erase p ∧ byteAt f.body 0 = kindErase) →
     u = takeFrame p id f rest s →
     hasWaiter u p = true ∨
       s.partState = .run ∧ (∀ claim, claimOf s (recordOf f) = some claim → claim.holder = p) ∧
         (rowOf s (recordOf f)).state ≠ .faulted ∧ pendingEntry s (recordOf f) = none ∧ 32 ≤ s.queue.length →
     exec c s = .next (settle
       { u with
         spaceWait := s.spaceWait ++ [id]
         table     := s.table ++ [{ newEntry id p f with state := .waitSpace }] })) ∧
  (∀ s : State, retryPass s = retryWalk s.spaceWait noPorts s) ∧
  (∀ (s : State) (blocked : PortSet), retryWalk [] blocked s = s) ∧
  (∀ (s w : State) (id r : Nat) (later : List Nat) (blocked : PortSet) (e : Entry) (v : Half) (change : Change),
     entryOf s id = some e → r = e.args.record → w = { s with spaceWait := s.spaceWait.filter (fun j => j != id) } →
     v = nextVersion (visibleVersion s r) →
     change = (if e.kind = kindErase then .erase else .write e.args.payload) →
     (inPorts blocked e.port = true → retryWalk (id :: later) blocked s = retryWalk later blocked s) ∧
     (inPorts blocked e.port = false → s.partState = .run →
       (∀ c, claimOf s r = some c → c.holder ≠ e.port → retryWalk (id :: later) blocked s =
         retryWalk later blocked (answer id (.nak e.kind (.claimed c.holder)) w)) ∧
       ((∀ c, claimOf s r = some c → c.holder = e.port) →
         ((rowOf s r).state = .faulted → retryWalk (id :: later) blocked s =
           retryWalk later blocked (answer id (.nak e.kind .faulted) w)) ∧
         ((rowOf s r).state ≠ .faulted → e.kind = kindWriteIf → e.args.expected ≠ visibleVersion s r →
           retryWalk (id :: later) blocked s =
             retryWalk later blocked (answer id (.nak e.kind (.versionMismatch (visibleVersion s r))) w)) ∧
         ((rowOf s r).state ≠ .faulted → (e.kind = kindWriteIf → e.args.expected = visibleVersion s r) →
           (pendingEntry s r ≠ none → retryWalk (id :: later) blocked s =
             retryWalk later blocked (reportChange e.port r v (kindOf change) (answer id (.accepted r v true)
               (modeAfterAcceptance { w with queue := s.queue.map (fun q =>
                 if q.record = r ∧ q.phase = .pending then
                   { q with change := change, version := v, origins := addPort q.origins e.port }
                 else q) })))) ∧
           (pendingEntry s r = none → s.queue.length < 32 → retryWalk (id :: later) blocked s =
             retryWalk later blocked (reportChange e.port r v (kindOf change) (answer id (.accepted r v false)
               (modeAfterAcceptance { w with queue := s.queue ++
                 [⟨r, change, v, .pending, addPort noPorts e.port, noPorts, 0, none⟩] })))) ∧
           (pendingEntry s r = none → 32 ≤ s.queue.length → retryWalk (id :: later) blocked s =
             retryWalk later (addPort blocked e.port) s))))) ∧
  (∀ (s t : State) (older newer : List Nat) (id : Nat) (e : Entry),
     ListsGood s → t = retryPass s → t.spaceWait = older ++ id :: newer → entryOf t id = some e →
     (∀ j ∈ older, ∀ d, entryOf t j = some d → d.port ≠ e.port) →
     t.partState = .run ∧ (∀ c, claimOf t e.args.record = some c → c.holder = e.port) ∧
       (rowOf t e.args.record).state ≠ .faulted ∧ pendingEntry t e.args.record = none ∧ 32 ≤ t.queue.length)

/-- INSPECT over a built directory: the row, the PROGRAMMING and the PENDING entry of the record, its visible version,
its claim and the number of its watchers, as they stand (section 4.4). -/
def Obligations.InspectReportsTheRecord : Prop :=
  ∀ (s : State) (p : PortId) (id : Nat) (f : RxFrame) (rest : List RxFrame),
    Passes s p id f rest → byteAt f.body 0 = kindInspect → s.built = true →
    exec (.inspect p) s = .next (settle (answer id (.inspectInfo
      { record   := recordOf f
        row      := rowOf s (recordOf f)
        entries  := ((programmingEntry s (recordOf f)).toList ++ (pendingEntry s (recordOf f)).toList).map (fun e =>
          ⟨e.phase, (match e.change with | .write _ => .write | .erase => .erase), e.version, e.attempts, e.target⟩)
        visible  := visibleVersion s (recordOf f)
        claim    := (claimOf s (recordOf f)).map (fun c => (c.holder, c.lease))
        watchers := (s.watches.filter (fun w => w.record == recordOf f)).length }) (takeFrame p id f rest s)))

/-- FLUSH: refused while the port's FLUSH is open; answered ALL_COMMITTED at once where no entry carries the port's
changes; otherwise it marks each entry that does, opens the record with their number, and waits. When marked entries
leave the queue the count falls by their number, and a fault among them is noted; at 0 the FLUSH is answered,
SOME_FAULTED if a fault was noted and ALL_COMMITTED if none was, and its record is closed; the ports are taken in the
order P0 to P3 (log 19; section 2.7). -/
def Obligations.FlushMarksTheQueue : Prop :=
  (∀ (s u : State) (p : PortId) (id : Nat) (f : RxFrame) (rest : List RxFrame),
    Passes s p id f rest → byteAt f.body 0 = kindFlush → u = takeFrame p id f rest s →
    ((portOf s p).flush ≠ none → exec (.flush p) s = .next (settle (answer id (.nak kindFlush .flushPending) u))) ∧
    ((portOf s p).flush = none → (∀ e ∈ s.queue, inPorts e.origins p = false) →
      exec (.flush p) s = .next (settle (answer id (.flushed false) u))) ∧
    (∀ n, (portOf s p).flush = none → n = (s.queue.filter (fun e => inPorts e.origins p)).length → n ≠ 0 →
      exec (.flush p) s = .next (settle
        { updPort p (fun x => { x with flush := some ⟨byteAt f.body 1, n, false⟩ }) u with
          queue := s.queue.map (fun e => if inPorts e.origins p then { e with marks := addPort e.marks p } else e)
          table := s.table ++ [{ newEntry id p f with state := .waitFlush }] }))) ∧
  (∀ (s : State) (p : PortId) (n : Nat) (fault : Bool) (f : FlushRecord), (portOf s p).flush = some f →
     (n = 0 → dropMarks p n fault s = s) ∧
     (n ≠ 0 → n < f.count → dropMarks p n fault s =
       updPort p (fun x => { x with flush := some ⟨f.tag, f.count - n, f.fault || fault⟩ }) s) ∧
     (∀ e, n ≠ 0 → f.count ≤ n → s.table.find? (fun e => e.port == p && e.state == .waitFlush) = some e →
       dropMarks p n fault s =
         answer e.id (.flushed (f.fault || fault)) (updPort p (fun x => { x with flush := none }) s))) ∧
  (∀ (s : State) (p : PortId) (n : Nat) (fault : Bool), (portOf s p).flush = none → dropMarks p n fault s = s) ∧
  (∀ (s : State) (removed : List QueueEntry) (fault : Bool) (n : PortId → Nat),
     n = (fun p => (removed.filter (fun e => inPorts e.marks p)).length) →
     dropAllMarks removed fault s =
       dropMarks .p3 (n .p3) fault (dropMarks .p2 (n .p2) fault (dropMarks .p1 (n .p1) fault
         (dropMarks .p0 (n .p0) fault s)))) ∧
  (∀ (f : PortId → State → State) (s : State), forPorts f s = f .p3 (f .p2 (f .p1 (f .p0 s))))

/-! ### Claims and watches -/

/-- CLAIM by the steps of section 5.2: refused outside RUN, refused to another holder, renewed by the holder even in a
full table, refused in a full table, granted otherwise; GRANTED carries the lease as granted. A grant sets the record's
claim and no other; a renewal keeps the number of claims, a new claim adds one (section 5.1). -/
def Obligations.ClaimIsDecided : Prop :=
  (∀ (s u : State) (p : PortId) (id : Nat) (f : RxFrame) (rest : List RxFrame),
     Passes s p id f rest → byteAt f.body 0 = kindClaim → u = takeFrame p id f rest s →
     (s.partState = .holdup → exec (.claim p) s = .next (settle (answer id (.nak kindClaim .holdup) u))) ∧
     (s.partState = .parked → exec (.claim p) s = .next (settle (answer id (.nak kindClaim .parked) u))) ∧
     (∀ c, s.partState = .run → claimOf s (recordOf f) = some c → c.holder ≠ p →
       exec (.claim p) s = .next (settle (answer id (.nak kindClaim (.claimed c.holder)) u))) ∧
     (s.partState = .run → claimOf s (recordOf f) = none → 16 ≤ s.claims.length →
       exec (.claim p) s = .next (settle (answer id (.nak kindClaim .claimFull) u))) ∧
     (s.partState = .run →
       (∃ c, claimOf s (recordOf f) = some c ∧ c.holder = p) ∨
         claimOf s (recordOf f) = none ∧ s.claims.length < 16 →
       exec (.claim p) s = .next (settle (answer id (.granted (recordOf f) (halfAt f.body 4).toNat)
         { u with claims := keyedInsert (recordOf f) ⟨p, (halfAt f.body 4).toNat⟩ s.claims })))) ∧
  (∀ (s : State) (r : Nat) (c : Claim), KeysRise s.claims →
     (∀ q, keyedFind (keyedInsert r c s.claims) q = if q = r then some c else claimOf s q) ∧
     KeysRise (keyedInsert r c s.claims) ∧
     (keyedInsert r c s.claims).length = s.claims.length + (if (claimOf s r).isSome then 0 else 1))

/-- RELEASE: the holder's claim is removed and RELEASED answered; with no claim, or another port's, NAK(NOT_HELD) and
the table as it was (section 5.3). -/
def Obligations.ReleaseIsTheHolders : Prop :=
  ∀ (s u : State) (p : PortId) (id : Nat) (f : RxFrame) (rest : List RxFrame),
    Passes s p id f rest → byteAt f.body 0 = kindRelease → u = takeFrame p id f rest s →
    (∀ c, claimOf s (recordOf f) = some c → c.holder = p →
      exec (.release p) s = .next (settle (answer id (.released (recordOf f))
        { u with claims := s.claims.filter (fun x => x.1 != recordOf f) }))) ∧
    ((∀ c, claimOf s (recordOf f) = some c → c.holder ≠ p) →
      exec (.release p) s = .next (settle (answer id (.nak kindRelease .notHeld) u)))

/-- CLAIM_CLOCK_TICK: every lease falls by one; the claims whose lease so reaches 0 are removed at that tick and
CLAIM_EXPIRED goes to their holders in ascending order of record (section 5.1). LEASE_EXPIRY is the tick at which the
lease of its record's claim reaches 0, and does not take place where that lease does not (log 7). Nothing but claims and
transmit queues changes. -/
def Obligations.TickLowersEveryLease : Prop :=
  (∀ s : State, s.resetHold = none → KeysRise s.claims →
    ∃ t, exec .claimClockTick s = .next t ∧
      (∀ r, claimOf t r = (claimOf s r).bind (fun c => if c.lease ≤ 1 then none else some ⟨c.holder, c.lease - 1⟩)) ∧
      KeysRise t.claims ∧ t = { s with claims := t.claims, ports := t.ports } ∧
      (∀ q, portOf t q = ((s.claims.filter (fun c => c.2.holder == q && c.2.lease ≤ 1)).foldl
        (fun x c => if x.session = .session then offerNotice (.claimExpired c.1) x else x) (portOf s q)))) ∧
  (∀ (s : State) (r : Nat) (c : Claim), s.resetHold = none → KeysRise s.claims → claimOf s r = some c → c.lease ≤ 1 →
    ∃ t, exec (.leaseExpiry r) s = .next t ∧ exec .claimClockTick s = .next t ∧ claimOf t r = none) ∧
  (∀ (s : State) (r : Nat), (∀ c, claimOf s r = some c → 1 < c.lease) → exec (.leaseExpiry r) s = .next s)

/-- WATCH by the steps of section 6.2: WATCHING for a pair already held, even in a full table; NAK(WATCH_FULL) with 64
entries; otherwise the pair is added. UNWATCH removes the port's own entry for the record, if there is one, and is
answered UNWATCHED in either case. -/
def Obligations.WatchAndUnwatch : Prop :=
  ∀ (s u : State) (p : PortId) (id : Nat) (f : RxFrame) (rest : List RxFrame),
    Passes s p id f rest → u = takeFrame p id f rest s →
    (byteAt f.body 0 = kindWatch → ⟨recordOf f, p⟩ ∈ s.watches →
      exec (.watch p) s = .next (settle (answer id (.watching (recordOf f)) u))) ∧
    (byteAt f.body 0 = kindWatch → (⟨recordOf f, p⟩ : Watch) ∉ s.watches → 64 ≤ s.watches.length →
      exec (.watch p) s = .next (settle (answer id (.nak kindWatch .watchFull) u))) ∧
    (byteAt f.body 0 = kindWatch → (⟨recordOf f, p⟩ : Watch) ∉ s.watches → s.watches.length < 64 →
      exec (.watch p) s = .next (settle (answer id (.watching (recordOf f))
        { u with watches := s.watches ++ [⟨recordOf f, p⟩] }))) ∧
    (byteAt f.body 0 = kindUnwatch →
      exec (.unwatch p) s = .next (settle (answer id (.unwatched (recordOf f))
        { u with watches := s.watches.filter (fun w => w != ⟨recordOf f, p⟩) })))

/-! ### Sessions -/

/-- OPEN: in LINK_UP the port's other entries leave their session; in SESSION the old session is torn down, the OPEN's
entry kept; then the port is in SESSION at the next epoch with NOTICE_GAP clear, and OPENED carries that epoch and the
part state. CLOSE: CLOSED with the epoch of the session is formed first, then the session is torn down and the port is
in LINK_UP (section 7.2). -/
def Obligations.OpenAndClose : Prop :=
  (∀ (s u : State) (p : PortId) (id : Nat) (f : RxFrame) (rest : List RxFrame),
     Passes s p id f rest → byteAt f.body 0 = kindOpen → u = takeFrame p id f rest s →
     ((portOf s p).session ≠ .session →
       exec (.openSession p) s = .next (settle (answer id (.opened (nextEpoch (portOf s p).epoch) s.partState)
         (updPort p (fun x => { x with session := .session, epoch := nextEpoch x.epoch, noticeGap := false })
           { u with table := u.table.map (fun e =>
               if e.port = p ∧ e.current = true ∧ e.id ≠ id then { e with current := false } else e) })))) ∧
     ((portOf s p).session = .session →
       exec (.openSession p) s = .next (settle (answer id (.opened (nextEpoch (portOf s p).epoch) s.partState)
         (updPort p (fun x => { x with session := .session, epoch := nextEpoch x.epoch, noticeGap := false })
           (teardown p (some id) u)))))) ∧
  (∀ (s : State) (p : PortId) (id : Nat) (f : RxFrame) (rest : List RxFrame),
     Passes s p id f rest → byteAt f.body 0 = kindClose →
     exec (.closeSession p) s = .next (settle (updPort p (fun x => { x with session := .linkUp })
       (teardown p none (answer id (.closed (portOf s p).epoch) (takeFrame p id f rest s))))))

/-- The teardown of a port's session: its buffered frames and its FLUSH record go, each current entry but the one kept
is handled by its state and leaves the waiting lists, its claims, watches and marks are removed; the queue's entries keep
all else, and no other port, nor its entries and waiters, changes (section 7.3). -/
def Obligations.TeardownEndsWhatTheSessionHeld : Prop :=
  ∀ (s t : State) (p : PortId) (keep : Option Nat),
    t = teardown p keep s →
    portOf t p = { portOf s p with rxBuffer := [], flush := none } ∧ (∀ q, q ≠ p → portOf t q = portOf s q) ∧
    (∀ e ∈ s.table, e.port ≠ p ∨ e.current = false ∨ keep = some e.id → e ∈ t.table) ∧
    (∀ e ∈ s.table, e.port = p → e.current = true → keep ≠ some e.id →
      (e.state = .dispatched → { e with current := false } ∈ t.table) ∧
      (e.state = .fetching → { e with current := false, state := .orphan } ∈ t.table) ∧
      (e.state = .waitFetch ∨ e.state = .waitSpace ∨ e.state = .waitFlush → e ∉ t.table ∧
        e.id ∉ t.fetchWait ∧ e.id ∉ t.spaceWait)) ∧
    (∀ e ∈ t.table, e.port = p → e.current = true → keep = some e.id) ∧
    (∀ e ∈ t.table, e.port ≠ p → e ∈ s.table) ∧
    t.claims = s.claims.filter (fun c => c.2.holder != p) ∧ t.watches = s.watches.filter (fun w => w.port != p) ∧
    t.queue = s.queue.map (fun e => { e with marks := dropPort e.marks p }) ∧
    t.fetchWait = s.fetchWait.filter (fun id =>
      !s.table.any (fun e => e.id == id && e.port == p && e.current && keep != some e.id)) ∧
    t.spaceWait = s.spaceWait.filter (fun id =>
      !s.table.any (fun e => e.id == id && e.port == p && e.current && keep != some e.id)) ∧
    t.starvation = (if t.fetchWait = [] then 0 else s.starvation) ∧
    t = { s with
      ports      := t.ports
      table      := t.table
      fetchWait  := t.fetchWait
      starvation := t.starvation
      spaceWait  := t.spaceWait
      queue      := t.queue
      claims     := t.claims
      watches    := t.watches }

/-- STATUS: STATUS_INFO with the fields as they stand, and FRAME_ERR is cleared after it is read; nothing else changes
(section 7.4). -/
def Obligations.StatusReportsAndClearsFrameErr : Prop :=
  ∀ (s : State) (p : PortId) (id : Nat) (f : RxFrame) (rest : List RxFrame),
    Passes s p id f rest → byteAt f.body 0 = kindStatus →
    exec (.status p) s = .next (settle (updPort p (fun x => { x with frameErr := false })
      (answer id (.statusInfo
        { partState   := s.partState
          cause       := s.resetCause
          verdict     := s.verdict
          markerFault := s.markerFault
          occupancy   := s.queue.length
          mode        := s.mode
          freeSpares  := ((List.range 32).filter (fun n => spareOf s n == .free)).length
          corrupt     := ((List.range 1024).filter (fun r => (rowOf s r).state == .corrupt)).length
          faulted     := ((List.range 1024).filter (fun r => (rowOf s r).state == .faulted)).length
          claims      := s.claims.length
          watches     := s.watches.length
          epoch       := (portOf s p).epoch
          session     := (portOf s p).session
          frameErr    := (portOf s p).frameErr
          overrun     := (portOf s p).overrun
          noticeGap   := (portOf s p).noticeGap }) (takeFrame p id f rest s))))

/-- RESYNC: it needs no session, passes check 4 in every part state and is not compared by check 3, but meets the body
length check; it is answered RESYNCED(SOME) if the OVERRUN value it carried was set and RESYNCED(NONE) if it was clear,
through the placement of every response, and changes nothing else; the request that it was is taken out of the buffer,
and what the controller has to start it starts. -/
def Obligations.ResyncTellsOfOverrun : Prop :=
  (∀ (s : State) (p : PortId) (id : Nat) (f : RxFrame), byteAt f.body 0 = kindResync →
    dispatchCheck s p id f = if f.body.length = 3 then none else some .badArg) ∧
  (∀ (s : State) (p : PortId) (id : Nat) (f : RxFrame) (rest : List RxFrame),
    s.resetHold = none → (portOf s p).rxBuffer = f :: rest → freeReserved s p = some id →
    byteAt f.body 0 = kindResync → f.body.length = 3 →
    exec (.resync p) s = .next (settle (answer id (.resynced f.overrun) (takeFrame p id f rest s))))

/-- The epoch of a port is 0 after any reset; an OPEN taken on it, from a reserved entry or by POOL_GRANT, gives the
successor, 1 after 255, so the first gives 1; a command that takes no OPEN of the port leaves it. The OPENED placed for
that OPEN, or held by its entry, carries the new epoch, and the STATUS_INFO of a STATUS the epoch as it stands; for these
the request table is one that a run can hold. -/
def Obligations.EpochCountsOpens : Prop :=
  (∀ p, (portOf State.reset p).epoch = 0) ∧
  (∀ (s t : State) (straps : Straps) (pfw : Level), s.resetHold ≠ none → exec (.endOfReset straps pfw) s = .next t →
    ∀ p, (portOf t p).epoch = 0) ∧
  (∀ e : Byte, nextEpoch e = if e = 255 then 1 else e + 1) ∧ (∀ e : Byte, nextEpoch e ≠ 0) ∧
  (∀ (s t : State) (p : PortId) (id : Nat) (f : RxFrame) (rest : List RxFrame),
    Passes s p id f rest → byteAt f.body 0 = kindOpen → exec (.openSession p) s = .next t →
    (portOf t p).epoch = nextEpoch (portOf s p).epoch ∧
      (ListsGood s →
        Answered s t p id ⟨byteAt f.body 1, .opened (nextEpoch (portOf s p).epoch) s.partState⟩)) ∧
  (∀ (s t : State) (p : PortId) (id : Nat) (f : RxFrame) (rest : List RxFrame),
    s.resetHold = none → freePooled s = some id → (roundRobin s.lastGranted).find? (headWaits s) = some p →
    (portOf s p).rxBuffer = f :: rest → byteAt f.body 0 = kindOpen →
    dispatchCheck (takeFrame p id f rest { s with lastGranted := p }) p id f = none → exec .poolGrant s = .next t →
    (portOf t p).epoch = nextEpoch (portOf s p).epoch ∧
      (ListsGood s →
        Answered s t p id ⟨byteAt f.body 1, .opened (nextEpoch (portOf s p).epoch) s.partState⟩)) ∧
  (∀ (c : Instr) (s t : State) (p : PortId), exec c s = .next t → isReset c = false →
    (portOf t p).epoch = (portOf s p).epoch ∨
      (c = .openSession p ∨ c = .poolGrant) ∧
        (∃ f rest, (portOf s p).rxBuffer = f :: rest ∧ byteAt f.body 0 = kindOpen) ∧
        (portOf t p).epoch = nextEpoch (portOf s p).epoch) ∧
  (∀ (s t : State) (p : PortId) (id : Nat) (f : RxFrame) (rest : List RxFrame),
    Passes s p id f rest → byteAt f.body 0 = kindStatus → ListsGood s → exec (.status p) s = .next t →
    ∃ info : StatusInfo, info.epoch = (portOf s p).epoch ∧
      Answered s t p id ⟨byteAt f.body 1, .statusInfo info⟩) ∧
  (∀ (s : State) (p : PortId), (statusInfoOf s p).epoch = (portOf s p).epoch)

/-- FRAME_ERR is set by a frame failure on the port alone, and cleared by a STATUS on the port, taken from a reserved
entry or by POOL_GRANT, or by a reset alone (section 8.5). -/
def Obligations.FrameErrIsSetAndCleared : Prop :=
  ∀ (c : Instr) (s t : State) (p : PortId), exec c s = .next t → isReset c = false →
    ((portOf s p).frameErr = true → (portOf t p).frameErr = false →
      (c = .status p ∨ c = .poolGrant) ∧
        ∃ f rest, (portOf s p).rxBuffer = f :: rest ∧ byteAt f.body 0 = kindStatus) ∧
    ((portOf s p).frameErr = false → (portOf t p).frameErr = true →
      (∃ f, c = .frameError p f) ∨ c = .interByteGapTimeout p ∨ c = .deselection p ∨
        ∃ b moment order, c = .byteReceived p b moment order)

/-! ### The array controller -/

/-- FETCH_COMPLETION: the check is applied to the directory first, a bad one setting the row CORRUPT at its location;
then the READ is answered from the newest queue entry if there is one, and otherwise DATA from the slot or NAK(CORRUPT);
an ORPHAN is freed without an answer (sections 1.3, 1.6 and 3.2). The bytes fetched are the command's operand (log 5). -/
def Obligations.FetchCompletionAnswersTheRead : Prop :=
  ∀ (s u : State) (id slot r : Nat) (e : Entry) (got : Cells) (image : List Byte) (good : Bool),
    s.resetHold = none → s.op = some (.fetch id slot) → entryOf s id = some e → r = e.args.record →
    image = cellsRead s slot got →
    good = (imageGood (roleOf r (rowOf s r).location) image && byteAt image 0 == 0x3C &&
      (halfAt image 1).toNat == r && halfAt image 3 == (rowOf s r).version &&
      (byteAt image 5).toNat == (rowOf s r).length) →
    u = (if good then { s with op := none }
      else setRow r ⟨.corrupt, 0, 0, (rowOf s r).location⟩ { s with op := none }) →
    (e.state = .orphan →
      exec (.fetchCompletion got) s = .next (settle { u with table := s.table.filter (fun d => d.id != id) })) ∧
    (∀ q payload, e.state ≠ .orphan → newestEntry s r = some q → q.change = .write payload →
      exec (.fetchCompletion got) s = .next (settle (answer id (.data r q.version payload) u))) ∧
    (∀ q, e.state ≠ .orphan → newestEntry s r = some q → q.change = .erase →
      exec (.fetchCompletion got) s = .next (settle (answer id (.nak kindRead (.empty q.version)) u))) ∧
    (e.state ≠ .orphan → newestEntry s r = none → good = true →
      exec (.fetchCompletion got) s =
        .next (settle (answer id (.data r (rowOf s r).version ((image.drop 6).take (rowOf s r).length)) u))) ∧
    (e.state ≠ .orphan → newestEntry s r = none → good = false →
      exec (.fetchCompletion got) s = .next (settle (answer id (.nak kindRead .corrupt) u)))

/-- PROGRAM_COMPLETION with every byte read back as written, whether the operand says so or spells the image out: the
slot is programmed with the entry's image, the row takes
kind, version, length and target, a spare that served the record before is retired, the entry leaves the queue, the
marks on it leave, the mode turns back to FETCH_FIRST at an occupancy of 8, and a retry pass follows (sections 2.5, 3.3 and
3.4). Afterwards the slot reads as the image, the row holds the change, and every other row and every other slot's bytes
are as they were (sections 1.3 and 1.6; that the cells change as the program completes is log 6). -/
def Obligations.ProgramSuccessCommitsTheEntry : Prop :=
  (∀ (s w : State) (slot : Nat) (e : QueueEntry) (old target : Location) (got : Cells),
     s.resetHold = none → s.op = some (.program slot) → inProgramming s = some e →
     got = .expected ∨ got = .other (entryImage e) →
     old = (rowOf s e.record).location → target = e.target.getD old →
     w = { writeSlot slot (entryImage e) { s with op := none } with
       directory := keyedSet (fun _ => Row.reset) e.record
         (match e.change with
           | .write payload => ⟨.valid, e.version, payload.length, target⟩
           | .erase => ⟨.empty, e.version, 0, target⟩) s.directory
       spares := (match old with
         | .primary => s.spares
         | .spare m => if target = old then s.spares else keyedErase m s.spares)
       queue := s.queue.filter (fun x => !(x.record == e.record && x.phase == .programming)) } →
     exec (.programCompletion got) s =
       .next (settle (retryPass (forPorts (fun p x => dropMarks p (if inPorts e.marks p then 1 else 0) false x)
         (modeAfterRemoval w))))) ∧
  (∀ (s t : State) (slot : Nat) (e : QueueEntry) (got : Cells),
     s.resetHold = none → s.op = some (.program slot) → inProgramming s = some e → changeGood e.change = true →
     got = .expected ∨ got = .other (entryImage e) → exec (.programCompletion got) s = .next t →
     readSlot t slot = entryImage e ∧
     rowOf t e.record = (match e.change with
       | .write payload => ⟨.valid, e.version, payload.length, e.target.getD (rowOf s e.record).location⟩
       | .erase => ⟨.empty, e.version, 0, e.target.getD (rowOf s e.record).location⟩) ∧
     (∀ r, r ≠ e.record → rowOf t r = rowOf s r) ∧
     (∀ a, a < 56 * slot ∨ 56 * slot + 56 ≤ a → readCell t a = readCell s a)) ∧
  (∀ s : State, modeAfterRemoval s =
    if s.partState = .run ∧ s.mode = .drainFirst ∧ s.queue.length ≤ 8 then { s with mode := .fetchFirst } else s)

/-- PROGRAM_COMPLETION with other bytes read back on attempt 1 or 2: the attempts rise by one, the target is kept, and
the same program is started again; a marker program that is requested starts first, and the retry follows it
(section 3.4). The slot is left with the bytes read back, which is the model's choice (log 5); nothing else changes. -/
def Obligations.FailedProgramIsRetried : Prop :=
  (∀ (s : State) (slot : Nat) (e : QueueEntry) (bytes : List Byte),
    s.resetHold = none → QueueGood s → s.op = some (.program slot) → inProgramming s = some e →
    e.target.map (slotOf e.record) = some slot → e.attempts = 1 ∨ e.attempts = 2 → bytes ≠ entryImage e →
    (s.markerRequest = none → exec (.programCompletion (.other bytes)) s = .next
      { writeSlot slot bytes s with
        queue := s.queue.map (fun x => if x.phase = .programming then { e with attempts := e.attempts + 1 } else x) }) ∧
    (∀ v, s.markerRequest = some v → exec (.programCompletion (.other bytes)) s = .next
      { writeSlot slot bytes s with
        queue := s.queue.map (fun x => if x.phase = .programming then { e with attempts := e.attempts + 1 } else x)
        markerRequest := none
        op := some (.markerProgram v) })) ∧
  (∀ (s : State) (e : QueueEntry) (target : Location),
    s.op = none → s.markerRequest = none → inProgramming s = some e → e.target = some target →
    chooseIfIdle s = { s with op := some (.program (slotOf e.record target)) })

/-- PROGRAM_COMPLETION with other bytes read back on the third attempt and a FREE spare: the lowest-numbered becomes
IN_USE for the record and the entry's target, with attempts 1; a failed target that was a newly reserved spare is
retired; the row is as it was; the program of the new spare starts, or first a marker program that is requested
(section 3.4). The failed slot is left with the bytes read back, which is the model's choice (log 5); nothing else
changes. -/
def Obligations.ThirdFailureRemaps : Prop :=
  ∀ (s t : State) (slot n : Nat) (e : QueueEntry) (target : Location) (bytes : List Byte),
    s.resetHold = none → QueueGood s → s.op = some (.program slot) → inProgramming s = some e →
    e.target = some target → e.attempts = 3 → bytes ≠ entryImage e →
    n < 32 → spareOf s n = .free → (∀ m, m < n → spareOf s m ≠ .free) →
    target = (rowOf s e.record).location ∨ target ≠ .spare n →
    exec (.programCompletion (.other bytes)) s = .next t →
    spareOf t n = .inUse e.record ∧
    (∀ m, m ≠ n → spareOf t m =
      if target = .spare m ∧ target ≠ (rowOf s e.record).location then .retired else spareOf s m) ∧
    t.op = some (match s.markerRequest with
      | some v => .markerProgram v
      | none => .program (1024 + n)) ∧
    t.queue = s.queue.map (fun x =>
      if x.phase = .programming then { e with attempts := 1, target := some (.spare n) } else x) ∧
    t = { writeSlot slot bytes s with spares := t.spares, op := t.op, queue := t.queue, markerRequest := none }

/-- PROGRAM_COMPLETION with other bytes read back on the third attempt and no FREE spare: the record is given up; its
entries leave the queue together, its row becomes FAULTED at its visible version, a newly reserved target is retired,
FAULT is offered once to each port in SESSION that watches the record or is among the origins, then the marks leave with
the fault noted, then a retry pass follows (sections 1.3, 2.5, 3.4 and 6.3). The slot is left with the bytes read back,
which is the model's choice (log 5). -/
def Obligations.ThirdFailureWithoutASpareFaults : Prop :=
  (∀ (s w : State) (slot : Nat) (e : QueueEntry) (target : Location) (bytes : List Byte),
    s.resetHold = none → s.op = some (.program slot) → inProgramming s = some e → e.target = some target →
    e.attempts = 3 → bytes ≠ entryImage e → (∀ m, m < 32 → spareOf s m ≠ .free) →
    w = { writeSlot slot bytes { s with op := none } with
      directory := keyedSet (fun _ => Row.reset) e.record
        ⟨.faulted, visibleVersion s e.record, 0, (rowOf s e.record).location⟩ s.directory
      spares := (match target with
        | .primary => s.spares
        | .spare m => if target = (rowOf s e.record).location then s.spares else keyedErase m s.spares)
      queue := s.queue.filter (fun x => x.record != e.record) } →
    exec (.programCompletion (.other bytes)) s =
      .next (settle (retryPass (dropAllMarks (e :: (pendingEntry s e.record).toList) true
        (reportFault e.record (visibleVersion s e.record)
          (((pendingEntry s e.record).toList).foldl (fun o x => joinPorts o x.origins) (joinPorts noPorts e.origins))
          (modeAfterRemoval w)))))) ∧
  (∀ (s t : State) (r : Nat) (v : Half) (origins : PortSet), t = reportFault r v origins s →
    t = { s with ports := t.ports } ∧ ∀ q, portOf t q =
      if ((⟨r, q⟩ : Watch) ∈ s.watches ∨ inPorts origins q = true) ∧ (portOf s q).session = .session then
        offerNotice (.fault r v) (portOf s q)
      else portOf s q)

/-- MARKER_PROGRAM_COMPLETION: the marker slot holds the bytes read back, after a failure too by the model's choice (log
5), and the outcome, the attempt and the PFW level
decide what follows: the next attempt, the next part state with POWER to the ports in SESSION where it is RUN, HOLDUP or
PARKED, and MARKER_FAULT where a sequence ends on its third failure (sections 9.5 to 9.8). -/
def Obligations.MarkerOutcomeMovesThePart : Prop :=
  ∀ (s : State) (v : MarkerValue) (n : Nat) (got : Cells) (ok : Bool),
    s.resetHold = none → ControllerGood s → s.op = some (.markerProgram v) → s.markerSeq = some (v, n) →
    ok = verifyOk (markerImage v) got →
    ∃ t, exec (.markerProgramCompletion got) s = .next t ∧
      t.cells = (writeSlot 1056 (cellsLeft (markerImage v) got) s).cells ∧
      (v = .dirty → s.pfwAsserted = true →
        t.partState = .holdup ∧ t.mode = .drainOnly ∧ t.markerSeq = some (.clean, 1) ∧
        t.op = some (.markerProgram .clean) ∧ t.markerFault = s.markerFault) ∧
      (v = .dirty → s.pfwAsserted = false → ok = true →
        t.partState = .run ∧ t.mode = .fetchFirst ∧ t.markerSeq = none ∧ t.op = none ∧
        t.markerFault = s.markerFault) ∧
      (v = .dirty → s.pfwAsserted = false → ok = false → n = 3 →
        t.partState = .run ∧ t.mode = .fetchFirst ∧ t.markerSeq = none ∧ t.op = none ∧ t.markerFault = true) ∧
      (v = .clean → s.pfwAsserted = true → ok = true →
        t.partState = .parked ∧ t.mode = .drainOnly ∧ t.markerSeq = none ∧ t.op = none ∧
        t.markerFault = s.markerFault) ∧
      (v = .clean → s.pfwAsserted = true → ok = false → n = 3 →
        t.partState = .parked ∧ t.mode = .drainOnly ∧ t.markerSeq = none ∧ t.op = none ∧ t.markerFault = true) ∧
      ((v = .dirty ↔ s.pfwAsserted = false) → ok = false → n < 3 →
        t.partState = s.partState ∧ t.mode = s.mode ∧ t.markerSeq = some (v, n + 1) ∧
        t.op = some (.markerProgram v) ∧ t.markerFault = s.markerFault) ∧
      (v = .clean → s.pfwAsserted = false →
        t.partState = .resuming ∧ t.mode = .drainOnly ∧ t.markerSeq = some (.dirty, 1) ∧
        t.op = some (.markerProgram .dirty) ∧ t.markerFault = s.markerFault) ∧
      (∀ p, portOf t p =
        if t.partState ≠ s.partState ∧ t.partState ≠ .resuming ∧ (portOf s p).session = .session then
          offerNotice (.power t.partState) (portOf s p)
        else portOf s p) ∧
      t.queue = [] ∧ t.table = s.table ∧ t.directory = s.directory ∧ t.claims = s.claims ∧ t.watches = s.watches

/-- MARKER_FAULT is set when a DIRTY or CLEAN sequence ends on VERIFY_FAIL at its third attempt, never by a sequence
that the level of PFW ends first, and is cleared at reset alone; STATUS reports it. -/
def Obligations.MarkerFaultIsSetAndKept : Prop :=
  (∀ (c : Instr) (s t : State), s.resetHold = none → ControllerGood s → isReset c = false → exec c s = .next t →
    (t.markerFault = true ↔ s.markerFault = true ∨
      ∃ v got, c = .markerProgramCompletion got ∧ s.op = some (.markerProgram v) ∧ s.markerSeq = some (v, 3) ∧
        verifyOk (markerImage v) got = false ∧ (v = .dirty ↔ s.pfwAsserted = false))) ∧
  (∀ (s t : State) (straps : Straps) (pfw : Level), s.resetHold ≠ none → exec (.endOfReset straps pfw) s = .next t →
    t.markerFault = false) ∧
  (∀ (s : State) (p : PortId), (statusInfoOf s p).markerFault = s.markerFault)

/-- SCAN_FETCH_COMPLETION while the order stands: the marker slot sets the verdict; primary n sets row n; spare n sets
its pool state and, with a good image of a record, that record's row, with every FREE spare below it and the spare that
held the record so far retired; after S31 the directory is built, the order withdrawn and the DIRTY sequence begun;
otherwise the next slot in scan order is fetched. After the order is withdrawn the outcome is discarded
(sections 3.3, 9.4 and 9.5). The bytes fetched are the command's operand (log 5). -/
def Obligations.ScanReconcilesEachSlot : Prop :=
  ∀ (s : State) (slot : Nat) (got : Cells) (image : List Byte),
    s.resetHold = none → ControllerGood s → KeysRise s.spares → image = cellsRead s slot got →
    (s.op = some (.scanFetch slot false) →
      ∃ t, exec (.scanFetchCompletion got) s = .next t ∧
        (slot ≠ 1055 → t.op = some (.scanFetch (scanSlot s.scanNext) false) ∧ t.built = false) ∧
        (slot = 1055 → t.op = some (.markerProgram .dirty) ∧ t.markerSeq = some (.dirty, 1) ∧ t.built = true ∧
          t.scanOrder = false ∧ t.partState = .startup) ∧
        (slot = 1056 → t.verdict = imageVerdict image ∧ t.directory = s.directory ∧ t.spares = s.spares) ∧
        (slot < 1024 → scanGood (.primary slot) image = true → rowOf t slot = rowOfImage image .primary) ∧
        (slot < 1024 → scanGood (.primary slot) image = false → rowOf t slot = ⟨.corrupt, 0, 0, .primary⟩) ∧
        (slot < 1024 → t.spares = s.spares ∧ ∀ r, r ≠ slot → rowOf t r = rowOf s r) ∧
        (∀ n, slot = 1024 + n → n < 32 →
          (scanGood .spare image = false → spareOf t n = .retired ∧ t.directory = s.directory ∧
            ∀ m, m ≠ n → spareOf t m = spareOf s m) ∧
          (scanGood .spare image = true → byteAt image 0 = 0xA5 → spareOf t n = .free ∧ t.directory = s.directory ∧
            ∀ m, m ≠ n → spareOf t m = spareOf s m) ∧
          (∀ r, scanGood .spare image = true → byteAt image 0 ≠ 0xA5 → r = (halfAt image 1).toNat →
            spareOf t n = .inUse r ∧ rowOf t r = rowOfImage image (.spare n) ∧ (∀ q, q ≠ r → rowOf t q = rowOf s q) ∧
            ∀ m, m ≠ n → spareOf t m =
              if m < n ∧ (spareOf s m = .free ∨ spareOf s m = .inUse r) then .retired else spareOf s m))) ∧
    (s.op = some (.scanFetch slot true) →
      ∃ t, exec (.scanFetchCompletion got) s = .next t ∧ t.directory = s.directory ∧ t.spares = s.spares ∧
        t.verdict = s.verdict ∧ t.built = false ∧ t.op = if s.scanOrder then some (.scanFetch 1056 false) else none)

/-- The choice of an idle controller: a requested marker program; then the program of the entry in PROGRAMMING; then
the choice of the mode: FETCH_FIRST the oldest READ before the oldest PENDING entry, DRAIN_FIRST the other way but at a
starvation count of 4 with a READ waiting, DRAIN_ONLY programs alone, SCAN the next scan fetch while the order stands
(section 3.3). A READ that its turn finds in need of no fetch is answered, and the choice is made again (section
3.2). The choice is made of an idle controller alone; in HOLDUP with the queue empty and the array idle the CLEAN sequence
then begins (section 9.6; that both fall within the command that makes them due is log 22). -/
def Obligations.IdleControllerChooses : Prop :=
  (∀ (s : State), s.op = none →
    (∀ v, s.markerRequest = some v → chooseIfIdle s = { s with markerRequest := none, op := some (.markerProgram v) }) ∧
    (∀ e l, s.markerRequest = none → inProgramming s = some e → e.target = some l →
      chooseIfIdle s = { s with op := some (.program (slotOf e.record l)) }) ∧
    (s.markerRequest = none → inProgramming s = none →
      (∀ id rest e, s.fetchWait = id :: rest → entryOf s id = some e → readOutcome s e.args.record = none →
        (s.mode = .fetchFirst ∨ s.mode = .drainFirst ∧ (s.starvation = 4 ∨ oldestPending s = none)) →
        chooseIfIdle s = updEntry id (fun x => { x with state := .fetching })
          { s with
            fetchWait  := rest
            starvation := 0
            op         := some (.fetch e.id (slotOf e.args.record (rowOf s e.args.record).location)) }) ∧
      (∀ id rest e a, s.fetchWait = id :: rest → entryOf s id = some e → readOutcome s e.args.record = some a →
        (s.mode = .fetchFirst ∨ s.mode = .drainFirst ∧ (s.starvation = 4 ∨ oldestPending s = none)) →
        chooseIfIdle s = chooseIfIdle (answer id a
          { s with fetchWait := rest, starvation := if rest = [] then 0 else s.starvation })) ∧
      (∀ e, oldestPending s = some e →
        (s.mode = .fetchFirst ∧ s.fetchWait = [] ∨ s.mode = .drainOnly ∨
          s.mode = .drainFirst ∧ (s.fetchWait = [] ∨ s.starvation < 4)) →
        chooseIfIdle s = { s with
          queue := startFirst (fun x => (rowOf s x.record).location) s.queue
          op := some (.program (slotOf e.record (rowOf s e.record).location))
          starvation := if s.mode = .drainFirst ∧ s.fetchWait ≠ [] then s.starvation + 1 else s.starvation }) ∧
      (oldestPending s = none → s.fetchWait = [] ∨ s.mode = .drainOnly → s.mode ≠ .scan → chooseIfIdle s = s) ∧
      (s.mode = .scan → s.scanOrder = true → s.scanNext < 1057 →
        chooseIfIdle s =
          { s with op := some (.scanFetch (scanSlot s.scanNext) false), scanNext := s.scanNext + 1 }) ∧
      (s.mode = .scan → s.scanOrder = false → chooseIfIdle s = s))) ∧
  (∀ s : State, s.op ≠ none → chooseIfIdle s = s) ∧
  (∀ s u : State, u = chooseIfIdle s →
    (u.partState = .holdup → u.queue = [] → u.op = none → u.markerSeq = none →
      settle s = chooseIfIdle { u with markerSeq := some (.clean, 1), markerRequest := some .clean }) ∧
    (u.partState ≠ .holdup ∨ u.queue ≠ [] ∨ u.op ≠ none ∨ u.markerSeq ≠ none → settle s = u))

/-! ### The power manager -/

/-- PFW_ASSERTION: from RUN the part enters HOLDUP in DRAIN_ONLY with both waiting lists empty and the queue, the claims
and the watches kept, and begins the CLEAN sequence at once where nothing is to be drained; in STARTUP with the scan
order standing it enters PARKED, the order withdrawn and the scan fetch in flight to be discarded; elsewhere the
recognised level alone changes. Ports in SESSION are told of HOLDUP and PARKED (sections 9.5 and 9.6). -/
def Obligations.PfwAssertionHoldsUp : Prop :=
  ∀ s : State, s.resetHold = none → ControllerGood s →
    ∃ t, exec .pfwAssertion s = .next t ∧ t.pfwAsserted = true ∧
      (s.partState = .run →
        t.partState = .holdup ∧ t.mode = .drainOnly ∧ t.spaceWait = [] ∧ t.fetchWait = [] ∧ t.starvation = 0 ∧
        t.queue = s.queue ∧ t.claims = s.claims ∧ t.watches = s.watches ∧ t.directory = s.directory ∧
        t.cells = s.cells ∧
        (s.op = none → t.markerSeq = some (.clean, 1) ∧ t.op = some (.markerProgram .clean)) ∧
        (s.op ≠ none → t.markerSeq = none ∧ t.op = s.op) ∧
        ∀ p, (portOf s p).session = .session → noticeCount (portOf s p).tx < 4 →
          .notice (.power .holdup) (portOf s p).noticeGap ∈ (portOf t p).tx) ∧
      (s.partState = .startup → s.scanOrder = true →
        t.partState = .parked ∧ t.scanOrder = false ∧ t.built = false ∧
        (∃ slot, t.op = some (.scanFetch slot true)) ∧
        t = { s with partState := .parked, scanOrder := false, op := t.op, ports := t.ports, pfwAsserted := true } ∧
        ∀ p, portOf t p =
          if (portOf s p).session = .session then offerNotice (.power .parked) (portOf s p) else portOf s p) ∧
      (s.partState ≠ .run → ¬(s.partState = .startup ∧ s.scanOrder = true) → t = { s with pfwAsserted := true })

/-- In HOLDUP entered from RUN every change that waited for space and every READ that waited for a fetch is answered
NAK(HOLDUP) (sections 2.8, 3.2 and 9.6): its entry is freed, or holds that answer. -/
def Obligations.HoldupRefusesTheWaiting : Prop :=
  ∀ (s t : State) (id : Nat) (e : Entry),
    s.resetHold = none → s.partState = .run → ListsGood s → id ∈ s.spaceWait ++ s.fetchWait →
    entryOf s id = some e → exec .pfwAssertion s = .next t →
    (entryOf t id = none ∧ .response ⟨e.tag, .nak e.kind .holdup⟩ ∈ (portOf t e.port).tx) ∨
    ∃ d, entryOf t id = some d ∧ d.response = some ⟨e.tag, .nak e.kind .holdup⟩ ∧ id ∈ (portOf t e.port).held

/-- PFW_DEASSERTION: from HOLDUP before the CLEAN sequence the part returns to RUN, in DRAIN_FIRST at 8 entries or more
and FETCH_FIRST below, what is left of the queue kept; from PARKED it enters RESUMING with the DIRTY sequence where the
directory is built, and otherwise STARTUP with the directory, the spare pool and the verdict at their reset values and
the scan ordered afresh; elsewhere the recognised level alone changes (sections 9.5 to 9.7). -/
def Obligations.PfwDeassertionResumes : Prop :=
  ∀ s : State, s.resetHold = none → ControllerGood s →
    ∃ t, exec .pfwDeassertion s = .next t ∧ t.pfwAsserted = false ∧
      (s.partState = .holdup → s.markerSeq = none →
        t = { s with
          partState   := .run
          mode        := if 8 ≤ s.queue.length then .drainFirst else .fetchFirst
          ports       := t.ports
          pfwAsserted := false } ∧
        ∀ p, portOf t p =
          if (portOf s p).session = .session then offerNotice (.power .run) (portOf s p) else portOf s p) ∧
      (s.partState = .parked → s.built = true →
        t = { s with
          partState := .resuming, markerSeq := some (.dirty, 1), op := some (.markerProgram .dirty),
          pfwAsserted := false }) ∧
      (s.partState = .parked → s.built = false →
        t.partState = .startup ∧ t.scanOrder = true ∧ t.verdict = .unknown ∧ t.directory = [] ∧ t.spares = [] ∧
        t.built = false ∧ t.ports = s.ports ∧
        t.op = if s.op = none then some (.scanFetch 1056 false) else s.op) ∧
      (s.partState = .startup ∨ s.partState = .run ∨ s.partState = .resuming ∨
          s.partState = .holdup ∧ s.markerSeq ≠ none →
        t = { s with pfwAsserted := false })

/-- RESET: the part is held in reset; queue, waiting lists, request table, claims, watches, directory, spare pool,
controller and every port (link, receiver, session, buffer, queue and flags) are at their reset values, without an answer
or a notice, the link modes kept until the straps are sampled; the array keeps its slots, the slot of a torn program or
marker program apart, which holds what the reset left there (sections 2.9, 3.1, 7.1, 8.1 and 9.2; that all is cleared as
the reset begins is log 14, the torn bytes log 5, and that a program has not reached the cells before it ends log 6). -/
def Obligations.ResetClearsTheRam : Prop :=
  ∀ (s : State) (cause : ResetEvent) (torn : Torn), s.resetHold = none →
    ∃ t, exec (.reset cause torn) s = .next t ∧ t.resetHold ≠ none ∧
      t.queue = [] ∧ t.spaceWait = [] ∧ t.fetchWait = [] ∧ t.starvation = 0 ∧ t.table = [] ∧ t.lastGranted = .p3 ∧
      t.claims = [] ∧ t.watches = [] ∧ (∀ r, rowOf t r = ⟨.empty, 0, 0, .primary⟩) ∧ t.built = false ∧
      (∀ n, spareOf t n = .retired) ∧ t.op = none ∧ t.markerRequest = none ∧ t.mode = .scan ∧
      (∀ p, portOf t p =
        { mode := (portOf s p).mode
          session := (match (portOf s p).mode with | .async => .linkDown | .clocked => .linkUp)
          epoch := 0, bitPeriod := none, receiver := .hunting, rxBuffer := [], tx := [], sending := none
          outByte := none, selected := false, frameErr := false, overrun := false, noticeGap := false
          flush := none, held := [] }) ∧
      ((∀ slot, s.op ≠ some (.program slot)) → (∀ v, s.op ≠ some (.markerProgram v)) → t.cells = s.cells) ∧
      (∀ slot e, s.op = some (.program slot) → inProgramming s = some e →
        (torn = .oldImage → t.cells = s.cells) ∧
        (torn = .newImage → t.cells = (writeSlot slot (entryImage e) s).cells) ∧
        (∀ bytes, torn = .other bytes → t.cells = (writeSlot slot bytes s).cells)) ∧
      (∀ v, s.op = some (.markerProgram v) →
        (torn = .oldImage → t.cells = s.cells) ∧
        (torn = .newImage → t.cells = (writeSlot 1056 (markerImage v) s).cells) ∧
        (∀ bytes, torn = .other bytes → t.cells = (writeSlot 1056 bytes s).cells))

/-- END_OF_RESET: each port takes the mode of its strap, ASYNC in LINK_DOWN, CLOCKED in LINK_UP with a LINKUP of the
part state just entered; verdict UNKNOWN, MARKER_FAULT clear; with PFW deasserted STARTUP with the scan order and the
scan fetch of the marker slot in flight, with PFW asserted PARKED over a directory not built with nothing in flight;
the array as it was (sections 7.1, 8.1 and 9.2). A CLOCKED port is unselected until SELn next becomes active (log 18). -/
def Obligations.EndOfResetStartsThePart : Prop :=
  ∀ (s : State) (straps : Straps) (pfw : Level), s.resetHold ≠ none →
    ∃ t, exec (.endOfReset straps pfw) s = .next t ∧ t.resetHold = none ∧
      t.verdict = .unknown ∧ t.markerFault = false ∧ t.markerSeq = none ∧ t.built = false ∧ t.mode = .scan ∧
      t.cells = s.cells ∧ t.queue = [] ∧ t.table = [] ∧ t.claims = [] ∧ t.watches = [] ∧
      (pfw = .high → t.partState = .startup ∧ t.scanOrder = true ∧ t.pfwAsserted = false ∧
        t.op = some (.scanFetch 1056 false)) ∧
      (pfw = .low → t.partState = .parked ∧ t.scanOrder = false ∧ t.pfwAsserted = true ∧ t.op = none) ∧
      (∀ p level, level = (match p with
          | .p0 => straps.mode0 | .p1 => straps.mode1 | .p2 => straps.mode2 | .p3 => straps.mode3) →
        portOf t p =
          { mode := if level = .low then .async else .clocked
            session := if level = .low then .linkDown else .linkUp
            epoch := 0, bitPeriod := none, receiver := .hunting, rxBuffer := []
            tx := if level = .low then [] else [.notice (.linkup p t.partState) false]
            sending := none, outByte := none, selected := false, frameErr := false, overrun := false
            noticeGap := false, flush := none, held := [] })

/-- The reset cause set at the end of a reset: POWER_ON if the supply was below the power-on level during it, otherwise
BROWN_OUT if it was below the brown-out threshold, otherwise PIN, whatever the order of the events; it stays as set
until the end of the next reset, and STATUS reports it. -/
def Obligations.ResetCauseComesFromTheSupply : Prop :=
  (∀ (s t : State) (events : List ResetEvent) (torn : Torn) (straps : Straps) (pfw : Level),
    s.resetHold = none → events ≠ [] →
    runAll (events.map (fun e => .reset e torn) ++ [.endOfReset straps pfw]) s = some t →
    t.resetCause =
      if .powerOn ∈ events then .powerOn else if .brownOut ∈ events then .brownOut else .pin) ∧
  (∀ (c : Instr) (s t : State), exec c s = .next t → (∀ straps pfw, c ≠ .endOfReset straps pfw) →
    t.resetCause = s.resetCause) ∧
  (∀ (s : State) (p : PortId), (statusInfoOf s p).cause = s.resetCause)

/-! ### The array's memory -/

/-- The array is changed by programs, marker programs and the tearing of either, and by nothing else, and then in the
slot of the operation alone: every byte outside it reads as before (sections 3.1 and 9.2). -/
def Obligations.ArrayChangesInOneSlot : Prop :=
  ∀ (c : Instr) (s t : State), exec c s = .next t →
    ((∀ slot, s.op ≠ some (.program slot)) → (∀ v, s.op ≠ some (.markerProgram v)) → t.cells = s.cells) ∧
    ((∀ got, c ≠ .programCompletion got) → (∀ got, c ≠ .markerProgramCompletion got) →
      (∀ cause torn, c ≠ .reset cause torn) → t.cells = s.cells) ∧
    (∀ slot a, s.op = some (.program slot) → a < 56 * slot ∨ 56 * slot + 56 ≤ a → readCell t a = readCell s a) ∧
    (∀ v a, s.op = some (.markerProgram v) → a < 56 * 1056 ∨ 56 * 1056 + 56 ≤ a → readCell t a = readCell s a)

/-- The image that a program writes has 56 bytes, passes the tests of a primary of its record and of a spare, and is
read back as the row and the payload that were programmed (sections 1.6 and 10.5). The tests by bytes: the check word of
bytes 0 to 53, the marker value, owner and length that the slot's role allows; the scan takes a VALID image of version 0
as bad besides (section 9.4). The marker slot's verdict: CLEAN at 96H and UNCLEAN at 69H under the check word of that
byte, and UNKNOWN otherwise (sections 9.4 and 10.5). -/
def Obligations.ImagesRoundTrip : Prop :=
  (∀ (e : QueueEntry) (l : Location), e.record < 1024 → changeGood e.change = true → e.version ≠ 0 →
    (entryImage e).length = 56 ∧
    scanGood (.primary e.record) (entryImage e) = true ∧ scanGood .spare (entryImage e) = true ∧
    (halfAt (entryImage e) 1).toNat = e.record ∧ rowOfImage (entryImage e) l = rowAfter e l ∧
    (∀ payload, e.change = .write payload →
      fetchGood e.record (rowAfter e l) (entryImage e) = true ∧ imagePayload (entryImage e) payload.length = payload) ∧
    (e.change = .erase → fetchGood e.record (rowAfter e l) (entryImage e) = false)) ∧
  (∀ (image : List Byte) (r : Nat),
    imageGood (.primary r) image = true ↔
      halfAt image 54 = crc (image.take 54) ∧ (byteAt image 0 = 0x3C ∨ byteAt image 0 = 0x5A) ∧
        (halfAt image 1).toNat = r ∧
        if byteAt image 0 = 0x3C then 1 ≤ (byteAt image 5).toNat ∧ (byteAt image 5).toNat ≤ 48 else byteAt image 5 = 0) ∧
  (∀ image : List Byte,
    imageGood .spare image = true ↔
      halfAt image 54 = crc (image.take 54) ∧
        (byteAt image 0 = 0x3C ∨ byteAt image 0 = 0x5A ∨ byteAt image 0 = 0xA5) ∧
        (if byteAt image 0 = 0xA5 then halfAt image 1 = 0xFFFF else (halfAt image 1).toNat < 1024) ∧
        if byteAt image 0 = 0x3C then 1 ≤ (byteAt image 5).toNat ∧ (byteAt image 5).toNat ≤ 48 else byteAt image 5 = 0) ∧
  (∀ (role : SlotRole) (image : List Byte),
    scanGood role image = true ↔ imageGood role image = true ∧ ¬(byteAt image 0 = 0x3C ∧ halfAt image 3 = 0)) ∧
  (∀ (image : List Byte) (l : Location),
    rowOfImage image l = if byteAt image 0 = 0x3C then ⟨.valid, halfAt image 3, (byteAt image 5).toNat, l⟩
      else ⟨.empty, halfAt image 3, 0, l⟩) ∧
  (∀ image : List Byte,
    imageVerdict image =
      if halfAt image 1 = crc (image.take 1) then
        if byteAt image 0 = 0x96 then .clean else if byteAt image 0 = 0x69 then .unclean else .unknown
      else .unknown)

/-! ### Laws of the whole part -/

/-- The version law: while a scan does not run and no reset comes, a command leaves a record's visible version as it is,
but for three: a change request of the record, taken from a reserved entry or by POOL_GRANT, can move it to its
successor; a PROGRAM_COMPLETION, whose removal by commit or fault does not move it, can by its retry pass move it on by
one successor at most for each waiter that names the record; and a fetch that finds a bad check may set a record without
a queue entry CORRUPT with version 0 (sections 1.2, 1.3 and 2.6). The successor of 65535 is 1, of any other version that
version plus one (section 1.2). -/
def Obligations.VisibleVersionLaw : Prop :=
  (∀ (c : Instr) (s t : State) (r : Nat),
    QueueGood s → s.built = true → s.scanOrder = false → isReset c = false → exec c s = .next t →
    visibleVersion t r = visibleVersion s r ∨
    (∃ p f rest, (portOf s p).rxBuffer = f :: rest ∧ recordOf f = r ∧
      byteAt f.body 0 ∈ [kindWrite, kindWriteIf, kindErase] ∧
      (c = rowFor p (byteAt f.body 0) ∨
        c = .poolGrant ∧ (roundRobin s.lastGranted).find? (headWaits s) = some p)) ∧
      visibleVersion t r = nextVersion (visibleVersion s r) ∨
    (∃ got n, c = .programCompletion got ∧
      n ≤ (s.spaceWait.filter (fun id => (entryOf s id).any (fun e => e.args.record == r))).length ∧
      visibleVersion t r = laterVersion (visibleVersion s r) n) ∨
    (∃ got, c = .fetchCompletion got) ∧ newestEntry t r = none ∧ (rowOf t r).state = .corrupt ∧
      visibleVersion t r = 0) ∧
  (∀ v : Half, nextVersion v = if v = 65535 then 1 else v + 1)

/-- The machine after reset meets every invariant stated below. -/
def Obligations.ResetMeetsTheInvariants : Prop :=
  StoresCanonical State.reset ∧ TxBounded State.reset ∧ SessionsBacked State.reset ∧ WindowKept State.reset ∧
    TableGood State.reset ∧ LinksGood State.reset ∧ ControllerGood State.reset ∧ MarkerHonest State.reset ∧
    DirectoryGood State.reset ∧ ListsGood State.reset ∧ ∀ p, FlushCounted State.reset p

/-- Every step keeps the stores in canonical form; the form is the model's own (log 24). -/
def Obligations.StoresStayCanonical : Prop :=
  ∀ s t : State, StoresCanonical s → step s = .next t → StoresCanonical t

/-- Every step keeps each transmit queue at 4 responses and 4 notices at most, the window of 4 outstanding requests a
port, and the numbering of the table's entries (sections 4.1, 4.5, 6.4 and 8.6). -/
def Obligations.BoundsOfThePortsAreKept : Prop :=
  (∀ s t : State, TxBounded s → step s = .next t → TxBounded t) ∧
  (∀ s t : State, WindowKept s → TableGood s → step s = .next t → WindowKept t ∧ TableGood t)

/-- Every step keeps the claim and the watch table within their bounds and backed by open sessions (sections 5.1 and
6.1). -/
def Obligations.ClaimsAndWatchesStayBacked : Prop :=
  ∀ s t : State, SessionsBacked s → step s = .next t → SessionsBacked t

/-- Every step keeps the link laws: a CLOCKED port is never in LINK_DOWN, presents a byte exactly while it is selected,
that of the frame in progress or fill, and has nothing in course while it is not; an ASYNC port has a bit period exactly
when it is up, and in LINK_DOWN its receive buffer and transmit queue are empty (sections 8.1 to 8.3 and 8.7; the frame
in progress of an ASYNC port is at count 0: log 11). The request table is one that a run can hold: no entry waits on a
port in LINK_DOWN. -/
def Obligations.LinkLawsAreKept : Prop := ∀ s t : State, ListsGood s → LinksGood s → step s = .next t → LinksGood t

/-- Every step keeps the laws of the queue, the controller and the part states (sections 2.1, 3.1, 3.3 and 9.1). -/
def Obligations.ControllerLawsAreKept : Prop :=
  ∀ s t : State, ControllerGood s → step s = .next t → ControllerGood t

/-- Every step keeps the request table in agreement with the lists that name its entries, and each FLUSH record's count
equal to the marks of its port (sections 2.6, 2.7, 3.2, 4.1 and 4.5). -/
def Obligations.WaitingListsAreKept : Prop :=
  (∀ s t : State, ListsGood s → step s = .next t → ListsGood t) ∧
  (∀ s t : State, QueueGood s → (∀ p, FlushCounted s p) → step s = .next t → ∀ p, FlushCounted t p)

/-- Every step keeps the directory's law: rows as section 1.3 constrains them, each location and each target backed by
the spare pool (sections 1.3 and 3.5). -/
def Obligations.DirectoryLawIsKept : Prop :=
  ∀ s t : State, ControllerGood s → ListsGood s → DirectoryGood s → step s = .next t → DirectoryGood t

/-- Every step keeps the marker honest: in RUN the marker slot does not read CLEAN unless MARKER_FAULT is set
(section 3.6). -/
def Obligations.MarkerStaysHonest : Prop :=
  ∀ s t : State, ControllerGood s → DirectoryGood s → MarkerHonest s → step s = .next t → MarkerHonest t

end
end

