-- ==== Sys2Proof/Laws/State.lean ====
section
/-! SUPPORT. One lemma per field for each update of the state, true by rfl, and reading a port back. -/

namespace Sys2Proof.Machine

/-! ### Reading a port back -/

@[simp] theorem portOf_setPort_same (s : State) (p : PortId) (x : Port) : portOf (setPort s p x) p = x := by
  cases p <;> rfl

theorem portOf_setPort_other (s : State) (p q : PortId) (x : Port) (h : q ≠ p) :
    portOf (setPort s p x) q = portOf s q := by
  cases p <;> cases q <;> first | rfl | exact absurd rfl h

theorem portOf_setPort (s : State) (p q : PortId) (x : Port) :
    portOf (setPort s p x) q = if q = p then x else portOf s q := by
  cases p <;> cases q <;> rfl

@[simp] theorem portOf_updPort_same (p : PortId) (f : Port → Port) (s : State) :
    portOf (updPort p f s) p = f (portOf s p) := portOf_setPort_same s p _

theorem portOf_updPort_other (p q : PortId) (f : Port → Port) (s : State) (h : q ≠ p) :
    portOf (updPort p f s) q = portOf s q := portOf_setPort_other s p q _ h

theorem portOf_updPort (p q : PortId) (f : Port → Port) (s : State) :
    portOf (updPort p f s) q = if q = p then f (portOf s p) else portOf s q := portOf_setPort s p q _

theorem portOf_congr {s t : State} (h : t.ports = s.ports) (p : PortId) : portOf t p = portOf s p := by
  cases p <;> simp [portOf, h]

/-! ### Unchanged fields -/

@[simp] theorem setPort_pending (s : State) (p : PortId) (x : Port) : (setPort s p x).pending = s.pending := rfl
@[simp] theorem setPort_table (s : State) (p : PortId) (x : Port) : (setPort s p x).table = s.table := rfl
@[simp] theorem setPort_lastGranted (s : State) (p : PortId) (x : Port) : (setPort s p x).lastGranted = s.lastGranted := rfl
@[simp] theorem setPort_queue (s : State) (p : PortId) (x : Port) : (setPort s p x).queue = s.queue := rfl
@[simp] theorem setPort_spaceWait (s : State) (p : PortId) (x : Port) : (setPort s p x).spaceWait = s.spaceWait := rfl
@[simp] theorem setPort_directory (s : State) (p : PortId) (x : Port) : (setPort s p x).directory = s.directory := rfl
@[simp] theorem setPort_built (s : State) (p : PortId) (x : Port) : (setPort s p x).built = s.built := rfl
@[simp] theorem setPort_cells (s : State) (p : PortId) (x : Port) : (setPort s p x).cells = s.cells := rfl
@[simp] theorem setPort_op (s : State) (p : PortId) (x : Port) : (setPort s p x).op = s.op := rfl
@[simp] theorem setPort_markerRequest (s : State) (p : PortId) (x : Port) : (setPort s p x).markerRequest = s.markerRequest := rfl
@[simp] theorem setPort_fetchWait (s : State) (p : PortId) (x : Port) : (setPort s p x).fetchWait = s.fetchWait := rfl
@[simp] theorem setPort_mode (s : State) (p : PortId) (x : Port) : (setPort s p x).mode = s.mode := rfl
@[simp] theorem setPort_starvation (s : State) (p : PortId) (x : Port) : (setPort s p x).starvation = s.starvation := rfl
@[simp] theorem setPort_spares (s : State) (p : PortId) (x : Port) : (setPort s p x).spares = s.spares := rfl
@[simp] theorem setPort_scanNext (s : State) (p : PortId) (x : Port) : (setPort s p x).scanNext = s.scanNext := rfl
@[simp] theorem setPort_claims (s : State) (p : PortId) (x : Port) : (setPort s p x).claims = s.claims := rfl
@[simp] theorem setPort_watches (s : State) (p : PortId) (x : Port) : (setPort s p x).watches = s.watches := rfl
@[simp] theorem setPort_partState (s : State) (p : PortId) (x : Port) : (setPort s p x).partState = s.partState := rfl
@[simp] theorem setPort_resetCause (s : State) (p : PortId) (x : Port) : (setPort s p x).resetCause = s.resetCause := rfl
@[simp] theorem setPort_verdict (s : State) (p : PortId) (x : Port) : (setPort s p x).verdict = s.verdict := rfl
@[simp] theorem setPort_markerFault (s : State) (p : PortId) (x : Port) : (setPort s p x).markerFault = s.markerFault := rfl
@[simp] theorem setPort_scanOrder (s : State) (p : PortId) (x : Port) : (setPort s p x).scanOrder = s.scanOrder := rfl
@[simp] theorem setPort_markerSeq (s : State) (p : PortId) (x : Port) : (setPort s p x).markerSeq = s.markerSeq := rfl
@[simp] theorem setPort_pfwAsserted (s : State) (p : PortId) (x : Port) : (setPort s p x).pfwAsserted = s.pfwAsserted := rfl
@[simp] theorem setPort_resetHold (s : State) (p : PortId) (x : Port) : (setPort s p x).resetHold = s.resetHold := rfl

@[simp] theorem updPort_pending (p : PortId) (f : Port → Port) (s : State) : (updPort p f s).pending = s.pending := rfl
@[simp] theorem updPort_table (p : PortId) (f : Port → Port) (s : State) : (updPort p f s).table = s.table := rfl
@[simp] theorem updPort_lastGranted (p : PortId) (f : Port → Port) (s : State) : (updPort p f s).lastGranted = s.lastGranted := rfl
@[simp] theorem updPort_queue (p : PortId) (f : Port → Port) (s : State) : (updPort p f s).queue = s.queue := rfl
@[simp] theorem updPort_spaceWait (p : PortId) (f : Port → Port) (s : State) : (updPort p f s).spaceWait = s.spaceWait := rfl
@[simp] theorem updPort_directory (p : PortId) (f : Port → Port) (s : State) : (updPort p f s).directory = s.directory := rfl
@[simp] theorem updPort_built (p : PortId) (f : Port → Port) (s : State) : (updPort p f s).built = s.built := rfl
@[simp] theorem updPort_cells (p : PortId) (f : Port → Port) (s : State) : (updPort p f s).cells = s.cells := rfl
@[simp] theorem updPort_op (p : PortId) (f : Port → Port) (s : State) : (updPort p f s).op = s.op := rfl
@[simp] theorem updPort_markerRequest (p : PortId) (f : Port → Port) (s : State) : (updPort p f s).markerRequest = s.markerRequest := rfl
@[simp] theorem updPort_fetchWait (p : PortId) (f : Port → Port) (s : State) : (updPort p f s).fetchWait = s.fetchWait := rfl
@[simp] theorem updPort_mode (p : PortId) (f : Port → Port) (s : State) : (updPort p f s).mode = s.mode := rfl
@[simp] theorem updPort_starvation (p : PortId) (f : Port → Port) (s : State) : (updPort p f s).starvation = s.starvation := rfl
@[simp] theorem updPort_spares (p : PortId) (f : Port → Port) (s : State) : (updPort p f s).spares = s.spares := rfl
@[simp] theorem updPort_scanNext (p : PortId) (f : Port → Port) (s : State) : (updPort p f s).scanNext = s.scanNext := rfl
@[simp] theorem updPort_claims (p : PortId) (f : Port → Port) (s : State) : (updPort p f s).claims = s.claims := rfl
@[simp] theorem updPort_watches (p : PortId) (f : Port → Port) (s : State) : (updPort p f s).watches = s.watches := rfl
@[simp] theorem updPort_partState (p : PortId) (f : Port → Port) (s : State) : (updPort p f s).partState = s.partState := rfl
@[simp] theorem updPort_resetCause (p : PortId) (f : Port → Port) (s : State) : (updPort p f s).resetCause = s.resetCause := rfl
@[simp] theorem updPort_verdict (p : PortId) (f : Port → Port) (s : State) : (updPort p f s).verdict = s.verdict := rfl
@[simp] theorem updPort_markerFault (p : PortId) (f : Port → Port) (s : State) : (updPort p f s).markerFault = s.markerFault := rfl
@[simp] theorem updPort_scanOrder (p : PortId) (f : Port → Port) (s : State) : (updPort p f s).scanOrder = s.scanOrder := rfl
@[simp] theorem updPort_markerSeq (p : PortId) (f : Port → Port) (s : State) : (updPort p f s).markerSeq = s.markerSeq := rfl
@[simp] theorem updPort_pfwAsserted (p : PortId) (f : Port → Port) (s : State) : (updPort p f s).pfwAsserted = s.pfwAsserted := rfl
@[simp] theorem updPort_resetHold (p : PortId) (f : Port → Port) (s : State) : (updPort p f s).resetHold = s.resetHold := rfl

@[simp] theorem updEntry_pending (id : Nat) (f : Entry → Entry) (s : State) : (updEntry id f s).pending = s.pending := rfl
@[simp] theorem updEntry_ports (id : Nat) (f : Entry → Entry) (s : State) : (updEntry id f s).ports = s.ports := rfl
@[simp] theorem updEntry_lastGranted (id : Nat) (f : Entry → Entry) (s : State) : (updEntry id f s).lastGranted = s.lastGranted := rfl
@[simp] theorem updEntry_queue (id : Nat) (f : Entry → Entry) (s : State) : (updEntry id f s).queue = s.queue := rfl
@[simp] theorem updEntry_spaceWait (id : Nat) (f : Entry → Entry) (s : State) : (updEntry id f s).spaceWait = s.spaceWait := rfl
@[simp] theorem updEntry_directory (id : Nat) (f : Entry → Entry) (s : State) : (updEntry id f s).directory = s.directory := rfl
@[simp] theorem updEntry_built (id : Nat) (f : Entry → Entry) (s : State) : (updEntry id f s).built = s.built := rfl
@[simp] theorem updEntry_cells (id : Nat) (f : Entry → Entry) (s : State) : (updEntry id f s).cells = s.cells := rfl
@[simp] theorem updEntry_op (id : Nat) (f : Entry → Entry) (s : State) : (updEntry id f s).op = s.op := rfl
@[simp] theorem updEntry_markerRequest (id : Nat) (f : Entry → Entry) (s : State) : (updEntry id f s).markerRequest = s.markerRequest := rfl
@[simp] theorem updEntry_fetchWait (id : Nat) (f : Entry → Entry) (s : State) : (updEntry id f s).fetchWait = s.fetchWait := rfl
@[simp] theorem updEntry_mode (id : Nat) (f : Entry → Entry) (s : State) : (updEntry id f s).mode = s.mode := rfl
@[simp] theorem updEntry_starvation (id : Nat) (f : Entry → Entry) (s : State) : (updEntry id f s).starvation = s.starvation := rfl
@[simp] theorem updEntry_spares (id : Nat) (f : Entry → Entry) (s : State) : (updEntry id f s).spares = s.spares := rfl
@[simp] theorem updEntry_scanNext (id : Nat) (f : Entry → Entry) (s : State) : (updEntry id f s).scanNext = s.scanNext := rfl
@[simp] theorem updEntry_claims (id : Nat) (f : Entry → Entry) (s : State) : (updEntry id f s).claims = s.claims := rfl
@[simp] theorem updEntry_watches (id : Nat) (f : Entry → Entry) (s : State) : (updEntry id f s).watches = s.watches := rfl
@[simp] theorem updEntry_partState (id : Nat) (f : Entry → Entry) (s : State) : (updEntry id f s).partState = s.partState := rfl
@[simp] theorem updEntry_resetCause (id : Nat) (f : Entry → Entry) (s : State) : (updEntry id f s).resetCause = s.resetCause := rfl
@[simp] theorem updEntry_verdict (id : Nat) (f : Entry → Entry) (s : State) : (updEntry id f s).verdict = s.verdict := rfl
@[simp] theorem updEntry_markerFault (id : Nat) (f : Entry → Entry) (s : State) : (updEntry id f s).markerFault = s.markerFault := rfl
@[simp] theorem updEntry_scanOrder (id : Nat) (f : Entry → Entry) (s : State) : (updEntry id f s).scanOrder = s.scanOrder := rfl
@[simp] theorem updEntry_markerSeq (id : Nat) (f : Entry → Entry) (s : State) : (updEntry id f s).markerSeq = s.markerSeq := rfl
@[simp] theorem updEntry_pfwAsserted (id : Nat) (f : Entry → Entry) (s : State) : (updEntry id f s).pfwAsserted = s.pfwAsserted := rfl
@[simp] theorem updEntry_resetHold (id : Nat) (f : Entry → Entry) (s : State) : (updEntry id f s).resetHold = s.resetHold := rfl
@[simp] theorem updEntry_portOf (id : Nat) (f : Entry → Entry) (s : State) (q : PortId) : portOf (updEntry id f s) q = portOf s q := by cases q <;> rfl

@[simp] theorem freeEntry_pending (id : Nat) (s : State) : (freeEntry id s).pending = s.pending := rfl
@[simp] theorem freeEntry_ports (id : Nat) (s : State) : (freeEntry id s).ports = s.ports := rfl
@[simp] theorem freeEntry_lastGranted (id : Nat) (s : State) : (freeEntry id s).lastGranted = s.lastGranted := rfl
@[simp] theorem freeEntry_queue (id : Nat) (s : State) : (freeEntry id s).queue = s.queue := rfl
@[simp] theorem freeEntry_spaceWait (id : Nat) (s : State) : (freeEntry id s).spaceWait = s.spaceWait := rfl
@[simp] theorem freeEntry_directory (id : Nat) (s : State) : (freeEntry id s).directory = s.directory := rfl
@[simp] theorem freeEntry_built (id : Nat) (s : State) : (freeEntry id s).built = s.built := rfl
@[simp] theorem freeEntry_cells (id : Nat) (s : State) : (freeEntry id s).cells = s.cells := rfl
@[simp] theorem freeEntry_op (id : Nat) (s : State) : (freeEntry id s).op = s.op := rfl
@[simp] theorem freeEntry_markerRequest (id : Nat) (s : State) : (freeEntry id s).markerRequest = s.markerRequest := rfl
@[simp] theorem freeEntry_fetchWait (id : Nat) (s : State) : (freeEntry id s).fetchWait = s.fetchWait := rfl
@[simp] theorem freeEntry_mode (id : Nat) (s : State) : (freeEntry id s).mode = s.mode := rfl
@[simp] theorem freeEntry_starvation (id : Nat) (s : State) : (freeEntry id s).starvation = s.starvation := rfl
@[simp] theorem freeEntry_spares (id : Nat) (s : State) : (freeEntry id s).spares = s.spares := rfl
@[simp] theorem freeEntry_scanNext (id : Nat) (s : State) : (freeEntry id s).scanNext = s.scanNext := rfl
@[simp] theorem freeEntry_claims (id : Nat) (s : State) : (freeEntry id s).claims = s.claims := rfl
@[simp] theorem freeEntry_watches (id : Nat) (s : State) : (freeEntry id s).watches = s.watches := rfl
@[simp] theorem freeEntry_partState (id : Nat) (s : State) : (freeEntry id s).partState = s.partState := rfl
@[simp] theorem freeEntry_resetCause (id : Nat) (s : State) : (freeEntry id s).resetCause = s.resetCause := rfl
@[simp] theorem freeEntry_verdict (id : Nat) (s : State) : (freeEntry id s).verdict = s.verdict := rfl
@[simp] theorem freeEntry_markerFault (id : Nat) (s : State) : (freeEntry id s).markerFault = s.markerFault := rfl
@[simp] theorem freeEntry_scanOrder (id : Nat) (s : State) : (freeEntry id s).scanOrder = s.scanOrder := rfl
@[simp] theorem freeEntry_markerSeq (id : Nat) (s : State) : (freeEntry id s).markerSeq = s.markerSeq := rfl
@[simp] theorem freeEntry_pfwAsserted (id : Nat) (s : State) : (freeEntry id s).pfwAsserted = s.pfwAsserted := rfl
@[simp] theorem freeEntry_resetHold (id : Nat) (s : State) : (freeEntry id s).resetHold = s.resetHold := rfl
@[simp] theorem freeEntry_portOf (id : Nat) (s : State) (q : PortId) : portOf (freeEntry id s) q = portOf s q := by cases q <;> rfl

@[simp] theorem setRow_pending (r : Nat) (row : Row) (s : State) : (setRow r row s).pending = s.pending := rfl
@[simp] theorem setRow_ports (r : Nat) (row : Row) (s : State) : (setRow r row s).ports = s.ports := rfl
@[simp] theorem setRow_table (r : Nat) (row : Row) (s : State) : (setRow r row s).table = s.table := rfl
@[simp] theorem setRow_lastGranted (r : Nat) (row : Row) (s : State) : (setRow r row s).lastGranted = s.lastGranted := rfl
@[simp] theorem setRow_queue (r : Nat) (row : Row) (s : State) : (setRow r row s).queue = s.queue := rfl
@[simp] theorem setRow_spaceWait (r : Nat) (row : Row) (s : State) : (setRow r row s).spaceWait = s.spaceWait := rfl
@[simp] theorem setRow_built (r : Nat) (row : Row) (s : State) : (setRow r row s).built = s.built := rfl
@[simp] theorem setRow_cells (r : Nat) (row : Row) (s : State) : (setRow r row s).cells = s.cells := rfl
@[simp] theorem setRow_op (r : Nat) (row : Row) (s : State) : (setRow r row s).op = s.op := rfl
@[simp] theorem setRow_markerRequest (r : Nat) (row : Row) (s : State) : (setRow r row s).markerRequest = s.markerRequest := rfl
@[simp] theorem setRow_fetchWait (r : Nat) (row : Row) (s : State) : (setRow r row s).fetchWait = s.fetchWait := rfl
@[simp] theorem setRow_mode (r : Nat) (row : Row) (s : State) : (setRow r row s).mode = s.mode := rfl
@[simp] theorem setRow_starvation (r : Nat) (row : Row) (s : State) : (setRow r row s).starvation = s.starvation := rfl
@[simp] theorem setRow_spares (r : Nat) (row : Row) (s : State) : (setRow r row s).spares = s.spares := rfl
@[simp] theorem setRow_scanNext (r : Nat) (row : Row) (s : State) : (setRow r row s).scanNext = s.scanNext := rfl
@[simp] theorem setRow_claims (r : Nat) (row : Row) (s : State) : (setRow r row s).claims = s.claims := rfl
@[simp] theorem setRow_watches (r : Nat) (row : Row) (s : State) : (setRow r row s).watches = s.watches := rfl
@[simp] theorem setRow_partState (r : Nat) (row : Row) (s : State) : (setRow r row s).partState = s.partState := rfl
@[simp] theorem setRow_resetCause (r : Nat) (row : Row) (s : State) : (setRow r row s).resetCause = s.resetCause := rfl
@[simp] theorem setRow_verdict (r : Nat) (row : Row) (s : State) : (setRow r row s).verdict = s.verdict := rfl
@[simp] theorem setRow_markerFault (r : Nat) (row : Row) (s : State) : (setRow r row s).markerFault = s.markerFault := rfl
@[simp] theorem setRow_scanOrder (r : Nat) (row : Row) (s : State) : (setRow r row s).scanOrder = s.scanOrder := rfl
@[simp] theorem setRow_markerSeq (r : Nat) (row : Row) (s : State) : (setRow r row s).markerSeq = s.markerSeq := rfl
@[simp] theorem setRow_pfwAsserted (r : Nat) (row : Row) (s : State) : (setRow r row s).pfwAsserted = s.pfwAsserted := rfl
@[simp] theorem setRow_resetHold (r : Nat) (row : Row) (s : State) : (setRow r row s).resetHold = s.resetHold := rfl
@[simp] theorem setRow_portOf (r : Nat) (row : Row) (s : State) (q : PortId) : portOf (setRow r row s) q = portOf s q := by cases q <;> rfl

@[simp] theorem setSpare_pending (n : Nat) (x : SpareState) (s : State) : (setSpare n x s).pending = s.pending := rfl
@[simp] theorem setSpare_ports (n : Nat) (x : SpareState) (s : State) : (setSpare n x s).ports = s.ports := rfl
@[simp] theorem setSpare_table (n : Nat) (x : SpareState) (s : State) : (setSpare n x s).table = s.table := rfl
@[simp] theorem setSpare_lastGranted (n : Nat) (x : SpareState) (s : State) : (setSpare n x s).lastGranted = s.lastGranted := rfl
@[simp] theorem setSpare_queue (n : Nat) (x : SpareState) (s : State) : (setSpare n x s).queue = s.queue := rfl
@[simp] theorem setSpare_spaceWait (n : Nat) (x : SpareState) (s : State) : (setSpare n x s).spaceWait = s.spaceWait := rfl
@[simp] theorem setSpare_directory (n : Nat) (x : SpareState) (s : State) : (setSpare n x s).directory = s.directory := rfl
@[simp] theorem setSpare_built (n : Nat) (x : SpareState) (s : State) : (setSpare n x s).built = s.built := rfl
@[simp] theorem setSpare_cells (n : Nat) (x : SpareState) (s : State) : (setSpare n x s).cells = s.cells := rfl
@[simp] theorem setSpare_op (n : Nat) (x : SpareState) (s : State) : (setSpare n x s).op = s.op := rfl
@[simp] theorem setSpare_markerRequest (n : Nat) (x : SpareState) (s : State) : (setSpare n x s).markerRequest = s.markerRequest := rfl
@[simp] theorem setSpare_fetchWait (n : Nat) (x : SpareState) (s : State) : (setSpare n x s).fetchWait = s.fetchWait := rfl
@[simp] theorem setSpare_mode (n : Nat) (x : SpareState) (s : State) : (setSpare n x s).mode = s.mode := rfl
@[simp] theorem setSpare_starvation (n : Nat) (x : SpareState) (s : State) : (setSpare n x s).starvation = s.starvation := rfl
@[simp] theorem setSpare_scanNext (n : Nat) (x : SpareState) (s : State) : (setSpare n x s).scanNext = s.scanNext := rfl
@[simp] theorem setSpare_claims (n : Nat) (x : SpareState) (s : State) : (setSpare n x s).claims = s.claims := rfl
@[simp] theorem setSpare_watches (n : Nat) (x : SpareState) (s : State) : (setSpare n x s).watches = s.watches := rfl
@[simp] theorem setSpare_partState (n : Nat) (x : SpareState) (s : State) : (setSpare n x s).partState = s.partState := rfl
@[simp] theorem setSpare_resetCause (n : Nat) (x : SpareState) (s : State) : (setSpare n x s).resetCause = s.resetCause := rfl
@[simp] theorem setSpare_verdict (n : Nat) (x : SpareState) (s : State) : (setSpare n x s).verdict = s.verdict := rfl
@[simp] theorem setSpare_markerFault (n : Nat) (x : SpareState) (s : State) : (setSpare n x s).markerFault = s.markerFault := rfl
@[simp] theorem setSpare_scanOrder (n : Nat) (x : SpareState) (s : State) : (setSpare n x s).scanOrder = s.scanOrder := rfl
@[simp] theorem setSpare_markerSeq (n : Nat) (x : SpareState) (s : State) : (setSpare n x s).markerSeq = s.markerSeq := rfl
@[simp] theorem setSpare_pfwAsserted (n : Nat) (x : SpareState) (s : State) : (setSpare n x s).pfwAsserted = s.pfwAsserted := rfl
@[simp] theorem setSpare_resetHold (n : Nat) (x : SpareState) (s : State) : (setSpare n x s).resetHold = s.resetHold := rfl
@[simp] theorem setSpare_portOf (n : Nat) (x : SpareState) (s : State) (q : PortId) : portOf (setSpare n x s) q = portOf s q := by cases q <;> rfl

@[simp] theorem writeSlot_pending (slot : Nat) (bytes : List Byte) (s : State) : (writeSlot slot bytes s).pending = s.pending := rfl
@[simp] theorem writeSlot_ports (slot : Nat) (bytes : List Byte) (s : State) : (writeSlot slot bytes s).ports = s.ports := rfl
@[simp] theorem writeSlot_table (slot : Nat) (bytes : List Byte) (s : State) : (writeSlot slot bytes s).table = s.table := rfl
@[simp] theorem writeSlot_lastGranted (slot : Nat) (bytes : List Byte) (s : State) : (writeSlot slot bytes s).lastGranted = s.lastGranted := rfl
@[simp] theorem writeSlot_queue (slot : Nat) (bytes : List Byte) (s : State) : (writeSlot slot bytes s).queue = s.queue := rfl
@[simp] theorem writeSlot_spaceWait (slot : Nat) (bytes : List Byte) (s : State) : (writeSlot slot bytes s).spaceWait = s.spaceWait := rfl
@[simp] theorem writeSlot_directory (slot : Nat) (bytes : List Byte) (s : State) : (writeSlot slot bytes s).directory = s.directory := rfl
@[simp] theorem writeSlot_built (slot : Nat) (bytes : List Byte) (s : State) : (writeSlot slot bytes s).built = s.built := rfl
@[simp] theorem writeSlot_op (slot : Nat) (bytes : List Byte) (s : State) : (writeSlot slot bytes s).op = s.op := rfl
@[simp] theorem writeSlot_markerRequest (slot : Nat) (bytes : List Byte) (s : State) : (writeSlot slot bytes s).markerRequest = s.markerRequest := rfl
@[simp] theorem writeSlot_fetchWait (slot : Nat) (bytes : List Byte) (s : State) : (writeSlot slot bytes s).fetchWait = s.fetchWait := rfl
@[simp] theorem writeSlot_mode (slot : Nat) (bytes : List Byte) (s : State) : (writeSlot slot bytes s).mode = s.mode := rfl
@[simp] theorem writeSlot_starvation (slot : Nat) (bytes : List Byte) (s : State) : (writeSlot slot bytes s).starvation = s.starvation := rfl
@[simp] theorem writeSlot_spares (slot : Nat) (bytes : List Byte) (s : State) : (writeSlot slot bytes s).spares = s.spares := rfl
@[simp] theorem writeSlot_scanNext (slot : Nat) (bytes : List Byte) (s : State) : (writeSlot slot bytes s).scanNext = s.scanNext := rfl
@[simp] theorem writeSlot_claims (slot : Nat) (bytes : List Byte) (s : State) : (writeSlot slot bytes s).claims = s.claims := rfl
@[simp] theorem writeSlot_watches (slot : Nat) (bytes : List Byte) (s : State) : (writeSlot slot bytes s).watches = s.watches := rfl
@[simp] theorem writeSlot_partState (slot : Nat) (bytes : List Byte) (s : State) : (writeSlot slot bytes s).partState = s.partState := rfl
@[simp] theorem writeSlot_resetCause (slot : Nat) (bytes : List Byte) (s : State) : (writeSlot slot bytes s).resetCause = s.resetCause := rfl
@[simp] theorem writeSlot_verdict (slot : Nat) (bytes : List Byte) (s : State) : (writeSlot slot bytes s).verdict = s.verdict := rfl
@[simp] theorem writeSlot_markerFault (slot : Nat) (bytes : List Byte) (s : State) : (writeSlot slot bytes s).markerFault = s.markerFault := rfl
@[simp] theorem writeSlot_scanOrder (slot : Nat) (bytes : List Byte) (s : State) : (writeSlot slot bytes s).scanOrder = s.scanOrder := rfl
@[simp] theorem writeSlot_markerSeq (slot : Nat) (bytes : List Byte) (s : State) : (writeSlot slot bytes s).markerSeq = s.markerSeq := rfl
@[simp] theorem writeSlot_pfwAsserted (slot : Nat) (bytes : List Byte) (s : State) : (writeSlot slot bytes s).pfwAsserted = s.pfwAsserted := rfl
@[simp] theorem writeSlot_resetHold (slot : Nat) (bytes : List Byte) (s : State) : (writeSlot slot bytes s).resetHold = s.resetHold := rfl
@[simp] theorem writeSlot_portOf (slot : Nat) (bytes : List Byte) (s : State) (q : PortId) : portOf (writeSlot slot bytes s) q = portOf s q := by cases q <;> rfl

@[simp] theorem setFetchWait_pending (l : List Nat) (s : State) : (setFetchWait l s).pending = s.pending := rfl
@[simp] theorem setFetchWait_ports (l : List Nat) (s : State) : (setFetchWait l s).ports = s.ports := rfl
@[simp] theorem setFetchWait_table (l : List Nat) (s : State) : (setFetchWait l s).table = s.table := rfl
@[simp] theorem setFetchWait_lastGranted (l : List Nat) (s : State) : (setFetchWait l s).lastGranted = s.lastGranted := rfl
@[simp] theorem setFetchWait_queue (l : List Nat) (s : State) : (setFetchWait l s).queue = s.queue := rfl
@[simp] theorem setFetchWait_spaceWait (l : List Nat) (s : State) : (setFetchWait l s).spaceWait = s.spaceWait := rfl
@[simp] theorem setFetchWait_directory (l : List Nat) (s : State) : (setFetchWait l s).directory = s.directory := rfl
@[simp] theorem setFetchWait_built (l : List Nat) (s : State) : (setFetchWait l s).built = s.built := rfl
@[simp] theorem setFetchWait_cells (l : List Nat) (s : State) : (setFetchWait l s).cells = s.cells := rfl
@[simp] theorem setFetchWait_op (l : List Nat) (s : State) : (setFetchWait l s).op = s.op := rfl
@[simp] theorem setFetchWait_markerRequest (l : List Nat) (s : State) : (setFetchWait l s).markerRequest = s.markerRequest := rfl
@[simp] theorem setFetchWait_mode (l : List Nat) (s : State) : (setFetchWait l s).mode = s.mode := rfl
@[simp] theorem setFetchWait_spares (l : List Nat) (s : State) : (setFetchWait l s).spares = s.spares := rfl
@[simp] theorem setFetchWait_scanNext (l : List Nat) (s : State) : (setFetchWait l s).scanNext = s.scanNext := rfl
@[simp] theorem setFetchWait_claims (l : List Nat) (s : State) : (setFetchWait l s).claims = s.claims := rfl
@[simp] theorem setFetchWait_watches (l : List Nat) (s : State) : (setFetchWait l s).watches = s.watches := rfl
@[simp] theorem setFetchWait_partState (l : List Nat) (s : State) : (setFetchWait l s).partState = s.partState := rfl
@[simp] theorem setFetchWait_resetCause (l : List Nat) (s : State) : (setFetchWait l s).resetCause = s.resetCause := rfl
@[simp] theorem setFetchWait_verdict (l : List Nat) (s : State) : (setFetchWait l s).verdict = s.verdict := rfl
@[simp] theorem setFetchWait_markerFault (l : List Nat) (s : State) : (setFetchWait l s).markerFault = s.markerFault := rfl
@[simp] theorem setFetchWait_scanOrder (l : List Nat) (s : State) : (setFetchWait l s).scanOrder = s.scanOrder := rfl
@[simp] theorem setFetchWait_markerSeq (l : List Nat) (s : State) : (setFetchWait l s).markerSeq = s.markerSeq := rfl
@[simp] theorem setFetchWait_pfwAsserted (l : List Nat) (s : State) : (setFetchWait l s).pfwAsserted = s.pfwAsserted := rfl
@[simp] theorem setFetchWait_resetHold (l : List Nat) (s : State) : (setFetchWait l s).resetHold = s.resetHold := rfl
@[simp] theorem setFetchWait_portOf (l : List Nat) (s : State) (q : PortId) : portOf (setFetchWait l s) q = portOf s q := by cases q <;> rfl

@[simp] theorem beginSequence_pending (v : MarkerValue) (s : State) : (beginSequence v s).pending = s.pending := rfl
@[simp] theorem beginSequence_ports (v : MarkerValue) (s : State) : (beginSequence v s).ports = s.ports := rfl
@[simp] theorem beginSequence_table (v : MarkerValue) (s : State) : (beginSequence v s).table = s.table := rfl
@[simp] theorem beginSequence_lastGranted (v : MarkerValue) (s : State) : (beginSequence v s).lastGranted = s.lastGranted := rfl
@[simp] theorem beginSequence_queue (v : MarkerValue) (s : State) : (beginSequence v s).queue = s.queue := rfl
@[simp] theorem beginSequence_spaceWait (v : MarkerValue) (s : State) : (beginSequence v s).spaceWait = s.spaceWait := rfl
@[simp] theorem beginSequence_directory (v : MarkerValue) (s : State) : (beginSequence v s).directory = s.directory := rfl
@[simp] theorem beginSequence_built (v : MarkerValue) (s : State) : (beginSequence v s).built = s.built := rfl
@[simp] theorem beginSequence_cells (v : MarkerValue) (s : State) : (beginSequence v s).cells = s.cells := rfl
@[simp] theorem beginSequence_op (v : MarkerValue) (s : State) : (beginSequence v s).op = s.op := rfl
@[simp] theorem beginSequence_fetchWait (v : MarkerValue) (s : State) : (beginSequence v s).fetchWait = s.fetchWait := rfl
@[simp] theorem beginSequence_mode (v : MarkerValue) (s : State) : (beginSequence v s).mode = s.mode := rfl
@[simp] theorem beginSequence_starvation (v : MarkerValue) (s : State) : (beginSequence v s).starvation = s.starvation := rfl
@[simp] theorem beginSequence_spares (v : MarkerValue) (s : State) : (beginSequence v s).spares = s.spares := rfl
@[simp] theorem beginSequence_scanNext (v : MarkerValue) (s : State) : (beginSequence v s).scanNext = s.scanNext := rfl
@[simp] theorem beginSequence_claims (v : MarkerValue) (s : State) : (beginSequence v s).claims = s.claims := rfl
@[simp] theorem beginSequence_watches (v : MarkerValue) (s : State) : (beginSequence v s).watches = s.watches := rfl
@[simp] theorem beginSequence_partState (v : MarkerValue) (s : State) : (beginSequence v s).partState = s.partState := rfl
@[simp] theorem beginSequence_resetCause (v : MarkerValue) (s : State) : (beginSequence v s).resetCause = s.resetCause := rfl
@[simp] theorem beginSequence_verdict (v : MarkerValue) (s : State) : (beginSequence v s).verdict = s.verdict := rfl
@[simp] theorem beginSequence_markerFault (v : MarkerValue) (s : State) : (beginSequence v s).markerFault = s.markerFault := rfl
@[simp] theorem beginSequence_scanOrder (v : MarkerValue) (s : State) : (beginSequence v s).scanOrder = s.scanOrder := rfl
@[simp] theorem beginSequence_pfwAsserted (v : MarkerValue) (s : State) : (beginSequence v s).pfwAsserted = s.pfwAsserted := rfl
@[simp] theorem beginSequence_resetHold (v : MarkerValue) (s : State) : (beginSequence v s).resetHold = s.resetHold := rfl
@[simp] theorem beginSequence_portOf (v : MarkerValue) (s : State) (q : PortId) : portOf (beginSequence v s) q = portOf s q := by cases q <;> rfl

@[simp] theorem leaveWaiters_pending (id : Nat) (s : State) : (leaveWaiters id s).pending = s.pending := rfl
@[simp] theorem leaveWaiters_ports (id : Nat) (s : State) : (leaveWaiters id s).ports = s.ports := rfl
@[simp] theorem leaveWaiters_table (id : Nat) (s : State) : (leaveWaiters id s).table = s.table := rfl
@[simp] theorem leaveWaiters_lastGranted (id : Nat) (s : State) : (leaveWaiters id s).lastGranted = s.lastGranted := rfl
@[simp] theorem leaveWaiters_queue (id : Nat) (s : State) : (leaveWaiters id s).queue = s.queue := rfl
@[simp] theorem leaveWaiters_directory (id : Nat) (s : State) : (leaveWaiters id s).directory = s.directory := rfl
@[simp] theorem leaveWaiters_built (id : Nat) (s : State) : (leaveWaiters id s).built = s.built := rfl
@[simp] theorem leaveWaiters_cells (id : Nat) (s : State) : (leaveWaiters id s).cells = s.cells := rfl
@[simp] theorem leaveWaiters_op (id : Nat) (s : State) : (leaveWaiters id s).op = s.op := rfl
@[simp] theorem leaveWaiters_markerRequest (id : Nat) (s : State) : (leaveWaiters id s).markerRequest = s.markerRequest := rfl
@[simp] theorem leaveWaiters_fetchWait (id : Nat) (s : State) : (leaveWaiters id s).fetchWait = s.fetchWait := rfl
@[simp] theorem leaveWaiters_mode (id : Nat) (s : State) : (leaveWaiters id s).mode = s.mode := rfl
@[simp] theorem leaveWaiters_starvation (id : Nat) (s : State) : (leaveWaiters id s).starvation = s.starvation := rfl
@[simp] theorem leaveWaiters_spares (id : Nat) (s : State) : (leaveWaiters id s).spares = s.spares := rfl
@[simp] theorem leaveWaiters_scanNext (id : Nat) (s : State) : (leaveWaiters id s).scanNext = s.scanNext := rfl
@[simp] theorem leaveWaiters_claims (id : Nat) (s : State) : (leaveWaiters id s).claims = s.claims := rfl
@[simp] theorem leaveWaiters_watches (id : Nat) (s : State) : (leaveWaiters id s).watches = s.watches := rfl
@[simp] theorem leaveWaiters_partState (id : Nat) (s : State) : (leaveWaiters id s).partState = s.partState := rfl
@[simp] theorem leaveWaiters_resetCause (id : Nat) (s : State) : (leaveWaiters id s).resetCause = s.resetCause := rfl
@[simp] theorem leaveWaiters_verdict (id : Nat) (s : State) : (leaveWaiters id s).verdict = s.verdict := rfl
@[simp] theorem leaveWaiters_markerFault (id : Nat) (s : State) : (leaveWaiters id s).markerFault = s.markerFault := rfl
@[simp] theorem leaveWaiters_scanOrder (id : Nat) (s : State) : (leaveWaiters id s).scanOrder = s.scanOrder := rfl
@[simp] theorem leaveWaiters_markerSeq (id : Nat) (s : State) : (leaveWaiters id s).markerSeq = s.markerSeq := rfl
@[simp] theorem leaveWaiters_pfwAsserted (id : Nat) (s : State) : (leaveWaiters id s).pfwAsserted = s.pfwAsserted := rfl
@[simp] theorem leaveWaiters_resetHold (id : Nat) (s : State) : (leaveWaiters id s).resetHold = s.resetHold := rfl
@[simp] theorem leaveWaiters_portOf (id : Nat) (s : State) (q : PortId) : portOf (leaveWaiters id s) q = portOf s q := by cases q <;> rfl

@[simp] theorem joinWaiters_pending (e : Entry) (s : State) : (joinWaiters e s).pending = s.pending := rfl
@[simp] theorem joinWaiters_ports (e : Entry) (s : State) : (joinWaiters e s).ports = s.ports := rfl
@[simp] theorem joinWaiters_lastGranted (e : Entry) (s : State) : (joinWaiters e s).lastGranted = s.lastGranted := rfl
@[simp] theorem joinWaiters_queue (e : Entry) (s : State) : (joinWaiters e s).queue = s.queue := rfl
@[simp] theorem joinWaiters_directory (e : Entry) (s : State) : (joinWaiters e s).directory = s.directory := rfl
@[simp] theorem joinWaiters_built (e : Entry) (s : State) : (joinWaiters e s).built = s.built := rfl
@[simp] theorem joinWaiters_cells (e : Entry) (s : State) : (joinWaiters e s).cells = s.cells := rfl
@[simp] theorem joinWaiters_op (e : Entry) (s : State) : (joinWaiters e s).op = s.op := rfl
@[simp] theorem joinWaiters_markerRequest (e : Entry) (s : State) : (joinWaiters e s).markerRequest = s.markerRequest := rfl
@[simp] theorem joinWaiters_fetchWait (e : Entry) (s : State) : (joinWaiters e s).fetchWait = s.fetchWait := rfl
@[simp] theorem joinWaiters_mode (e : Entry) (s : State) : (joinWaiters e s).mode = s.mode := rfl
@[simp] theorem joinWaiters_starvation (e : Entry) (s : State) : (joinWaiters e s).starvation = s.starvation := rfl
@[simp] theorem joinWaiters_spares (e : Entry) (s : State) : (joinWaiters e s).spares = s.spares := rfl
@[simp] theorem joinWaiters_scanNext (e : Entry) (s : State) : (joinWaiters e s).scanNext = s.scanNext := rfl
@[simp] theorem joinWaiters_claims (e : Entry) (s : State) : (joinWaiters e s).claims = s.claims := rfl
@[simp] theorem joinWaiters_watches (e : Entry) (s : State) : (joinWaiters e s).watches = s.watches := rfl
@[simp] theorem joinWaiters_partState (e : Entry) (s : State) : (joinWaiters e s).partState = s.partState := rfl
@[simp] theorem joinWaiters_resetCause (e : Entry) (s : State) : (joinWaiters e s).resetCause = s.resetCause := rfl
@[simp] theorem joinWaiters_verdict (e : Entry) (s : State) : (joinWaiters e s).verdict = s.verdict := rfl
@[simp] theorem joinWaiters_markerFault (e : Entry) (s : State) : (joinWaiters e s).markerFault = s.markerFault := rfl
@[simp] theorem joinWaiters_scanOrder (e : Entry) (s : State) : (joinWaiters e s).scanOrder = s.scanOrder := rfl
@[simp] theorem joinWaiters_markerSeq (e : Entry) (s : State) : (joinWaiters e s).markerSeq = s.markerSeq := rfl
@[simp] theorem joinWaiters_pfwAsserted (e : Entry) (s : State) : (joinWaiters e s).pfwAsserted = s.pfwAsserted := rfl
@[simp] theorem joinWaiters_resetHold (e : Entry) (s : State) : (joinWaiters e s).resetHold = s.resetHold := rfl
@[simp] theorem joinWaiters_portOf (e : Entry) (s : State) (q : PortId) : portOf (joinWaiters e s) q = portOf s q := by cases q <;> rfl

@[simp] theorem joinFetch_pending (e : Entry) (s : State) : (joinFetch e s).pending = s.pending := rfl
@[simp] theorem joinFetch_ports (e : Entry) (s : State) : (joinFetch e s).ports = s.ports := rfl
@[simp] theorem joinFetch_lastGranted (e : Entry) (s : State) : (joinFetch e s).lastGranted = s.lastGranted := rfl
@[simp] theorem joinFetch_queue (e : Entry) (s : State) : (joinFetch e s).queue = s.queue := rfl
@[simp] theorem joinFetch_spaceWait (e : Entry) (s : State) : (joinFetch e s).spaceWait = s.spaceWait := rfl
@[simp] theorem joinFetch_directory (e : Entry) (s : State) : (joinFetch e s).directory = s.directory := rfl
@[simp] theorem joinFetch_built (e : Entry) (s : State) : (joinFetch e s).built = s.built := rfl
@[simp] theorem joinFetch_cells (e : Entry) (s : State) : (joinFetch e s).cells = s.cells := rfl
@[simp] theorem joinFetch_op (e : Entry) (s : State) : (joinFetch e s).op = s.op := rfl
@[simp] theorem joinFetch_markerRequest (e : Entry) (s : State) : (joinFetch e s).markerRequest = s.markerRequest := rfl
@[simp] theorem joinFetch_mode (e : Entry) (s : State) : (joinFetch e s).mode = s.mode := rfl
@[simp] theorem joinFetch_starvation (e : Entry) (s : State) : (joinFetch e s).starvation = s.starvation := rfl
@[simp] theorem joinFetch_spares (e : Entry) (s : State) : (joinFetch e s).spares = s.spares := rfl
@[simp] theorem joinFetch_scanNext (e : Entry) (s : State) : (joinFetch e s).scanNext = s.scanNext := rfl
@[simp] theorem joinFetch_claims (e : Entry) (s : State) : (joinFetch e s).claims = s.claims := rfl
@[simp] theorem joinFetch_watches (e : Entry) (s : State) : (joinFetch e s).watches = s.watches := rfl
@[simp] theorem joinFetch_partState (e : Entry) (s : State) : (joinFetch e s).partState = s.partState := rfl
@[simp] theorem joinFetch_resetCause (e : Entry) (s : State) : (joinFetch e s).resetCause = s.resetCause := rfl
@[simp] theorem joinFetch_verdict (e : Entry) (s : State) : (joinFetch e s).verdict = s.verdict := rfl
@[simp] theorem joinFetch_markerFault (e : Entry) (s : State) : (joinFetch e s).markerFault = s.markerFault := rfl
@[simp] theorem joinFetch_scanOrder (e : Entry) (s : State) : (joinFetch e s).scanOrder = s.scanOrder := rfl
@[simp] theorem joinFetch_markerSeq (e : Entry) (s : State) : (joinFetch e s).markerSeq = s.markerSeq := rfl
@[simp] theorem joinFetch_pfwAsserted (e : Entry) (s : State) : (joinFetch e s).pfwAsserted = s.pfwAsserted := rfl
@[simp] theorem joinFetch_resetHold (e : Entry) (s : State) : (joinFetch e s).resetHold = s.resetHold := rfl
@[simp] theorem joinFetch_portOf (e : Entry) (s : State) (q : PortId) : portOf (joinFetch e s) q = portOf s q := by cases q <;> rfl

@[simp] theorem takeFrame_pending (p : PortId) (id : Nat) (f : RxFrame) (rest : List RxFrame) (s : State) : (takeFrame p id f rest s).pending = s.pending := rfl
@[simp] theorem takeFrame_lastGranted (p : PortId) (id : Nat) (f : RxFrame) (rest : List RxFrame) (s : State) : (takeFrame p id f rest s).lastGranted = s.lastGranted := rfl
@[simp] theorem takeFrame_queue (p : PortId) (id : Nat) (f : RxFrame) (rest : List RxFrame) (s : State) : (takeFrame p id f rest s).queue = s.queue := rfl
@[simp] theorem takeFrame_spaceWait (p : PortId) (id : Nat) (f : RxFrame) (rest : List RxFrame) (s : State) : (takeFrame p id f rest s).spaceWait = s.spaceWait := rfl
@[simp] theorem takeFrame_directory (p : PortId) (id : Nat) (f : RxFrame) (rest : List RxFrame) (s : State) : (takeFrame p id f rest s).directory = s.directory := rfl
@[simp] theorem takeFrame_built (p : PortId) (id : Nat) (f : RxFrame) (rest : List RxFrame) (s : State) : (takeFrame p id f rest s).built = s.built := rfl
@[simp] theorem takeFrame_cells (p : PortId) (id : Nat) (f : RxFrame) (rest : List RxFrame) (s : State) : (takeFrame p id f rest s).cells = s.cells := rfl
@[simp] theorem takeFrame_op (p : PortId) (id : Nat) (f : RxFrame) (rest : List RxFrame) (s : State) : (takeFrame p id f rest s).op = s.op := rfl
@[simp] theorem takeFrame_markerRequest (p : PortId) (id : Nat) (f : RxFrame) (rest : List RxFrame) (s : State) : (takeFrame p id f rest s).markerRequest = s.markerRequest := rfl
@[simp] theorem takeFrame_fetchWait (p : PortId) (id : Nat) (f : RxFrame) (rest : List RxFrame) (s : State) : (takeFrame p id f rest s).fetchWait = s.fetchWait := rfl
@[simp] theorem takeFrame_mode (p : PortId) (id : Nat) (f : RxFrame) (rest : List RxFrame) (s : State) : (takeFrame p id f rest s).mode = s.mode := rfl
@[simp] theorem takeFrame_starvation (p : PortId) (id : Nat) (f : RxFrame) (rest : List RxFrame) (s : State) : (takeFrame p id f rest s).starvation = s.starvation := rfl
@[simp] theorem takeFrame_spares (p : PortId) (id : Nat) (f : RxFrame) (rest : List RxFrame) (s : State) : (takeFrame p id f rest s).spares = s.spares := rfl
@[simp] theorem takeFrame_scanNext (p : PortId) (id : Nat) (f : RxFrame) (rest : List RxFrame) (s : State) : (takeFrame p id f rest s).scanNext = s.scanNext := rfl
@[simp] theorem takeFrame_claims (p : PortId) (id : Nat) (f : RxFrame) (rest : List RxFrame) (s : State) : (takeFrame p id f rest s).claims = s.claims := rfl
@[simp] theorem takeFrame_watches (p : PortId) (id : Nat) (f : RxFrame) (rest : List RxFrame) (s : State) : (takeFrame p id f rest s).watches = s.watches := rfl
@[simp] theorem takeFrame_partState (p : PortId) (id : Nat) (f : RxFrame) (rest : List RxFrame) (s : State) : (takeFrame p id f rest s).partState = s.partState := rfl
@[simp] theorem takeFrame_resetCause (p : PortId) (id : Nat) (f : RxFrame) (rest : List RxFrame) (s : State) : (takeFrame p id f rest s).resetCause = s.resetCause := rfl
@[simp] theorem takeFrame_verdict (p : PortId) (id : Nat) (f : RxFrame) (rest : List RxFrame) (s : State) : (takeFrame p id f rest s).verdict = s.verdict := rfl
@[simp] theorem takeFrame_markerFault (p : PortId) (id : Nat) (f : RxFrame) (rest : List RxFrame) (s : State) : (takeFrame p id f rest s).markerFault = s.markerFault := rfl
@[simp] theorem takeFrame_scanOrder (p : PortId) (id : Nat) (f : RxFrame) (rest : List RxFrame) (s : State) : (takeFrame p id f rest s).scanOrder = s.scanOrder := rfl
@[simp] theorem takeFrame_markerSeq (p : PortId) (id : Nat) (f : RxFrame) (rest : List RxFrame) (s : State) : (takeFrame p id f rest s).markerSeq = s.markerSeq := rfl
@[simp] theorem takeFrame_pfwAsserted (p : PortId) (id : Nat) (f : RxFrame) (rest : List RxFrame) (s : State) : (takeFrame p id f rest s).pfwAsserted = s.pfwAsserted := rfl
@[simp] theorem takeFrame_resetHold (p : PortId) (id : Nat) (f : RxFrame) (rest : List RxFrame) (s : State) : (takeFrame p id f rest s).resetHold = s.resetHold := rfl

@[simp] theorem startFetch_pending (e : Entry) (s : State) : (startFetch e s).pending = s.pending := rfl
@[simp] theorem startFetch_ports (e : Entry) (s : State) : (startFetch e s).ports = s.ports := rfl
@[simp] theorem startFetch_lastGranted (e : Entry) (s : State) : (startFetch e s).lastGranted = s.lastGranted := rfl
@[simp] theorem startFetch_queue (e : Entry) (s : State) : (startFetch e s).queue = s.queue := rfl
@[simp] theorem startFetch_spaceWait (e : Entry) (s : State) : (startFetch e s).spaceWait = s.spaceWait := rfl
@[simp] theorem startFetch_directory (e : Entry) (s : State) : (startFetch e s).directory = s.directory := rfl
@[simp] theorem startFetch_built (e : Entry) (s : State) : (startFetch e s).built = s.built := rfl
@[simp] theorem startFetch_cells (e : Entry) (s : State) : (startFetch e s).cells = s.cells := rfl
@[simp] theorem startFetch_markerRequest (e : Entry) (s : State) : (startFetch e s).markerRequest = s.markerRequest := rfl
@[simp] theorem startFetch_fetchWait (e : Entry) (s : State) : (startFetch e s).fetchWait = s.fetchWait := rfl
@[simp] theorem startFetch_mode (e : Entry) (s : State) : (startFetch e s).mode = s.mode := rfl
@[simp] theorem startFetch_spares (e : Entry) (s : State) : (startFetch e s).spares = s.spares := rfl
@[simp] theorem startFetch_scanNext (e : Entry) (s : State) : (startFetch e s).scanNext = s.scanNext := rfl
@[simp] theorem startFetch_claims (e : Entry) (s : State) : (startFetch e s).claims = s.claims := rfl
@[simp] theorem startFetch_watches (e : Entry) (s : State) : (startFetch e s).watches = s.watches := rfl
@[simp] theorem startFetch_partState (e : Entry) (s : State) : (startFetch e s).partState = s.partState := rfl
@[simp] theorem startFetch_resetCause (e : Entry) (s : State) : (startFetch e s).resetCause = s.resetCause := rfl
@[simp] theorem startFetch_verdict (e : Entry) (s : State) : (startFetch e s).verdict = s.verdict := rfl
@[simp] theorem startFetch_markerFault (e : Entry) (s : State) : (startFetch e s).markerFault = s.markerFault := rfl
@[simp] theorem startFetch_scanOrder (e : Entry) (s : State) : (startFetch e s).scanOrder = s.scanOrder := rfl
@[simp] theorem startFetch_markerSeq (e : Entry) (s : State) : (startFetch e s).markerSeq = s.markerSeq := rfl
@[simp] theorem startFetch_pfwAsserted (e : Entry) (s : State) : (startFetch e s).pfwAsserted = s.pfwAsserted := rfl
@[simp] theorem startFetch_resetHold (e : Entry) (s : State) : (startFetch e s).resetHold = s.resetHold := rfl
@[simp] theorem startFetch_portOf (e : Entry) (s : State) (q : PortId) : portOf (startFetch e s) q = portOf s q := by cases q <;> rfl

@[simp] theorem setFetchWait_fetchWait (l : List Nat) (s : State) : (setFetchWait l s).fetchWait = l := rfl

@[simp] theorem takeFrame_table (p : PortId) (id : Nat) (f : RxFrame) (rest : List RxFrame) (s : State) :
    (takeFrame p id f rest s).table = s.table ++ [newEntry id p f] := rfl

theorem takeFrame_portOf_same (p : PortId) (id : Nat) (f : RxFrame) (rest : List RxFrame) (s : State) :
    portOf (takeFrame p id f rest s) p = { portOf s p with rxBuffer := rest } := by cases p <;> rfl

theorem takeFrame_portOf_other (p q : PortId) (id : Nat) (f : RxFrame) (rest : List RxFrame) (s : State) (h : q ≠ p) :
    portOf (takeFrame p id f rest s) q = portOf s q := by
  cases p <;> cases q <;> first | rfl | exact absurd rfl h

end Sys2Proof.Machine
end

