-- ==== Sys2Proof/Laws/Frames.lean ====
section
/-! SUPPORT. What each shared operation leaves as it was: one equation of states with the touched fields blotted out, and
one lemma a field. -/

namespace Sys2Proof.Machine

/-! ### Blotting out -/

/-- The state with its ports blotted out. -/
def State.lessPorts (s : State) : State :=
  { s with ports := State.reset.ports }

/-- The state with ports and request table blotted out: what the placing of answers and notices keeps. -/
def State.lessTraffic (s : State) : State :=
  { s with ports := State.reset.ports, table := [] }

/-- The state with ports, request table, queue, mode and space-waiter list blotted out: what deciding changes keeps. -/
def State.lessQueueing (s : State) : State :=
  { s with ports := State.reset.ports, table := [], queue := [], mode := .scan, spaceWait := [] }

/-- The state with all blotted out that the controller's choice may touch. -/
def State.lessChoice (s : State) : State :=
  { s with ports := State.reset.ports, table := [], fetchWait := [], starvation := 0, op := none, queue := [], scanNext := 0, markerRequest := none, markerSeq := none }

/-- Equal but for what is blotted out: the second state is the first with those fields set. -/
theorem eq_of_lessPorts {s t : State} (h : t.lessPorts = s.lessPorts) :
    t = { s with ports := t.ports } := by
  cases s; cases t; simp only [State.lessPorts, State.mk.injEq] at h ⊢; simp [h]

theorem lessPorts_of_eq {s t : State}
    (h : t = { s with ports := t.ports }) : t.lessPorts = s.lessPorts := by
  rw [h]; rfl

/-- Equal but for what is blotted out: the second state is the first with those fields set. -/
theorem eq_of_lessTraffic {s t : State} (h : t.lessTraffic = s.lessTraffic) :
    t = { s with ports := t.ports, table := t.table } := by
  cases s; cases t; simp only [State.lessTraffic, State.mk.injEq] at h ⊢; simp [h]

theorem lessTraffic_of_eq {s t : State}
    (h : t = { s with ports := t.ports, table := t.table }) : t.lessTraffic = s.lessTraffic := by
  rw [h]; rfl

/-- Equal but for what is blotted out: the second state is the first with those fields set. -/
theorem eq_of_lessQueueing {s t : State} (h : t.lessQueueing = s.lessQueueing) :
    t = { s with ports := t.ports, table := t.table, queue := t.queue, mode := t.mode, spaceWait := t.spaceWait } := by
  cases s; cases t; simp only [State.lessQueueing, State.mk.injEq] at h ⊢; simp [h]

theorem lessQueueing_of_eq {s t : State}
    (h : t = { s with ports := t.ports, table := t.table, queue := t.queue, mode := t.mode, spaceWait := t.spaceWait }) : t.lessQueueing = s.lessQueueing := by
  rw [h]; rfl

/-- Equal but for what is blotted out: the second state is the first with those fields set. -/
theorem eq_of_lessChoice {s t : State} (h : t.lessChoice = s.lessChoice) :
    t = { s with ports := t.ports, table := t.table, fetchWait := t.fetchWait, starvation := t.starvation, op := t.op, queue := t.queue, scanNext := t.scanNext, markerRequest := t.markerRequest, markerSeq := t.markerSeq } := by
  cases s; cases t; simp only [State.lessChoice, State.mk.injEq] at h ⊢; simp [h]

theorem lessChoice_of_eq {s t : State}
    (h : t = { s with ports := t.ports, table := t.table, fetchWait := t.fetchWait, starvation := t.starvation, op := t.op, queue := t.queue, scanNext := t.scanNext, markerRequest := t.markerRequest, markerSeq := t.markerSeq }) : t.lessChoice = s.lessChoice := by
  rw [h]; rfl

theorem pending_of_lessPorts {s t : State} (h : t.lessPorts = s.lessPorts) : t.pending = s.pending :=
  (congrArg State.pending h :)
theorem table_of_lessPorts {s t : State} (h : t.lessPorts = s.lessPorts) : t.table = s.table :=
  (congrArg State.table h :)
theorem lastGranted_of_lessPorts {s t : State} (h : t.lessPorts = s.lessPorts) : t.lastGranted = s.lastGranted :=
  (congrArg State.lastGranted h :)
theorem queue_of_lessPorts {s t : State} (h : t.lessPorts = s.lessPorts) : t.queue = s.queue :=
  (congrArg State.queue h :)
theorem spaceWait_of_lessPorts {s t : State} (h : t.lessPorts = s.lessPorts) : t.spaceWait = s.spaceWait :=
  (congrArg State.spaceWait h :)
theorem directory_of_lessPorts {s t : State} (h : t.lessPorts = s.lessPorts) : t.directory = s.directory :=
  (congrArg State.directory h :)
theorem built_of_lessPorts {s t : State} (h : t.lessPorts = s.lessPorts) : t.built = s.built :=
  (congrArg State.built h :)
theorem cells_of_lessPorts {s t : State} (h : t.lessPorts = s.lessPorts) : t.cells = s.cells :=
  (congrArg State.cells h :)
theorem op_of_lessPorts {s t : State} (h : t.lessPorts = s.lessPorts) : t.op = s.op :=
  (congrArg State.op h :)
theorem markerRequest_of_lessPorts {s t : State} (h : t.lessPorts = s.lessPorts) : t.markerRequest = s.markerRequest :=
  (congrArg State.markerRequest h :)
theorem fetchWait_of_lessPorts {s t : State} (h : t.lessPorts = s.lessPorts) : t.fetchWait = s.fetchWait :=
  (congrArg State.fetchWait h :)
theorem mode_of_lessPorts {s t : State} (h : t.lessPorts = s.lessPorts) : t.mode = s.mode :=
  (congrArg State.mode h :)
theorem starvation_of_lessPorts {s t : State} (h : t.lessPorts = s.lessPorts) : t.starvation = s.starvation :=
  (congrArg State.starvation h :)
theorem spares_of_lessPorts {s t : State} (h : t.lessPorts = s.lessPorts) : t.spares = s.spares :=
  (congrArg State.spares h :)
theorem scanNext_of_lessPorts {s t : State} (h : t.lessPorts = s.lessPorts) : t.scanNext = s.scanNext :=
  (congrArg State.scanNext h :)
theorem claims_of_lessPorts {s t : State} (h : t.lessPorts = s.lessPorts) : t.claims = s.claims :=
  (congrArg State.claims h :)
theorem watches_of_lessPorts {s t : State} (h : t.lessPorts = s.lessPorts) : t.watches = s.watches :=
  (congrArg State.watches h :)
theorem partState_of_lessPorts {s t : State} (h : t.lessPorts = s.lessPorts) : t.partState = s.partState :=
  (congrArg State.partState h :)
theorem resetCause_of_lessPorts {s t : State} (h : t.lessPorts = s.lessPorts) : t.resetCause = s.resetCause :=
  (congrArg State.resetCause h :)
theorem verdict_of_lessPorts {s t : State} (h : t.lessPorts = s.lessPorts) : t.verdict = s.verdict :=
  (congrArg State.verdict h :)
theorem markerFault_of_lessPorts {s t : State} (h : t.lessPorts = s.lessPorts) : t.markerFault = s.markerFault :=
  (congrArg State.markerFault h :)
theorem scanOrder_of_lessPorts {s t : State} (h : t.lessPorts = s.lessPorts) : t.scanOrder = s.scanOrder :=
  (congrArg State.scanOrder h :)
theorem markerSeq_of_lessPorts {s t : State} (h : t.lessPorts = s.lessPorts) : t.markerSeq = s.markerSeq :=
  (congrArg State.markerSeq h :)
theorem pfwAsserted_of_lessPorts {s t : State} (h : t.lessPorts = s.lessPorts) : t.pfwAsserted = s.pfwAsserted :=
  (congrArg State.pfwAsserted h :)
theorem resetHold_of_lessPorts {s t : State} (h : t.lessPorts = s.lessPorts) : t.resetHold = s.resetHold :=
  (congrArg State.resetHold h :)

theorem pending_of_lessTraffic {s t : State} (h : t.lessTraffic = s.lessTraffic) : t.pending = s.pending :=
  (congrArg State.pending h :)
theorem lastGranted_of_lessTraffic {s t : State} (h : t.lessTraffic = s.lessTraffic) : t.lastGranted = s.lastGranted :=
  (congrArg State.lastGranted h :)
theorem queue_of_lessTraffic {s t : State} (h : t.lessTraffic = s.lessTraffic) : t.queue = s.queue :=
  (congrArg State.queue h :)
theorem spaceWait_of_lessTraffic {s t : State} (h : t.lessTraffic = s.lessTraffic) : t.spaceWait = s.spaceWait :=
  (congrArg State.spaceWait h :)
theorem directory_of_lessTraffic {s t : State} (h : t.lessTraffic = s.lessTraffic) : t.directory = s.directory :=
  (congrArg State.directory h :)
theorem built_of_lessTraffic {s t : State} (h : t.lessTraffic = s.lessTraffic) : t.built = s.built :=
  (congrArg State.built h :)
theorem cells_of_lessTraffic {s t : State} (h : t.lessTraffic = s.lessTraffic) : t.cells = s.cells :=
  (congrArg State.cells h :)
theorem op_of_lessTraffic {s t : State} (h : t.lessTraffic = s.lessTraffic) : t.op = s.op :=
  (congrArg State.op h :)
theorem markerRequest_of_lessTraffic {s t : State} (h : t.lessTraffic = s.lessTraffic) : t.markerRequest = s.markerRequest :=
  (congrArg State.markerRequest h :)
theorem fetchWait_of_lessTraffic {s t : State} (h : t.lessTraffic = s.lessTraffic) : t.fetchWait = s.fetchWait :=
  (congrArg State.fetchWait h :)
theorem mode_of_lessTraffic {s t : State} (h : t.lessTraffic = s.lessTraffic) : t.mode = s.mode :=
  (congrArg State.mode h :)
theorem starvation_of_lessTraffic {s t : State} (h : t.lessTraffic = s.lessTraffic) : t.starvation = s.starvation :=
  (congrArg State.starvation h :)
theorem spares_of_lessTraffic {s t : State} (h : t.lessTraffic = s.lessTraffic) : t.spares = s.spares :=
  (congrArg State.spares h :)
theorem scanNext_of_lessTraffic {s t : State} (h : t.lessTraffic = s.lessTraffic) : t.scanNext = s.scanNext :=
  (congrArg State.scanNext h :)
theorem claims_of_lessTraffic {s t : State} (h : t.lessTraffic = s.lessTraffic) : t.claims = s.claims :=
  (congrArg State.claims h :)
theorem watches_of_lessTraffic {s t : State} (h : t.lessTraffic = s.lessTraffic) : t.watches = s.watches :=
  (congrArg State.watches h :)
theorem partState_of_lessTraffic {s t : State} (h : t.lessTraffic = s.lessTraffic) : t.partState = s.partState :=
  (congrArg State.partState h :)
theorem resetCause_of_lessTraffic {s t : State} (h : t.lessTraffic = s.lessTraffic) : t.resetCause = s.resetCause :=
  (congrArg State.resetCause h :)
theorem verdict_of_lessTraffic {s t : State} (h : t.lessTraffic = s.lessTraffic) : t.verdict = s.verdict :=
  (congrArg State.verdict h :)
theorem markerFault_of_lessTraffic {s t : State} (h : t.lessTraffic = s.lessTraffic) : t.markerFault = s.markerFault :=
  (congrArg State.markerFault h :)
theorem scanOrder_of_lessTraffic {s t : State} (h : t.lessTraffic = s.lessTraffic) : t.scanOrder = s.scanOrder :=
  (congrArg State.scanOrder h :)
theorem markerSeq_of_lessTraffic {s t : State} (h : t.lessTraffic = s.lessTraffic) : t.markerSeq = s.markerSeq :=
  (congrArg State.markerSeq h :)
theorem pfwAsserted_of_lessTraffic {s t : State} (h : t.lessTraffic = s.lessTraffic) : t.pfwAsserted = s.pfwAsserted :=
  (congrArg State.pfwAsserted h :)
theorem resetHold_of_lessTraffic {s t : State} (h : t.lessTraffic = s.lessTraffic) : t.resetHold = s.resetHold :=
  (congrArg State.resetHold h :)

theorem pending_of_lessQueueing {s t : State} (h : t.lessQueueing = s.lessQueueing) : t.pending = s.pending :=
  (congrArg State.pending h :)
theorem lastGranted_of_lessQueueing {s t : State} (h : t.lessQueueing = s.lessQueueing) : t.lastGranted = s.lastGranted :=
  (congrArg State.lastGranted h :)
theorem directory_of_lessQueueing {s t : State} (h : t.lessQueueing = s.lessQueueing) : t.directory = s.directory :=
  (congrArg State.directory h :)
theorem built_of_lessQueueing {s t : State} (h : t.lessQueueing = s.lessQueueing) : t.built = s.built :=
  (congrArg State.built h :)
theorem cells_of_lessQueueing {s t : State} (h : t.lessQueueing = s.lessQueueing) : t.cells = s.cells :=
  (congrArg State.cells h :)
theorem op_of_lessQueueing {s t : State} (h : t.lessQueueing = s.lessQueueing) : t.op = s.op :=
  (congrArg State.op h :)
theorem markerRequest_of_lessQueueing {s t : State} (h : t.lessQueueing = s.lessQueueing) : t.markerRequest = s.markerRequest :=
  (congrArg State.markerRequest h :)
theorem fetchWait_of_lessQueueing {s t : State} (h : t.lessQueueing = s.lessQueueing) : t.fetchWait = s.fetchWait :=
  (congrArg State.fetchWait h :)
theorem starvation_of_lessQueueing {s t : State} (h : t.lessQueueing = s.lessQueueing) : t.starvation = s.starvation :=
  (congrArg State.starvation h :)
theorem spares_of_lessQueueing {s t : State} (h : t.lessQueueing = s.lessQueueing) : t.spares = s.spares :=
  (congrArg State.spares h :)
theorem scanNext_of_lessQueueing {s t : State} (h : t.lessQueueing = s.lessQueueing) : t.scanNext = s.scanNext :=
  (congrArg State.scanNext h :)
theorem claims_of_lessQueueing {s t : State} (h : t.lessQueueing = s.lessQueueing) : t.claims = s.claims :=
  (congrArg State.claims h :)
theorem watches_of_lessQueueing {s t : State} (h : t.lessQueueing = s.lessQueueing) : t.watches = s.watches :=
  (congrArg State.watches h :)
theorem partState_of_lessQueueing {s t : State} (h : t.lessQueueing = s.lessQueueing) : t.partState = s.partState :=
  (congrArg State.partState h :)
theorem resetCause_of_lessQueueing {s t : State} (h : t.lessQueueing = s.lessQueueing) : t.resetCause = s.resetCause :=
  (congrArg State.resetCause h :)
theorem verdict_of_lessQueueing {s t : State} (h : t.lessQueueing = s.lessQueueing) : t.verdict = s.verdict :=
  (congrArg State.verdict h :)
theorem markerFault_of_lessQueueing {s t : State} (h : t.lessQueueing = s.lessQueueing) : t.markerFault = s.markerFault :=
  (congrArg State.markerFault h :)
theorem scanOrder_of_lessQueueing {s t : State} (h : t.lessQueueing = s.lessQueueing) : t.scanOrder = s.scanOrder :=
  (congrArg State.scanOrder h :)
theorem markerSeq_of_lessQueueing {s t : State} (h : t.lessQueueing = s.lessQueueing) : t.markerSeq = s.markerSeq :=
  (congrArg State.markerSeq h :)
theorem pfwAsserted_of_lessQueueing {s t : State} (h : t.lessQueueing = s.lessQueueing) : t.pfwAsserted = s.pfwAsserted :=
  (congrArg State.pfwAsserted h :)
theorem resetHold_of_lessQueueing {s t : State} (h : t.lessQueueing = s.lessQueueing) : t.resetHold = s.resetHold :=
  (congrArg State.resetHold h :)

theorem pending_of_lessChoice {s t : State} (h : t.lessChoice = s.lessChoice) : t.pending = s.pending :=
  (congrArg State.pending h :)
theorem lastGranted_of_lessChoice {s t : State} (h : t.lessChoice = s.lessChoice) : t.lastGranted = s.lastGranted :=
  (congrArg State.lastGranted h :)
theorem spaceWait_of_lessChoice {s t : State} (h : t.lessChoice = s.lessChoice) : t.spaceWait = s.spaceWait :=
  (congrArg State.spaceWait h :)
theorem directory_of_lessChoice {s t : State} (h : t.lessChoice = s.lessChoice) : t.directory = s.directory :=
  (congrArg State.directory h :)
theorem built_of_lessChoice {s t : State} (h : t.lessChoice = s.lessChoice) : t.built = s.built :=
  (congrArg State.built h :)
theorem cells_of_lessChoice {s t : State} (h : t.lessChoice = s.lessChoice) : t.cells = s.cells :=
  (congrArg State.cells h :)
theorem mode_of_lessChoice {s t : State} (h : t.lessChoice = s.lessChoice) : t.mode = s.mode :=
  (congrArg State.mode h :)
theorem spares_of_lessChoice {s t : State} (h : t.lessChoice = s.lessChoice) : t.spares = s.spares :=
  (congrArg State.spares h :)
theorem claims_of_lessChoice {s t : State} (h : t.lessChoice = s.lessChoice) : t.claims = s.claims :=
  (congrArg State.claims h :)
theorem watches_of_lessChoice {s t : State} (h : t.lessChoice = s.lessChoice) : t.watches = s.watches :=
  (congrArg State.watches h :)
theorem partState_of_lessChoice {s t : State} (h : t.lessChoice = s.lessChoice) : t.partState = s.partState :=
  (congrArg State.partState h :)
theorem resetCause_of_lessChoice {s t : State} (h : t.lessChoice = s.lessChoice) : t.resetCause = s.resetCause :=
  (congrArg State.resetCause h :)
theorem verdict_of_lessChoice {s t : State} (h : t.lessChoice = s.lessChoice) : t.verdict = s.verdict :=
  (congrArg State.verdict h :)
theorem markerFault_of_lessChoice {s t : State} (h : t.lessChoice = s.lessChoice) : t.markerFault = s.markerFault :=
  (congrArg State.markerFault h :)
theorem scanOrder_of_lessChoice {s t : State} (h : t.lessChoice = s.lessChoice) : t.scanOrder = s.scanOrder :=
  (congrArg State.scanOrder h :)
theorem pfwAsserted_of_lessChoice {s t : State} (h : t.lessChoice = s.lessChoice) : t.pfwAsserted = s.pfwAsserted :=
  (congrArg State.pfwAsserted h :)
theorem resetHold_of_lessChoice {s t : State} (h : t.lessChoice = s.lessChoice) : t.resetHold = s.resetHold :=
  (congrArg State.resetHold h :)

theorem lessTraffic_of_lessPorts {s t : State} (h : t.lessPorts = s.lessPorts) : t.lessTraffic = s.lessTraffic :=
  (congrArg State.lessTraffic h :)

theorem lessQueueing_of_lessTraffic {s t : State} (h : t.lessTraffic = s.lessTraffic) : t.lessQueueing = s.lessQueueing :=
  (congrArg State.lessQueueing h :)

theorem lessChoice_of_lessTraffic {s t : State} (h : t.lessTraffic = s.lessTraffic) : t.lessChoice = s.lessChoice :=
  (congrArg State.lessChoice h :)

/-! ### Ports alone -/

theorem updPort_frame (p : PortId) (f : Port → Port) (s : State) : (updPort p f s).lessPorts = s.lessPorts := rfl

theorem notify_frame (n : Notice) (p : PortId) (s : State) : (notify n p s).lessPorts = s.lessPorts := by
  unfold notify; split <;> rfl

theorem placeLinkup_frame (p : PortId) (s : State) : (placeLinkup p s).lessPorts = s.lessPorts := rfl

theorem forPorts_frame {β : Type} (blot : State → β) (f : PortId → State → State)
    (h : ∀ p s, blot (f p s) = blot s) (s : State) : blot (forPorts f s) = blot s := by
  simp only [forPorts, h]

theorem reportChange_frame (p : PortId) (r : Nat) (v : Half) (kind : ChangeKind) (s : State) :
    (reportChange p r v kind s).lessPorts = s.lessPorts :=
  forPorts_frame State.lessPorts _ (fun q s => by split; exacts [notify_frame _ _ _, rfl]) s

theorem reportFault_frame (r : Nat) (v : Half) (origins : PortSet) (s : State) :
    (reportFault r v origins s).lessPorts = s.lessPorts :=
  forPorts_frame State.lessPorts _ (fun q s => by split; exacts [notify_frame _ _ _, rfl]) s

theorem announce_frame (s : State) : (announce s).lessPorts = s.lessPorts :=
  forPorts_frame State.lessPorts _ (fun _ _ => notify_frame _ _ _) s

theorem notifyExpired_frame (l : List (Nat × Claim)) (s : State) : (notifyExpired l s).lessPorts = s.lessPorts := by
  induction l generalizing s with
  | nil => rfl
  | cons c l ih => rw [notifyExpired, ih]; exact notify_frame _ _ _

theorem windowCheck_frame (p : PortId) (body : List Byte) (s : State) :
    (windowCheck p body s).lessPorts = s.lessPorts := by
  unfold windowCheck; (repeat' split) <;> rfl

theorem goodFrame_frame (p : PortId) (body : List Byte) (s : State) : (goodFrame p body s).lessPorts = s.lessPorts :=
  windowCheck_frame _ _ _

theorem takeByte_frame (p : PortId) (b : Byte) (good : Bool) (s : State) :
    (takeByte p b good s).lessPorts = s.lessPorts := by
  unfold takeByte checkFrame
  dsimp only
  (repeat' split) <;> first | rfl | exact goodFrame_frame _ _ _

/-! ### Ports and request table -/

theorem answer_frame (id : Nat) (a : Answer) (s : State) : (answer id a s).lessTraffic = s.lessTraffic := by
  unfold answer; (repeat' split) <;> rfl

theorem refuse_frame (e : Entry) (code : NakCode) (s : State) : (refuse e code s).lessTraffic = s.lessTraffic :=
  answer_frame _ _ _

theorem placeHeld_frame (p : PortId) (s : State) : (placeHeld p s).lessTraffic = s.lessTraffic := by
  unfold placeHeld; (repeat' split) <;> rfl

theorem dropMarks_frame (p : PortId) (n : Nat) (fault : Bool) (s : State) :
    (dropMarks p n fault s).lessTraffic = s.lessTraffic := by
  unfold dropMarks; (repeat' split) <;> first | rfl | exact answer_frame _ _ _

theorem dropAllMarks_frame (removed : List QueueEntry) (fault : Bool) (s : State) :
    (dropAllMarks removed fault s).lessTraffic = s.lessTraffic :=
  forPorts_frame State.lessTraffic _ (fun _ _ => dropMarks_frame _ _ _ _) s

theorem refuseAll_frame (l : List Nat) (s : State) : (refuseAll l s).lessTraffic = s.lessTraffic := by
  induction l generalizing s with
  | nil => rfl
  | cons id l ih =>
    rw [refuseAll]; split
    · rw [ih]; exact refuse_frame _ _ _
    · exact ih s

theorem frameLeaves_frame (p : PortId) (s : State) : (frameLeaves p s).lessTraffic = s.lessTraffic := by
  unfold frameLeaves
  split
  · rfl
  · split
    · rw [placeHeld_frame]; rfl
    · rfl

theorem outgoingDone_frame (p : PortId) (s : State) : (outgoingDone p s).lessTraffic = s.lessTraffic := by
  unfold outgoingDone
  split
  · split
    · rfl
    · exact frameLeaves_frame _ _
  · rfl

theorem takeFrame_frame (p : PortId) (id : Nat) (f : RxFrame) (rest : List RxFrame) (s : State) :
    (takeFrame p id f rest s).lessTraffic = s.lessTraffic := rfl

theorem exchange_frame (p : PortId) (order : EdgeOrder) (incoming : State → State) (s : State)
    (h : ∀ u, (incoming u).lessTraffic = u.lessTraffic) :
    (exchange p order incoming s).lessTraffic = s.lessTraffic := by
  unfold exchange
  cases order
  · show (outgoingDone p (incoming s)).lessTraffic = _
    rw [outgoingDone_frame, h]
  · show (incoming (outgoingDone p s)).lessTraffic = _
    rw [h, outgoingDone_frame]

theorem exchangeOut_frame (p : PortId) (n : Nat) (s : State) :
    (exchangeOut p n s).lessTraffic = s.lessTraffic := by
  induction n generalizing s with
  | zero => rfl
  | succ n ih => rw [exchangeOut, ih]; exact exchange_frame _ _ _ _ (fun _ => rfl)

/-! ### Deciding changes -/

theorem modeAfterAcceptance_frame (s : State) : (modeAfterAcceptance s).lessQueueing = s.lessQueueing := by
  unfold modeAfterAcceptance; split <;> rfl

theorem modeAfterRemoval_frame (s : State) : (modeAfterRemoval s).lessQueueing = s.lessQueueing := by
  unfold modeAfterRemoval; split <;> rfl

theorem placeChange_frame (p : PortId) (r : Nat) (change : Change) (v : Half) (coalesced : Bool) (s : State) :
    (placeChange p r change v coalesced s).lessQueueing = s.lessQueueing := by
  unfold placeChange; rw [modeAfterAcceptance_frame]; rfl

theorem acceptChange_frame (e : Entry) (coalesced : Bool) (s : State) :
    (acceptChange e coalesced s).lessQueueing = s.lessQueueing := by
  unfold acceptChange; dsimp only
  rw [lessQueueing_of_lessTraffic (lessTraffic_of_lessPorts (reportChange_frame _ _ _ _ _)),
    lessQueueing_of_lessTraffic (answer_frame _ _ _), placeChange_frame]

theorem settleChange_frame (e : Entry) (d : Decision) (s : State) :
    (settleChange e d s).lessQueueing = s.lessQueueing := by
  cases d
  · exact lessQueueing_of_lessTraffic (refuse_frame _ _ _)
  · exact acceptChange_frame _ _ _
  · exact acceptChange_frame _ _ _
  · rfl

theorem handleChange_frame (e : Entry) (s : State) : (handleChange e s).lessQueueing = s.lessQueueing := by
  unfold handleChange
  (repeat' split) <;> first | rfl | exact settleChange_frame _ _ _

theorem retryWalk_frame (l : List Nat) (blocked : PortSet) (s : State) :
    (retryWalk l blocked s).lessQueueing = s.lessQueueing := by
  induction l generalizing blocked s with
  | nil => rfl
  | cons id l ih =>
    rw [retryWalk]
    (repeat' split) <;> first | exact ih _ _ | (rw [ih, settleChange_frame]; rfl)

theorem retryPass_frame (s : State) : (retryPass s).lessQueueing = s.lessQueueing := retryWalk_frame _ _ _

/-! ### The choice -/

theorem takeReads_frame (l : List Nat) (s : State) : (takeReads l s).lessChoice = s.lessChoice := by
  induction l generalizing s with
  | nil => rfl
  | cons id l ih =>
    rw [takeReads]
    (repeat' split)
    · rw [ih]; rfl
    · rw [ih, lessChoice_of_lessTraffic (answer_frame _ _ _)]; rfl
    · rfl

theorem startProgram_frame (s : State) : (startProgram s).lessChoice = s.lessChoice := by
  unfold startProgram; split <;> rfl

theorem orElse_frame {β : Type} (blot : State → β) (f g : State → State) (hf : ∀ s, blot (f s) = blot s)
    (hg : ∀ s, blot (g s) = blot s) (s : State) : blot (orElse f g s) = blot s := by
  unfold orElse; split
  · exact hf s
  · rw [hg, hf]

theorem chooseRead_frame (s : State) : (chooseRead s).lessChoice = s.lessChoice := takeReads_frame _ _

theorem startScan_frame (s : State) : (startScan s).lessChoice = s.lessChoice := by
  unfold startScan; split <;> rfl

theorem chooseByMode_frame (s : State) : (chooseByMode s).lessChoice = s.lessChoice := by
  unfold chooseByMode
  split
  · exact orElse_frame _ _ _ chooseRead_frame startProgram_frame s
  · split
    · exact orElse_frame _ _ _ chooseRead_frame startProgram_frame s
    · exact orElse_frame _ _ _ startProgram_frame chooseRead_frame s
  · exact startProgram_frame s
  · split
    · exact startScan_frame s
    · rfl

theorem choose_frame (s : State) : (choose s).lessChoice = s.lessChoice := by
  unfold choose
  (repeat' split) <;> first | rfl | exact chooseByMode_frame s

theorem chooseIfIdle_frame (s : State) : (chooseIfIdle s).lessChoice = s.lessChoice := by
  unfold chooseIfIdle; split
  · exact choose_frame s
  · rfl

theorem cleanIfDrained_frame (s : State) : (cleanIfDrained s).lessChoice = s.lessChoice := by
  unfold cleanIfDrained; split
  · rw [chooseIfIdle_frame]; rfl
  · rfl

theorem settle_frame (s : State) : (settle s).lessChoice = s.lessChoice := by
  unfold settle; rw [cleanIfDrained_frame, chooseIfIdle_frame]

/-- A busy controller makes no choice. -/
theorem settle_of_busy (s : State) (h : s.op ≠ none) : settle s = s := by
  simp [settle, chooseIfIdle, cleanIfDrained, h]

/-! ### One lemma a field -/

@[simp] theorem notify_pending (n : Notice) (p : PortId) (s : State) :
    (notify n p s).pending = s.pending := pending_of_lessPorts (notify_frame n p s)
@[simp] theorem notify_table (n : Notice) (p : PortId) (s : State) :
    (notify n p s).table = s.table := table_of_lessPorts (notify_frame n p s)
@[simp] theorem notify_lastGranted (n : Notice) (p : PortId) (s : State) :
    (notify n p s).lastGranted = s.lastGranted := lastGranted_of_lessPorts (notify_frame n p s)
@[simp] theorem notify_queue (n : Notice) (p : PortId) (s : State) :
    (notify n p s).queue = s.queue := queue_of_lessPorts (notify_frame n p s)
@[simp] theorem notify_spaceWait (n : Notice) (p : PortId) (s : State) :
    (notify n p s).spaceWait = s.spaceWait := spaceWait_of_lessPorts (notify_frame n p s)
@[simp] theorem notify_directory (n : Notice) (p : PortId) (s : State) :
    (notify n p s).directory = s.directory := directory_of_lessPorts (notify_frame n p s)
@[simp] theorem notify_built (n : Notice) (p : PortId) (s : State) :
    (notify n p s).built = s.built := built_of_lessPorts (notify_frame n p s)
@[simp] theorem notify_cells (n : Notice) (p : PortId) (s : State) :
    (notify n p s).cells = s.cells := cells_of_lessPorts (notify_frame n p s)
@[simp] theorem notify_op (n : Notice) (p : PortId) (s : State) :
    (notify n p s).op = s.op := op_of_lessPorts (notify_frame n p s)
@[simp] theorem notify_markerRequest (n : Notice) (p : PortId) (s : State) :
    (notify n p s).markerRequest = s.markerRequest := markerRequest_of_lessPorts (notify_frame n p s)
@[simp] theorem notify_fetchWait (n : Notice) (p : PortId) (s : State) :
    (notify n p s).fetchWait = s.fetchWait := fetchWait_of_lessPorts (notify_frame n p s)
@[simp] theorem notify_mode (n : Notice) (p : PortId) (s : State) :
    (notify n p s).mode = s.mode := mode_of_lessPorts (notify_frame n p s)
@[simp] theorem notify_starvation (n : Notice) (p : PortId) (s : State) :
    (notify n p s).starvation = s.starvation := starvation_of_lessPorts (notify_frame n p s)
@[simp] theorem notify_spares (n : Notice) (p : PortId) (s : State) :
    (notify n p s).spares = s.spares := spares_of_lessPorts (notify_frame n p s)
@[simp] theorem notify_scanNext (n : Notice) (p : PortId) (s : State) :
    (notify n p s).scanNext = s.scanNext := scanNext_of_lessPorts (notify_frame n p s)
@[simp] theorem notify_claims (n : Notice) (p : PortId) (s : State) :
    (notify n p s).claims = s.claims := claims_of_lessPorts (notify_frame n p s)
@[simp] theorem notify_watches (n : Notice) (p : PortId) (s : State) :
    (notify n p s).watches = s.watches := watches_of_lessPorts (notify_frame n p s)
@[simp] theorem notify_partState (n : Notice) (p : PortId) (s : State) :
    (notify n p s).partState = s.partState := partState_of_lessPorts (notify_frame n p s)
@[simp] theorem notify_resetCause (n : Notice) (p : PortId) (s : State) :
    (notify n p s).resetCause = s.resetCause := resetCause_of_lessPorts (notify_frame n p s)
@[simp] theorem notify_verdict (n : Notice) (p : PortId) (s : State) :
    (notify n p s).verdict = s.verdict := verdict_of_lessPorts (notify_frame n p s)
@[simp] theorem notify_markerFault (n : Notice) (p : PortId) (s : State) :
    (notify n p s).markerFault = s.markerFault := markerFault_of_lessPorts (notify_frame n p s)
@[simp] theorem notify_scanOrder (n : Notice) (p : PortId) (s : State) :
    (notify n p s).scanOrder = s.scanOrder := scanOrder_of_lessPorts (notify_frame n p s)
@[simp] theorem notify_markerSeq (n : Notice) (p : PortId) (s : State) :
    (notify n p s).markerSeq = s.markerSeq := markerSeq_of_lessPorts (notify_frame n p s)
@[simp] theorem notify_pfwAsserted (n : Notice) (p : PortId) (s : State) :
    (notify n p s).pfwAsserted = s.pfwAsserted := pfwAsserted_of_lessPorts (notify_frame n p s)
@[simp] theorem notify_resetHold (n : Notice) (p : PortId) (s : State) :
    (notify n p s).resetHold = s.resetHold := resetHold_of_lessPorts (notify_frame n p s)

@[simp] theorem placeLinkup_pending (p : PortId) (s : State) :
    (placeLinkup p s).pending = s.pending := pending_of_lessPorts (placeLinkup_frame p s)
@[simp] theorem placeLinkup_table (p : PortId) (s : State) :
    (placeLinkup p s).table = s.table := table_of_lessPorts (placeLinkup_frame p s)
@[simp] theorem placeLinkup_lastGranted (p : PortId) (s : State) :
    (placeLinkup p s).lastGranted = s.lastGranted := lastGranted_of_lessPorts (placeLinkup_frame p s)
@[simp] theorem placeLinkup_queue (p : PortId) (s : State) :
    (placeLinkup p s).queue = s.queue := queue_of_lessPorts (placeLinkup_frame p s)
@[simp] theorem placeLinkup_spaceWait (p : PortId) (s : State) :
    (placeLinkup p s).spaceWait = s.spaceWait := spaceWait_of_lessPorts (placeLinkup_frame p s)
@[simp] theorem placeLinkup_directory (p : PortId) (s : State) :
    (placeLinkup p s).directory = s.directory := directory_of_lessPorts (placeLinkup_frame p s)
@[simp] theorem placeLinkup_built (p : PortId) (s : State) :
    (placeLinkup p s).built = s.built := built_of_lessPorts (placeLinkup_frame p s)
@[simp] theorem placeLinkup_cells (p : PortId) (s : State) :
    (placeLinkup p s).cells = s.cells := cells_of_lessPorts (placeLinkup_frame p s)
@[simp] theorem placeLinkup_op (p : PortId) (s : State) :
    (placeLinkup p s).op = s.op := op_of_lessPorts (placeLinkup_frame p s)
@[simp] theorem placeLinkup_markerRequest (p : PortId) (s : State) :
    (placeLinkup p s).markerRequest = s.markerRequest := markerRequest_of_lessPorts (placeLinkup_frame p s)
@[simp] theorem placeLinkup_fetchWait (p : PortId) (s : State) :
    (placeLinkup p s).fetchWait = s.fetchWait := fetchWait_of_lessPorts (placeLinkup_frame p s)
@[simp] theorem placeLinkup_mode (p : PortId) (s : State) :
    (placeLinkup p s).mode = s.mode := mode_of_lessPorts (placeLinkup_frame p s)
@[simp] theorem placeLinkup_starvation (p : PortId) (s : State) :
    (placeLinkup p s).starvation = s.starvation := starvation_of_lessPorts (placeLinkup_frame p s)
@[simp] theorem placeLinkup_spares (p : PortId) (s : State) :
    (placeLinkup p s).spares = s.spares := spares_of_lessPorts (placeLinkup_frame p s)
@[simp] theorem placeLinkup_scanNext (p : PortId) (s : State) :
    (placeLinkup p s).scanNext = s.scanNext := scanNext_of_lessPorts (placeLinkup_frame p s)
@[simp] theorem placeLinkup_claims (p : PortId) (s : State) :
    (placeLinkup p s).claims = s.claims := claims_of_lessPorts (placeLinkup_frame p s)
@[simp] theorem placeLinkup_watches (p : PortId) (s : State) :
    (placeLinkup p s).watches = s.watches := watches_of_lessPorts (placeLinkup_frame p s)
@[simp] theorem placeLinkup_partState (p : PortId) (s : State) :
    (placeLinkup p s).partState = s.partState := partState_of_lessPorts (placeLinkup_frame p s)
@[simp] theorem placeLinkup_resetCause (p : PortId) (s : State) :
    (placeLinkup p s).resetCause = s.resetCause := resetCause_of_lessPorts (placeLinkup_frame p s)
@[simp] theorem placeLinkup_verdict (p : PortId) (s : State) :
    (placeLinkup p s).verdict = s.verdict := verdict_of_lessPorts (placeLinkup_frame p s)
@[simp] theorem placeLinkup_markerFault (p : PortId) (s : State) :
    (placeLinkup p s).markerFault = s.markerFault := markerFault_of_lessPorts (placeLinkup_frame p s)
@[simp] theorem placeLinkup_scanOrder (p : PortId) (s : State) :
    (placeLinkup p s).scanOrder = s.scanOrder := scanOrder_of_lessPorts (placeLinkup_frame p s)
@[simp] theorem placeLinkup_markerSeq (p : PortId) (s : State) :
    (placeLinkup p s).markerSeq = s.markerSeq := markerSeq_of_lessPorts (placeLinkup_frame p s)
@[simp] theorem placeLinkup_pfwAsserted (p : PortId) (s : State) :
    (placeLinkup p s).pfwAsserted = s.pfwAsserted := pfwAsserted_of_lessPorts (placeLinkup_frame p s)
@[simp] theorem placeLinkup_resetHold (p : PortId) (s : State) :
    (placeLinkup p s).resetHold = s.resetHold := resetHold_of_lessPorts (placeLinkup_frame p s)

@[simp] theorem announce_pending (s : State) :
    (announce s).pending = s.pending := pending_of_lessPorts (announce_frame s)
@[simp] theorem announce_table (s : State) :
    (announce s).table = s.table := table_of_lessPorts (announce_frame s)
@[simp] theorem announce_lastGranted (s : State) :
    (announce s).lastGranted = s.lastGranted := lastGranted_of_lessPorts (announce_frame s)
@[simp] theorem announce_queue (s : State) :
    (announce s).queue = s.queue := queue_of_lessPorts (announce_frame s)
@[simp] theorem announce_spaceWait (s : State) :
    (announce s).spaceWait = s.spaceWait := spaceWait_of_lessPorts (announce_frame s)
@[simp] theorem announce_directory (s : State) :
    (announce s).directory = s.directory := directory_of_lessPorts (announce_frame s)
@[simp] theorem announce_built (s : State) :
    (announce s).built = s.built := built_of_lessPorts (announce_frame s)
@[simp] theorem announce_cells (s : State) :
    (announce s).cells = s.cells := cells_of_lessPorts (announce_frame s)
@[simp] theorem announce_op (s : State) :
    (announce s).op = s.op := op_of_lessPorts (announce_frame s)
@[simp] theorem announce_markerRequest (s : State) :
    (announce s).markerRequest = s.markerRequest := markerRequest_of_lessPorts (announce_frame s)
@[simp] theorem announce_fetchWait (s : State) :
    (announce s).fetchWait = s.fetchWait := fetchWait_of_lessPorts (announce_frame s)
@[simp] theorem announce_mode (s : State) :
    (announce s).mode = s.mode := mode_of_lessPorts (announce_frame s)
@[simp] theorem announce_starvation (s : State) :
    (announce s).starvation = s.starvation := starvation_of_lessPorts (announce_frame s)
@[simp] theorem announce_spares (s : State) :
    (announce s).spares = s.spares := spares_of_lessPorts (announce_frame s)
@[simp] theorem announce_scanNext (s : State) :
    (announce s).scanNext = s.scanNext := scanNext_of_lessPorts (announce_frame s)
@[simp] theorem announce_claims (s : State) :
    (announce s).claims = s.claims := claims_of_lessPorts (announce_frame s)
@[simp] theorem announce_watches (s : State) :
    (announce s).watches = s.watches := watches_of_lessPorts (announce_frame s)
@[simp] theorem announce_partState (s : State) :
    (announce s).partState = s.partState := partState_of_lessPorts (announce_frame s)
@[simp] theorem announce_resetCause (s : State) :
    (announce s).resetCause = s.resetCause := resetCause_of_lessPorts (announce_frame s)
@[simp] theorem announce_verdict (s : State) :
    (announce s).verdict = s.verdict := verdict_of_lessPorts (announce_frame s)
@[simp] theorem announce_markerFault (s : State) :
    (announce s).markerFault = s.markerFault := markerFault_of_lessPorts (announce_frame s)
@[simp] theorem announce_scanOrder (s : State) :
    (announce s).scanOrder = s.scanOrder := scanOrder_of_lessPorts (announce_frame s)
@[simp] theorem announce_markerSeq (s : State) :
    (announce s).markerSeq = s.markerSeq := markerSeq_of_lessPorts (announce_frame s)
@[simp] theorem announce_pfwAsserted (s : State) :
    (announce s).pfwAsserted = s.pfwAsserted := pfwAsserted_of_lessPorts (announce_frame s)
@[simp] theorem announce_resetHold (s : State) :
    (announce s).resetHold = s.resetHold := resetHold_of_lessPorts (announce_frame s)

@[simp] theorem reportChange_pending (p : PortId) (r : Nat) (v : Half) (kind : ChangeKind) (s : State) :
    (reportChange p r v kind s).pending = s.pending := pending_of_lessPorts (reportChange_frame p r v kind s)
@[simp] theorem reportChange_table (p : PortId) (r : Nat) (v : Half) (kind : ChangeKind) (s : State) :
    (reportChange p r v kind s).table = s.table := table_of_lessPorts (reportChange_frame p r v kind s)
@[simp] theorem reportChange_lastGranted (p : PortId) (r : Nat) (v : Half) (kind : ChangeKind) (s : State) :
    (reportChange p r v kind s).lastGranted = s.lastGranted := lastGranted_of_lessPorts (reportChange_frame p r v kind s)
@[simp] theorem reportChange_queue (p : PortId) (r : Nat) (v : Half) (kind : ChangeKind) (s : State) :
    (reportChange p r v kind s).queue = s.queue := queue_of_lessPorts (reportChange_frame p r v kind s)
@[simp] theorem reportChange_spaceWait (p : PortId) (r : Nat) (v : Half) (kind : ChangeKind) (s : State) :
    (reportChange p r v kind s).spaceWait = s.spaceWait := spaceWait_of_lessPorts (reportChange_frame p r v kind s)
@[simp] theorem reportChange_directory (p : PortId) (r : Nat) (v : Half) (kind : ChangeKind) (s : State) :
    (reportChange p r v kind s).directory = s.directory := directory_of_lessPorts (reportChange_frame p r v kind s)
@[simp] theorem reportChange_built (p : PortId) (r : Nat) (v : Half) (kind : ChangeKind) (s : State) :
    (reportChange p r v kind s).built = s.built := built_of_lessPorts (reportChange_frame p r v kind s)
@[simp] theorem reportChange_cells (p : PortId) (r : Nat) (v : Half) (kind : ChangeKind) (s : State) :
    (reportChange p r v kind s).cells = s.cells := cells_of_lessPorts (reportChange_frame p r v kind s)
@[simp] theorem reportChange_op (p : PortId) (r : Nat) (v : Half) (kind : ChangeKind) (s : State) :
    (reportChange p r v kind s).op = s.op := op_of_lessPorts (reportChange_frame p r v kind s)
@[simp] theorem reportChange_markerRequest (p : PortId) (r : Nat) (v : Half) (kind : ChangeKind) (s : State) :
    (reportChange p r v kind s).markerRequest = s.markerRequest := markerRequest_of_lessPorts (reportChange_frame p r v kind s)
@[simp] theorem reportChange_fetchWait (p : PortId) (r : Nat) (v : Half) (kind : ChangeKind) (s : State) :
    (reportChange p r v kind s).fetchWait = s.fetchWait := fetchWait_of_lessPorts (reportChange_frame p r v kind s)
@[simp] theorem reportChange_mode (p : PortId) (r : Nat) (v : Half) (kind : ChangeKind) (s : State) :
    (reportChange p r v kind s).mode = s.mode := mode_of_lessPorts (reportChange_frame p r v kind s)
@[simp] theorem reportChange_starvation (p : PortId) (r : Nat) (v : Half) (kind : ChangeKind) (s : State) :
    (reportChange p r v kind s).starvation = s.starvation := starvation_of_lessPorts (reportChange_frame p r v kind s)
@[simp] theorem reportChange_spares (p : PortId) (r : Nat) (v : Half) (kind : ChangeKind) (s : State) :
    (reportChange p r v kind s).spares = s.spares := spares_of_lessPorts (reportChange_frame p r v kind s)
@[simp] theorem reportChange_scanNext (p : PortId) (r : Nat) (v : Half) (kind : ChangeKind) (s : State) :
    (reportChange p r v kind s).scanNext = s.scanNext := scanNext_of_lessPorts (reportChange_frame p r v kind s)
@[simp] theorem reportChange_claims (p : PortId) (r : Nat) (v : Half) (kind : ChangeKind) (s : State) :
    (reportChange p r v kind s).claims = s.claims := claims_of_lessPorts (reportChange_frame p r v kind s)
@[simp] theorem reportChange_watches (p : PortId) (r : Nat) (v : Half) (kind : ChangeKind) (s : State) :
    (reportChange p r v kind s).watches = s.watches := watches_of_lessPorts (reportChange_frame p r v kind s)
@[simp] theorem reportChange_partState (p : PortId) (r : Nat) (v : Half) (kind : ChangeKind) (s : State) :
    (reportChange p r v kind s).partState = s.partState := partState_of_lessPorts (reportChange_frame p r v kind s)
@[simp] theorem reportChange_resetCause (p : PortId) (r : Nat) (v : Half) (kind : ChangeKind) (s : State) :
    (reportChange p r v kind s).resetCause = s.resetCause := resetCause_of_lessPorts (reportChange_frame p r v kind s)
@[simp] theorem reportChange_verdict (p : PortId) (r : Nat) (v : Half) (kind : ChangeKind) (s : State) :
    (reportChange p r v kind s).verdict = s.verdict := verdict_of_lessPorts (reportChange_frame p r v kind s)
@[simp] theorem reportChange_markerFault (p : PortId) (r : Nat) (v : Half) (kind : ChangeKind) (s : State) :
    (reportChange p r v kind s).markerFault = s.markerFault := markerFault_of_lessPorts (reportChange_frame p r v kind s)
@[simp] theorem reportChange_scanOrder (p : PortId) (r : Nat) (v : Half) (kind : ChangeKind) (s : State) :
    (reportChange p r v kind s).scanOrder = s.scanOrder := scanOrder_of_lessPorts (reportChange_frame p r v kind s)
@[simp] theorem reportChange_markerSeq (p : PortId) (r : Nat) (v : Half) (kind : ChangeKind) (s : State) :
    (reportChange p r v kind s).markerSeq = s.markerSeq := markerSeq_of_lessPorts (reportChange_frame p r v kind s)
@[simp] theorem reportChange_pfwAsserted (p : PortId) (r : Nat) (v : Half) (kind : ChangeKind) (s : State) :
    (reportChange p r v kind s).pfwAsserted = s.pfwAsserted := pfwAsserted_of_lessPorts (reportChange_frame p r v kind s)
@[simp] theorem reportChange_resetHold (p : PortId) (r : Nat) (v : Half) (kind : ChangeKind) (s : State) :
    (reportChange p r v kind s).resetHold = s.resetHold := resetHold_of_lessPorts (reportChange_frame p r v kind s)

@[simp] theorem reportFault_pending (r : Nat) (v : Half) (origins : PortSet) (s : State) :
    (reportFault r v origins s).pending = s.pending := pending_of_lessPorts (reportFault_frame r v origins s)
@[simp] theorem reportFault_table (r : Nat) (v : Half) (origins : PortSet) (s : State) :
    (reportFault r v origins s).table = s.table := table_of_lessPorts (reportFault_frame r v origins s)
@[simp] theorem reportFault_lastGranted (r : Nat) (v : Half) (origins : PortSet) (s : State) :
    (reportFault r v origins s).lastGranted = s.lastGranted := lastGranted_of_lessPorts (reportFault_frame r v origins s)
@[simp] theorem reportFault_queue (r : Nat) (v : Half) (origins : PortSet) (s : State) :
    (reportFault r v origins s).queue = s.queue := queue_of_lessPorts (reportFault_frame r v origins s)
@[simp] theorem reportFault_spaceWait (r : Nat) (v : Half) (origins : PortSet) (s : State) :
    (reportFault r v origins s).spaceWait = s.spaceWait := spaceWait_of_lessPorts (reportFault_frame r v origins s)
@[simp] theorem reportFault_directory (r : Nat) (v : Half) (origins : PortSet) (s : State) :
    (reportFault r v origins s).directory = s.directory := directory_of_lessPorts (reportFault_frame r v origins s)
@[simp] theorem reportFault_built (r : Nat) (v : Half) (origins : PortSet) (s : State) :
    (reportFault r v origins s).built = s.built := built_of_lessPorts (reportFault_frame r v origins s)
@[simp] theorem reportFault_cells (r : Nat) (v : Half) (origins : PortSet) (s : State) :
    (reportFault r v origins s).cells = s.cells := cells_of_lessPorts (reportFault_frame r v origins s)
@[simp] theorem reportFault_op (r : Nat) (v : Half) (origins : PortSet) (s : State) :
    (reportFault r v origins s).op = s.op := op_of_lessPorts (reportFault_frame r v origins s)
@[simp] theorem reportFault_markerRequest (r : Nat) (v : Half) (origins : PortSet) (s : State) :
    (reportFault r v origins s).markerRequest = s.markerRequest := markerRequest_of_lessPorts (reportFault_frame r v origins s)
@[simp] theorem reportFault_fetchWait (r : Nat) (v : Half) (origins : PortSet) (s : State) :
    (reportFault r v origins s).fetchWait = s.fetchWait := fetchWait_of_lessPorts (reportFault_frame r v origins s)
@[simp] theorem reportFault_mode (r : Nat) (v : Half) (origins : PortSet) (s : State) :
    (reportFault r v origins s).mode = s.mode := mode_of_lessPorts (reportFault_frame r v origins s)
@[simp] theorem reportFault_starvation (r : Nat) (v : Half) (origins : PortSet) (s : State) :
    (reportFault r v origins s).starvation = s.starvation := starvation_of_lessPorts (reportFault_frame r v origins s)
@[simp] theorem reportFault_spares (r : Nat) (v : Half) (origins : PortSet) (s : State) :
    (reportFault r v origins s).spares = s.spares := spares_of_lessPorts (reportFault_frame r v origins s)
@[simp] theorem reportFault_scanNext (r : Nat) (v : Half) (origins : PortSet) (s : State) :
    (reportFault r v origins s).scanNext = s.scanNext := scanNext_of_lessPorts (reportFault_frame r v origins s)
@[simp] theorem reportFault_claims (r : Nat) (v : Half) (origins : PortSet) (s : State) :
    (reportFault r v origins s).claims = s.claims := claims_of_lessPorts (reportFault_frame r v origins s)
@[simp] theorem reportFault_watches (r : Nat) (v : Half) (origins : PortSet) (s : State) :
    (reportFault r v origins s).watches = s.watches := watches_of_lessPorts (reportFault_frame r v origins s)
@[simp] theorem reportFault_partState (r : Nat) (v : Half) (origins : PortSet) (s : State) :
    (reportFault r v origins s).partState = s.partState := partState_of_lessPorts (reportFault_frame r v origins s)
@[simp] theorem reportFault_resetCause (r : Nat) (v : Half) (origins : PortSet) (s : State) :
    (reportFault r v origins s).resetCause = s.resetCause := resetCause_of_lessPorts (reportFault_frame r v origins s)
@[simp] theorem reportFault_verdict (r : Nat) (v : Half) (origins : PortSet) (s : State) :
    (reportFault r v origins s).verdict = s.verdict := verdict_of_lessPorts (reportFault_frame r v origins s)
@[simp] theorem reportFault_markerFault (r : Nat) (v : Half) (origins : PortSet) (s : State) :
    (reportFault r v origins s).markerFault = s.markerFault := markerFault_of_lessPorts (reportFault_frame r v origins s)
@[simp] theorem reportFault_scanOrder (r : Nat) (v : Half) (origins : PortSet) (s : State) :
    (reportFault r v origins s).scanOrder = s.scanOrder := scanOrder_of_lessPorts (reportFault_frame r v origins s)
@[simp] theorem reportFault_markerSeq (r : Nat) (v : Half) (origins : PortSet) (s : State) :
    (reportFault r v origins s).markerSeq = s.markerSeq := markerSeq_of_lessPorts (reportFault_frame r v origins s)
@[simp] theorem reportFault_pfwAsserted (r : Nat) (v : Half) (origins : PortSet) (s : State) :
    (reportFault r v origins s).pfwAsserted = s.pfwAsserted := pfwAsserted_of_lessPorts (reportFault_frame r v origins s)
@[simp] theorem reportFault_resetHold (r : Nat) (v : Half) (origins : PortSet) (s : State) :
    (reportFault r v origins s).resetHold = s.resetHold := resetHold_of_lessPorts (reportFault_frame r v origins s)

@[simp] theorem notifyExpired_pending (l : List (Nat × Claim)) (s : State) :
    (notifyExpired l s).pending = s.pending := pending_of_lessPorts (notifyExpired_frame l s)
@[simp] theorem notifyExpired_table (l : List (Nat × Claim)) (s : State) :
    (notifyExpired l s).table = s.table := table_of_lessPorts (notifyExpired_frame l s)
@[simp] theorem notifyExpired_lastGranted (l : List (Nat × Claim)) (s : State) :
    (notifyExpired l s).lastGranted = s.lastGranted := lastGranted_of_lessPorts (notifyExpired_frame l s)
@[simp] theorem notifyExpired_queue (l : List (Nat × Claim)) (s : State) :
    (notifyExpired l s).queue = s.queue := queue_of_lessPorts (notifyExpired_frame l s)
@[simp] theorem notifyExpired_spaceWait (l : List (Nat × Claim)) (s : State) :
    (notifyExpired l s).spaceWait = s.spaceWait := spaceWait_of_lessPorts (notifyExpired_frame l s)
@[simp] theorem notifyExpired_directory (l : List (Nat × Claim)) (s : State) :
    (notifyExpired l s).directory = s.directory := directory_of_lessPorts (notifyExpired_frame l s)
@[simp] theorem notifyExpired_built (l : List (Nat × Claim)) (s : State) :
    (notifyExpired l s).built = s.built := built_of_lessPorts (notifyExpired_frame l s)
@[simp] theorem notifyExpired_cells (l : List (Nat × Claim)) (s : State) :
    (notifyExpired l s).cells = s.cells := cells_of_lessPorts (notifyExpired_frame l s)
@[simp] theorem notifyExpired_op (l : List (Nat × Claim)) (s : State) :
    (notifyExpired l s).op = s.op := op_of_lessPorts (notifyExpired_frame l s)
@[simp] theorem notifyExpired_markerRequest (l : List (Nat × Claim)) (s : State) :
    (notifyExpired l s).markerRequest = s.markerRequest := markerRequest_of_lessPorts (notifyExpired_frame l s)
@[simp] theorem notifyExpired_fetchWait (l : List (Nat × Claim)) (s : State) :
    (notifyExpired l s).fetchWait = s.fetchWait := fetchWait_of_lessPorts (notifyExpired_frame l s)
@[simp] theorem notifyExpired_mode (l : List (Nat × Claim)) (s : State) :
    (notifyExpired l s).mode = s.mode := mode_of_lessPorts (notifyExpired_frame l s)
@[simp] theorem notifyExpired_starvation (l : List (Nat × Claim)) (s : State) :
    (notifyExpired l s).starvation = s.starvation := starvation_of_lessPorts (notifyExpired_frame l s)
@[simp] theorem notifyExpired_spares (l : List (Nat × Claim)) (s : State) :
    (notifyExpired l s).spares = s.spares := spares_of_lessPorts (notifyExpired_frame l s)
@[simp] theorem notifyExpired_scanNext (l : List (Nat × Claim)) (s : State) :
    (notifyExpired l s).scanNext = s.scanNext := scanNext_of_lessPorts (notifyExpired_frame l s)
@[simp] theorem notifyExpired_claims (l : List (Nat × Claim)) (s : State) :
    (notifyExpired l s).claims = s.claims := claims_of_lessPorts (notifyExpired_frame l s)
@[simp] theorem notifyExpired_watches (l : List (Nat × Claim)) (s : State) :
    (notifyExpired l s).watches = s.watches := watches_of_lessPorts (notifyExpired_frame l s)
@[simp] theorem notifyExpired_partState (l : List (Nat × Claim)) (s : State) :
    (notifyExpired l s).partState = s.partState := partState_of_lessPorts (notifyExpired_frame l s)
@[simp] theorem notifyExpired_resetCause (l : List (Nat × Claim)) (s : State) :
    (notifyExpired l s).resetCause = s.resetCause := resetCause_of_lessPorts (notifyExpired_frame l s)
@[simp] theorem notifyExpired_verdict (l : List (Nat × Claim)) (s : State) :
    (notifyExpired l s).verdict = s.verdict := verdict_of_lessPorts (notifyExpired_frame l s)
@[simp] theorem notifyExpired_markerFault (l : List (Nat × Claim)) (s : State) :
    (notifyExpired l s).markerFault = s.markerFault := markerFault_of_lessPorts (notifyExpired_frame l s)
@[simp] theorem notifyExpired_scanOrder (l : List (Nat × Claim)) (s : State) :
    (notifyExpired l s).scanOrder = s.scanOrder := scanOrder_of_lessPorts (notifyExpired_frame l s)
@[simp] theorem notifyExpired_markerSeq (l : List (Nat × Claim)) (s : State) :
    (notifyExpired l s).markerSeq = s.markerSeq := markerSeq_of_lessPorts (notifyExpired_frame l s)
@[simp] theorem notifyExpired_pfwAsserted (l : List (Nat × Claim)) (s : State) :
    (notifyExpired l s).pfwAsserted = s.pfwAsserted := pfwAsserted_of_lessPorts (notifyExpired_frame l s)
@[simp] theorem notifyExpired_resetHold (l : List (Nat × Claim)) (s : State) :
    (notifyExpired l s).resetHold = s.resetHold := resetHold_of_lessPorts (notifyExpired_frame l s)

@[simp] theorem answer_pending (id : Nat) (a : Answer) (s : State) :
    (answer id a s).pending = s.pending := pending_of_lessTraffic (answer_frame id a s)
@[simp] theorem answer_lastGranted (id : Nat) (a : Answer) (s : State) :
    (answer id a s).lastGranted = s.lastGranted := lastGranted_of_lessTraffic (answer_frame id a s)
@[simp] theorem answer_queue (id : Nat) (a : Answer) (s : State) :
    (answer id a s).queue = s.queue := queue_of_lessTraffic (answer_frame id a s)
@[simp] theorem answer_spaceWait (id : Nat) (a : Answer) (s : State) :
    (answer id a s).spaceWait = s.spaceWait := spaceWait_of_lessTraffic (answer_frame id a s)
@[simp] theorem answer_directory (id : Nat) (a : Answer) (s : State) :
    (answer id a s).directory = s.directory := directory_of_lessTraffic (answer_frame id a s)
@[simp] theorem answer_built (id : Nat) (a : Answer) (s : State) :
    (answer id a s).built = s.built := built_of_lessTraffic (answer_frame id a s)
@[simp] theorem answer_cells (id : Nat) (a : Answer) (s : State) :
    (answer id a s).cells = s.cells := cells_of_lessTraffic (answer_frame id a s)
@[simp] theorem answer_op (id : Nat) (a : Answer) (s : State) :
    (answer id a s).op = s.op := op_of_lessTraffic (answer_frame id a s)
@[simp] theorem answer_markerRequest (id : Nat) (a : Answer) (s : State) :
    (answer id a s).markerRequest = s.markerRequest := markerRequest_of_lessTraffic (answer_frame id a s)
@[simp] theorem answer_fetchWait (id : Nat) (a : Answer) (s : State) :
    (answer id a s).fetchWait = s.fetchWait := fetchWait_of_lessTraffic (answer_frame id a s)
@[simp] theorem answer_mode (id : Nat) (a : Answer) (s : State) :
    (answer id a s).mode = s.mode := mode_of_lessTraffic (answer_frame id a s)
@[simp] theorem answer_starvation (id : Nat) (a : Answer) (s : State) :
    (answer id a s).starvation = s.starvation := starvation_of_lessTraffic (answer_frame id a s)
@[simp] theorem answer_spares (id : Nat) (a : Answer) (s : State) :
    (answer id a s).spares = s.spares := spares_of_lessTraffic (answer_frame id a s)
@[simp] theorem answer_scanNext (id : Nat) (a : Answer) (s : State) :
    (answer id a s).scanNext = s.scanNext := scanNext_of_lessTraffic (answer_frame id a s)
@[simp] theorem answer_claims (id : Nat) (a : Answer) (s : State) :
    (answer id a s).claims = s.claims := claims_of_lessTraffic (answer_frame id a s)
@[simp] theorem answer_watches (id : Nat) (a : Answer) (s : State) :
    (answer id a s).watches = s.watches := watches_of_lessTraffic (answer_frame id a s)
@[simp] theorem answer_partState (id : Nat) (a : Answer) (s : State) :
    (answer id a s).partState = s.partState := partState_of_lessTraffic (answer_frame id a s)
@[simp] theorem answer_resetCause (id : Nat) (a : Answer) (s : State) :
    (answer id a s).resetCause = s.resetCause := resetCause_of_lessTraffic (answer_frame id a s)
@[simp] theorem answer_verdict (id : Nat) (a : Answer) (s : State) :
    (answer id a s).verdict = s.verdict := verdict_of_lessTraffic (answer_frame id a s)
@[simp] theorem answer_markerFault (id : Nat) (a : Answer) (s : State) :
    (answer id a s).markerFault = s.markerFault := markerFault_of_lessTraffic (answer_frame id a s)
@[simp] theorem answer_scanOrder (id : Nat) (a : Answer) (s : State) :
    (answer id a s).scanOrder = s.scanOrder := scanOrder_of_lessTraffic (answer_frame id a s)
@[simp] theorem answer_markerSeq (id : Nat) (a : Answer) (s : State) :
    (answer id a s).markerSeq = s.markerSeq := markerSeq_of_lessTraffic (answer_frame id a s)
@[simp] theorem answer_pfwAsserted (id : Nat) (a : Answer) (s : State) :
    (answer id a s).pfwAsserted = s.pfwAsserted := pfwAsserted_of_lessTraffic (answer_frame id a s)
@[simp] theorem answer_resetHold (id : Nat) (a : Answer) (s : State) :
    (answer id a s).resetHold = s.resetHold := resetHold_of_lessTraffic (answer_frame id a s)

@[simp] theorem refuse_pending (e : Entry) (code : NakCode) (s : State) :
    (refuse e code s).pending = s.pending := pending_of_lessTraffic (refuse_frame e code s)
@[simp] theorem refuse_lastGranted (e : Entry) (code : NakCode) (s : State) :
    (refuse e code s).lastGranted = s.lastGranted := lastGranted_of_lessTraffic (refuse_frame e code s)
@[simp] theorem refuse_queue (e : Entry) (code : NakCode) (s : State) :
    (refuse e code s).queue = s.queue := queue_of_lessTraffic (refuse_frame e code s)
@[simp] theorem refuse_spaceWait (e : Entry) (code : NakCode) (s : State) :
    (refuse e code s).spaceWait = s.spaceWait := spaceWait_of_lessTraffic (refuse_frame e code s)
@[simp] theorem refuse_directory (e : Entry) (code : NakCode) (s : State) :
    (refuse e code s).directory = s.directory := directory_of_lessTraffic (refuse_frame e code s)
@[simp] theorem refuse_built (e : Entry) (code : NakCode) (s : State) :
    (refuse e code s).built = s.built := built_of_lessTraffic (refuse_frame e code s)
@[simp] theorem refuse_cells (e : Entry) (code : NakCode) (s : State) :
    (refuse e code s).cells = s.cells := cells_of_lessTraffic (refuse_frame e code s)
@[simp] theorem refuse_op (e : Entry) (code : NakCode) (s : State) :
    (refuse e code s).op = s.op := op_of_lessTraffic (refuse_frame e code s)
@[simp] theorem refuse_markerRequest (e : Entry) (code : NakCode) (s : State) :
    (refuse e code s).markerRequest = s.markerRequest := markerRequest_of_lessTraffic (refuse_frame e code s)
@[simp] theorem refuse_fetchWait (e : Entry) (code : NakCode) (s : State) :
    (refuse e code s).fetchWait = s.fetchWait := fetchWait_of_lessTraffic (refuse_frame e code s)
@[simp] theorem refuse_mode (e : Entry) (code : NakCode) (s : State) :
    (refuse e code s).mode = s.mode := mode_of_lessTraffic (refuse_frame e code s)
@[simp] theorem refuse_starvation (e : Entry) (code : NakCode) (s : State) :
    (refuse e code s).starvation = s.starvation := starvation_of_lessTraffic (refuse_frame e code s)
@[simp] theorem refuse_spares (e : Entry) (code : NakCode) (s : State) :
    (refuse e code s).spares = s.spares := spares_of_lessTraffic (refuse_frame e code s)
@[simp] theorem refuse_scanNext (e : Entry) (code : NakCode) (s : State) :
    (refuse e code s).scanNext = s.scanNext := scanNext_of_lessTraffic (refuse_frame e code s)
@[simp] theorem refuse_claims (e : Entry) (code : NakCode) (s : State) :
    (refuse e code s).claims = s.claims := claims_of_lessTraffic (refuse_frame e code s)
@[simp] theorem refuse_watches (e : Entry) (code : NakCode) (s : State) :
    (refuse e code s).watches = s.watches := watches_of_lessTraffic (refuse_frame e code s)
@[simp] theorem refuse_partState (e : Entry) (code : NakCode) (s : State) :
    (refuse e code s).partState = s.partState := partState_of_lessTraffic (refuse_frame e code s)
@[simp] theorem refuse_resetCause (e : Entry) (code : NakCode) (s : State) :
    (refuse e code s).resetCause = s.resetCause := resetCause_of_lessTraffic (refuse_frame e code s)
@[simp] theorem refuse_verdict (e : Entry) (code : NakCode) (s : State) :
    (refuse e code s).verdict = s.verdict := verdict_of_lessTraffic (refuse_frame e code s)
@[simp] theorem refuse_markerFault (e : Entry) (code : NakCode) (s : State) :
    (refuse e code s).markerFault = s.markerFault := markerFault_of_lessTraffic (refuse_frame e code s)
@[simp] theorem refuse_scanOrder (e : Entry) (code : NakCode) (s : State) :
    (refuse e code s).scanOrder = s.scanOrder := scanOrder_of_lessTraffic (refuse_frame e code s)
@[simp] theorem refuse_markerSeq (e : Entry) (code : NakCode) (s : State) :
    (refuse e code s).markerSeq = s.markerSeq := markerSeq_of_lessTraffic (refuse_frame e code s)
@[simp] theorem refuse_pfwAsserted (e : Entry) (code : NakCode) (s : State) :
    (refuse e code s).pfwAsserted = s.pfwAsserted := pfwAsserted_of_lessTraffic (refuse_frame e code s)
@[simp] theorem refuse_resetHold (e : Entry) (code : NakCode) (s : State) :
    (refuse e code s).resetHold = s.resetHold := resetHold_of_lessTraffic (refuse_frame e code s)

@[simp] theorem placeHeld_pending (p : PortId) (s : State) :
    (placeHeld p s).pending = s.pending := pending_of_lessTraffic (placeHeld_frame p s)
@[simp] theorem placeHeld_lastGranted (p : PortId) (s : State) :
    (placeHeld p s).lastGranted = s.lastGranted := lastGranted_of_lessTraffic (placeHeld_frame p s)
@[simp] theorem placeHeld_queue (p : PortId) (s : State) :
    (placeHeld p s).queue = s.queue := queue_of_lessTraffic (placeHeld_frame p s)
@[simp] theorem placeHeld_spaceWait (p : PortId) (s : State) :
    (placeHeld p s).spaceWait = s.spaceWait := spaceWait_of_lessTraffic (placeHeld_frame p s)
@[simp] theorem placeHeld_directory (p : PortId) (s : State) :
    (placeHeld p s).directory = s.directory := directory_of_lessTraffic (placeHeld_frame p s)
@[simp] theorem placeHeld_built (p : PortId) (s : State) :
    (placeHeld p s).built = s.built := built_of_lessTraffic (placeHeld_frame p s)
@[simp] theorem placeHeld_cells (p : PortId) (s : State) :
    (placeHeld p s).cells = s.cells := cells_of_lessTraffic (placeHeld_frame p s)
@[simp] theorem placeHeld_op (p : PortId) (s : State) :
    (placeHeld p s).op = s.op := op_of_lessTraffic (placeHeld_frame p s)
@[simp] theorem placeHeld_markerRequest (p : PortId) (s : State) :
    (placeHeld p s).markerRequest = s.markerRequest := markerRequest_of_lessTraffic (placeHeld_frame p s)
@[simp] theorem placeHeld_fetchWait (p : PortId) (s : State) :
    (placeHeld p s).fetchWait = s.fetchWait := fetchWait_of_lessTraffic (placeHeld_frame p s)
@[simp] theorem placeHeld_mode (p : PortId) (s : State) :
    (placeHeld p s).mode = s.mode := mode_of_lessTraffic (placeHeld_frame p s)
@[simp] theorem placeHeld_starvation (p : PortId) (s : State) :
    (placeHeld p s).starvation = s.starvation := starvation_of_lessTraffic (placeHeld_frame p s)
@[simp] theorem placeHeld_spares (p : PortId) (s : State) :
    (placeHeld p s).spares = s.spares := spares_of_lessTraffic (placeHeld_frame p s)
@[simp] theorem placeHeld_scanNext (p : PortId) (s : State) :
    (placeHeld p s).scanNext = s.scanNext := scanNext_of_lessTraffic (placeHeld_frame p s)
@[simp] theorem placeHeld_claims (p : PortId) (s : State) :
    (placeHeld p s).claims = s.claims := claims_of_lessTraffic (placeHeld_frame p s)
@[simp] theorem placeHeld_watches (p : PortId) (s : State) :
    (placeHeld p s).watches = s.watches := watches_of_lessTraffic (placeHeld_frame p s)
@[simp] theorem placeHeld_partState (p : PortId) (s : State) :
    (placeHeld p s).partState = s.partState := partState_of_lessTraffic (placeHeld_frame p s)
@[simp] theorem placeHeld_resetCause (p : PortId) (s : State) :
    (placeHeld p s).resetCause = s.resetCause := resetCause_of_lessTraffic (placeHeld_frame p s)
@[simp] theorem placeHeld_verdict (p : PortId) (s : State) :
    (placeHeld p s).verdict = s.verdict := verdict_of_lessTraffic (placeHeld_frame p s)
@[simp] theorem placeHeld_markerFault (p : PortId) (s : State) :
    (placeHeld p s).markerFault = s.markerFault := markerFault_of_lessTraffic (placeHeld_frame p s)
@[simp] theorem placeHeld_scanOrder (p : PortId) (s : State) :
    (placeHeld p s).scanOrder = s.scanOrder := scanOrder_of_lessTraffic (placeHeld_frame p s)
@[simp] theorem placeHeld_markerSeq (p : PortId) (s : State) :
    (placeHeld p s).markerSeq = s.markerSeq := markerSeq_of_lessTraffic (placeHeld_frame p s)
@[simp] theorem placeHeld_pfwAsserted (p : PortId) (s : State) :
    (placeHeld p s).pfwAsserted = s.pfwAsserted := pfwAsserted_of_lessTraffic (placeHeld_frame p s)
@[simp] theorem placeHeld_resetHold (p : PortId) (s : State) :
    (placeHeld p s).resetHold = s.resetHold := resetHold_of_lessTraffic (placeHeld_frame p s)

@[simp] theorem refuseAll_pending (l : List Nat) (s : State) :
    (refuseAll l s).pending = s.pending := pending_of_lessTraffic (refuseAll_frame l s)
@[simp] theorem refuseAll_lastGranted (l : List Nat) (s : State) :
    (refuseAll l s).lastGranted = s.lastGranted := lastGranted_of_lessTraffic (refuseAll_frame l s)
@[simp] theorem refuseAll_queue (l : List Nat) (s : State) :
    (refuseAll l s).queue = s.queue := queue_of_lessTraffic (refuseAll_frame l s)
@[simp] theorem refuseAll_spaceWait (l : List Nat) (s : State) :
    (refuseAll l s).spaceWait = s.spaceWait := spaceWait_of_lessTraffic (refuseAll_frame l s)
@[simp] theorem refuseAll_directory (l : List Nat) (s : State) :
    (refuseAll l s).directory = s.directory := directory_of_lessTraffic (refuseAll_frame l s)
@[simp] theorem refuseAll_built (l : List Nat) (s : State) :
    (refuseAll l s).built = s.built := built_of_lessTraffic (refuseAll_frame l s)
@[simp] theorem refuseAll_cells (l : List Nat) (s : State) :
    (refuseAll l s).cells = s.cells := cells_of_lessTraffic (refuseAll_frame l s)
@[simp] theorem refuseAll_op (l : List Nat) (s : State) :
    (refuseAll l s).op = s.op := op_of_lessTraffic (refuseAll_frame l s)
@[simp] theorem refuseAll_markerRequest (l : List Nat) (s : State) :
    (refuseAll l s).markerRequest = s.markerRequest := markerRequest_of_lessTraffic (refuseAll_frame l s)
@[simp] theorem refuseAll_fetchWait (l : List Nat) (s : State) :
    (refuseAll l s).fetchWait = s.fetchWait := fetchWait_of_lessTraffic (refuseAll_frame l s)
@[simp] theorem refuseAll_mode (l : List Nat) (s : State) :
    (refuseAll l s).mode = s.mode := mode_of_lessTraffic (refuseAll_frame l s)
@[simp] theorem refuseAll_starvation (l : List Nat) (s : State) :
    (refuseAll l s).starvation = s.starvation := starvation_of_lessTraffic (refuseAll_frame l s)
@[simp] theorem refuseAll_spares (l : List Nat) (s : State) :
    (refuseAll l s).spares = s.spares := spares_of_lessTraffic (refuseAll_frame l s)
@[simp] theorem refuseAll_scanNext (l : List Nat) (s : State) :
    (refuseAll l s).scanNext = s.scanNext := scanNext_of_lessTraffic (refuseAll_frame l s)
@[simp] theorem refuseAll_claims (l : List Nat) (s : State) :
    (refuseAll l s).claims = s.claims := claims_of_lessTraffic (refuseAll_frame l s)
@[simp] theorem refuseAll_watches (l : List Nat) (s : State) :
    (refuseAll l s).watches = s.watches := watches_of_lessTraffic (refuseAll_frame l s)
@[simp] theorem refuseAll_partState (l : List Nat) (s : State) :
    (refuseAll l s).partState = s.partState := partState_of_lessTraffic (refuseAll_frame l s)
@[simp] theorem refuseAll_resetCause (l : List Nat) (s : State) :
    (refuseAll l s).resetCause = s.resetCause := resetCause_of_lessTraffic (refuseAll_frame l s)
@[simp] theorem refuseAll_verdict (l : List Nat) (s : State) :
    (refuseAll l s).verdict = s.verdict := verdict_of_lessTraffic (refuseAll_frame l s)
@[simp] theorem refuseAll_markerFault (l : List Nat) (s : State) :
    (refuseAll l s).markerFault = s.markerFault := markerFault_of_lessTraffic (refuseAll_frame l s)
@[simp] theorem refuseAll_scanOrder (l : List Nat) (s : State) :
    (refuseAll l s).scanOrder = s.scanOrder := scanOrder_of_lessTraffic (refuseAll_frame l s)
@[simp] theorem refuseAll_markerSeq (l : List Nat) (s : State) :
    (refuseAll l s).markerSeq = s.markerSeq := markerSeq_of_lessTraffic (refuseAll_frame l s)
@[simp] theorem refuseAll_pfwAsserted (l : List Nat) (s : State) :
    (refuseAll l s).pfwAsserted = s.pfwAsserted := pfwAsserted_of_lessTraffic (refuseAll_frame l s)
@[simp] theorem refuseAll_resetHold (l : List Nat) (s : State) :
    (refuseAll l s).resetHold = s.resetHold := resetHold_of_lessTraffic (refuseAll_frame l s)

@[simp] theorem dropAllMarks_pending (removed : List QueueEntry) (fault : Bool) (s : State) :
    (dropAllMarks removed fault s).pending = s.pending := pending_of_lessTraffic (dropAllMarks_frame removed fault s)
@[simp] theorem dropAllMarks_lastGranted (removed : List QueueEntry) (fault : Bool) (s : State) :
    (dropAllMarks removed fault s).lastGranted = s.lastGranted := lastGranted_of_lessTraffic (dropAllMarks_frame removed fault s)
@[simp] theorem dropAllMarks_queue (removed : List QueueEntry) (fault : Bool) (s : State) :
    (dropAllMarks removed fault s).queue = s.queue := queue_of_lessTraffic (dropAllMarks_frame removed fault s)
@[simp] theorem dropAllMarks_spaceWait (removed : List QueueEntry) (fault : Bool) (s : State) :
    (dropAllMarks removed fault s).spaceWait = s.spaceWait := spaceWait_of_lessTraffic (dropAllMarks_frame removed fault s)
@[simp] theorem dropAllMarks_directory (removed : List QueueEntry) (fault : Bool) (s : State) :
    (dropAllMarks removed fault s).directory = s.directory := directory_of_lessTraffic (dropAllMarks_frame removed fault s)
@[simp] theorem dropAllMarks_built (removed : List QueueEntry) (fault : Bool) (s : State) :
    (dropAllMarks removed fault s).built = s.built := built_of_lessTraffic (dropAllMarks_frame removed fault s)
@[simp] theorem dropAllMarks_cells (removed : List QueueEntry) (fault : Bool) (s : State) :
    (dropAllMarks removed fault s).cells = s.cells := cells_of_lessTraffic (dropAllMarks_frame removed fault s)
@[simp] theorem dropAllMarks_op (removed : List QueueEntry) (fault : Bool) (s : State) :
    (dropAllMarks removed fault s).op = s.op := op_of_lessTraffic (dropAllMarks_frame removed fault s)
@[simp] theorem dropAllMarks_markerRequest (removed : List QueueEntry) (fault : Bool) (s : State) :
    (dropAllMarks removed fault s).markerRequest = s.markerRequest := markerRequest_of_lessTraffic (dropAllMarks_frame removed fault s)
@[simp] theorem dropAllMarks_fetchWait (removed : List QueueEntry) (fault : Bool) (s : State) :
    (dropAllMarks removed fault s).fetchWait = s.fetchWait := fetchWait_of_lessTraffic (dropAllMarks_frame removed fault s)
@[simp] theorem dropAllMarks_mode (removed : List QueueEntry) (fault : Bool) (s : State) :
    (dropAllMarks removed fault s).mode = s.mode := mode_of_lessTraffic (dropAllMarks_frame removed fault s)
@[simp] theorem dropAllMarks_starvation (removed : List QueueEntry) (fault : Bool) (s : State) :
    (dropAllMarks removed fault s).starvation = s.starvation := starvation_of_lessTraffic (dropAllMarks_frame removed fault s)
@[simp] theorem dropAllMarks_spares (removed : List QueueEntry) (fault : Bool) (s : State) :
    (dropAllMarks removed fault s).spares = s.spares := spares_of_lessTraffic (dropAllMarks_frame removed fault s)
@[simp] theorem dropAllMarks_scanNext (removed : List QueueEntry) (fault : Bool) (s : State) :
    (dropAllMarks removed fault s).scanNext = s.scanNext := scanNext_of_lessTraffic (dropAllMarks_frame removed fault s)
@[simp] theorem dropAllMarks_claims (removed : List QueueEntry) (fault : Bool) (s : State) :
    (dropAllMarks removed fault s).claims = s.claims := claims_of_lessTraffic (dropAllMarks_frame removed fault s)
@[simp] theorem dropAllMarks_watches (removed : List QueueEntry) (fault : Bool) (s : State) :
    (dropAllMarks removed fault s).watches = s.watches := watches_of_lessTraffic (dropAllMarks_frame removed fault s)
@[simp] theorem dropAllMarks_partState (removed : List QueueEntry) (fault : Bool) (s : State) :
    (dropAllMarks removed fault s).partState = s.partState := partState_of_lessTraffic (dropAllMarks_frame removed fault s)
@[simp] theorem dropAllMarks_resetCause (removed : List QueueEntry) (fault : Bool) (s : State) :
    (dropAllMarks removed fault s).resetCause = s.resetCause := resetCause_of_lessTraffic (dropAllMarks_frame removed fault s)
@[simp] theorem dropAllMarks_verdict (removed : List QueueEntry) (fault : Bool) (s : State) :
    (dropAllMarks removed fault s).verdict = s.verdict := verdict_of_lessTraffic (dropAllMarks_frame removed fault s)
@[simp] theorem dropAllMarks_markerFault (removed : List QueueEntry) (fault : Bool) (s : State) :
    (dropAllMarks removed fault s).markerFault = s.markerFault := markerFault_of_lessTraffic (dropAllMarks_frame removed fault s)
@[simp] theorem dropAllMarks_scanOrder (removed : List QueueEntry) (fault : Bool) (s : State) :
    (dropAllMarks removed fault s).scanOrder = s.scanOrder := scanOrder_of_lessTraffic (dropAllMarks_frame removed fault s)
@[simp] theorem dropAllMarks_markerSeq (removed : List QueueEntry) (fault : Bool) (s : State) :
    (dropAllMarks removed fault s).markerSeq = s.markerSeq := markerSeq_of_lessTraffic (dropAllMarks_frame removed fault s)
@[simp] theorem dropAllMarks_pfwAsserted (removed : List QueueEntry) (fault : Bool) (s : State) :
    (dropAllMarks removed fault s).pfwAsserted = s.pfwAsserted := pfwAsserted_of_lessTraffic (dropAllMarks_frame removed fault s)
@[simp] theorem dropAllMarks_resetHold (removed : List QueueEntry) (fault : Bool) (s : State) :
    (dropAllMarks removed fault s).resetHold = s.resetHold := resetHold_of_lessTraffic (dropAllMarks_frame removed fault s)

@[simp] theorem settleChange_pending (e : Entry) (d : Decision) (s : State) :
    (settleChange e d s).pending = s.pending := pending_of_lessQueueing (settleChange_frame e d s)
@[simp] theorem settleChange_lastGranted (e : Entry) (d : Decision) (s : State) :
    (settleChange e d s).lastGranted = s.lastGranted := lastGranted_of_lessQueueing (settleChange_frame e d s)
@[simp] theorem settleChange_directory (e : Entry) (d : Decision) (s : State) :
    (settleChange e d s).directory = s.directory := directory_of_lessQueueing (settleChange_frame e d s)
@[simp] theorem settleChange_built (e : Entry) (d : Decision) (s : State) :
    (settleChange e d s).built = s.built := built_of_lessQueueing (settleChange_frame e d s)
@[simp] theorem settleChange_cells (e : Entry) (d : Decision) (s : State) :
    (settleChange e d s).cells = s.cells := cells_of_lessQueueing (settleChange_frame e d s)
@[simp] theorem settleChange_op (e : Entry) (d : Decision) (s : State) :
    (settleChange e d s).op = s.op := op_of_lessQueueing (settleChange_frame e d s)
@[simp] theorem settleChange_markerRequest (e : Entry) (d : Decision) (s : State) :
    (settleChange e d s).markerRequest = s.markerRequest := markerRequest_of_lessQueueing (settleChange_frame e d s)
@[simp] theorem settleChange_fetchWait (e : Entry) (d : Decision) (s : State) :
    (settleChange e d s).fetchWait = s.fetchWait := fetchWait_of_lessQueueing (settleChange_frame e d s)
@[simp] theorem settleChange_starvation (e : Entry) (d : Decision) (s : State) :
    (settleChange e d s).starvation = s.starvation := starvation_of_lessQueueing (settleChange_frame e d s)
@[simp] theorem settleChange_spares (e : Entry) (d : Decision) (s : State) :
    (settleChange e d s).spares = s.spares := spares_of_lessQueueing (settleChange_frame e d s)
@[simp] theorem settleChange_scanNext (e : Entry) (d : Decision) (s : State) :
    (settleChange e d s).scanNext = s.scanNext := scanNext_of_lessQueueing (settleChange_frame e d s)
@[simp] theorem settleChange_claims (e : Entry) (d : Decision) (s : State) :
    (settleChange e d s).claims = s.claims := claims_of_lessQueueing (settleChange_frame e d s)
@[simp] theorem settleChange_watches (e : Entry) (d : Decision) (s : State) :
    (settleChange e d s).watches = s.watches := watches_of_lessQueueing (settleChange_frame e d s)
@[simp] theorem settleChange_partState (e : Entry) (d : Decision) (s : State) :
    (settleChange e d s).partState = s.partState := partState_of_lessQueueing (settleChange_frame e d s)
@[simp] theorem settleChange_resetCause (e : Entry) (d : Decision) (s : State) :
    (settleChange e d s).resetCause = s.resetCause := resetCause_of_lessQueueing (settleChange_frame e d s)
@[simp] theorem settleChange_verdict (e : Entry) (d : Decision) (s : State) :
    (settleChange e d s).verdict = s.verdict := verdict_of_lessQueueing (settleChange_frame e d s)
@[simp] theorem settleChange_markerFault (e : Entry) (d : Decision) (s : State) :
    (settleChange e d s).markerFault = s.markerFault := markerFault_of_lessQueueing (settleChange_frame e d s)
@[simp] theorem settleChange_scanOrder (e : Entry) (d : Decision) (s : State) :
    (settleChange e d s).scanOrder = s.scanOrder := scanOrder_of_lessQueueing (settleChange_frame e d s)
@[simp] theorem settleChange_markerSeq (e : Entry) (d : Decision) (s : State) :
    (settleChange e d s).markerSeq = s.markerSeq := markerSeq_of_lessQueueing (settleChange_frame e d s)
@[simp] theorem settleChange_pfwAsserted (e : Entry) (d : Decision) (s : State) :
    (settleChange e d s).pfwAsserted = s.pfwAsserted := pfwAsserted_of_lessQueueing (settleChange_frame e d s)
@[simp] theorem settleChange_resetHold (e : Entry) (d : Decision) (s : State) :
    (settleChange e d s).resetHold = s.resetHold := resetHold_of_lessQueueing (settleChange_frame e d s)

@[simp] theorem retryPass_pending (s : State) :
    (retryPass s).pending = s.pending := pending_of_lessQueueing (retryPass_frame s)
@[simp] theorem retryPass_lastGranted (s : State) :
    (retryPass s).lastGranted = s.lastGranted := lastGranted_of_lessQueueing (retryPass_frame s)
@[simp] theorem retryPass_directory (s : State) :
    (retryPass s).directory = s.directory := directory_of_lessQueueing (retryPass_frame s)
@[simp] theorem retryPass_built (s : State) :
    (retryPass s).built = s.built := built_of_lessQueueing (retryPass_frame s)
@[simp] theorem retryPass_cells (s : State) :
    (retryPass s).cells = s.cells := cells_of_lessQueueing (retryPass_frame s)
@[simp] theorem retryPass_op (s : State) :
    (retryPass s).op = s.op := op_of_lessQueueing (retryPass_frame s)
@[simp] theorem retryPass_markerRequest (s : State) :
    (retryPass s).markerRequest = s.markerRequest := markerRequest_of_lessQueueing (retryPass_frame s)
@[simp] theorem retryPass_fetchWait (s : State) :
    (retryPass s).fetchWait = s.fetchWait := fetchWait_of_lessQueueing (retryPass_frame s)
@[simp] theorem retryPass_starvation (s : State) :
    (retryPass s).starvation = s.starvation := starvation_of_lessQueueing (retryPass_frame s)
@[simp] theorem retryPass_spares (s : State) :
    (retryPass s).spares = s.spares := spares_of_lessQueueing (retryPass_frame s)
@[simp] theorem retryPass_scanNext (s : State) :
    (retryPass s).scanNext = s.scanNext := scanNext_of_lessQueueing (retryPass_frame s)
@[simp] theorem retryPass_claims (s : State) :
    (retryPass s).claims = s.claims := claims_of_lessQueueing (retryPass_frame s)
@[simp] theorem retryPass_watches (s : State) :
    (retryPass s).watches = s.watches := watches_of_lessQueueing (retryPass_frame s)
@[simp] theorem retryPass_partState (s : State) :
    (retryPass s).partState = s.partState := partState_of_lessQueueing (retryPass_frame s)
@[simp] theorem retryPass_resetCause (s : State) :
    (retryPass s).resetCause = s.resetCause := resetCause_of_lessQueueing (retryPass_frame s)
@[simp] theorem retryPass_verdict (s : State) :
    (retryPass s).verdict = s.verdict := verdict_of_lessQueueing (retryPass_frame s)
@[simp] theorem retryPass_markerFault (s : State) :
    (retryPass s).markerFault = s.markerFault := markerFault_of_lessQueueing (retryPass_frame s)
@[simp] theorem retryPass_scanOrder (s : State) :
    (retryPass s).scanOrder = s.scanOrder := scanOrder_of_lessQueueing (retryPass_frame s)
@[simp] theorem retryPass_markerSeq (s : State) :
    (retryPass s).markerSeq = s.markerSeq := markerSeq_of_lessQueueing (retryPass_frame s)
@[simp] theorem retryPass_pfwAsserted (s : State) :
    (retryPass s).pfwAsserted = s.pfwAsserted := pfwAsserted_of_lessQueueing (retryPass_frame s)
@[simp] theorem retryPass_resetHold (s : State) :
    (retryPass s).resetHold = s.resetHold := resetHold_of_lessQueueing (retryPass_frame s)

@[simp] theorem settle_pending (s : State) :
    (settle s).pending = s.pending := pending_of_lessChoice (settle_frame s)
@[simp] theorem settle_lastGranted (s : State) :
    (settle s).lastGranted = s.lastGranted := lastGranted_of_lessChoice (settle_frame s)
@[simp] theorem settle_spaceWait (s : State) :
    (settle s).spaceWait = s.spaceWait := spaceWait_of_lessChoice (settle_frame s)
@[simp] theorem settle_directory (s : State) :
    (settle s).directory = s.directory := directory_of_lessChoice (settle_frame s)
@[simp] theorem settle_built (s : State) :
    (settle s).built = s.built := built_of_lessChoice (settle_frame s)
@[simp] theorem settle_cells (s : State) :
    (settle s).cells = s.cells := cells_of_lessChoice (settle_frame s)
@[simp] theorem settle_mode (s : State) :
    (settle s).mode = s.mode := mode_of_lessChoice (settle_frame s)
@[simp] theorem settle_spares (s : State) :
    (settle s).spares = s.spares := spares_of_lessChoice (settle_frame s)
@[simp] theorem settle_claims (s : State) :
    (settle s).claims = s.claims := claims_of_lessChoice (settle_frame s)
@[simp] theorem settle_watches (s : State) :
    (settle s).watches = s.watches := watches_of_lessChoice (settle_frame s)
@[simp] theorem settle_partState (s : State) :
    (settle s).partState = s.partState := partState_of_lessChoice (settle_frame s)
@[simp] theorem settle_resetCause (s : State) :
    (settle s).resetCause = s.resetCause := resetCause_of_lessChoice (settle_frame s)
@[simp] theorem settle_verdict (s : State) :
    (settle s).verdict = s.verdict := verdict_of_lessChoice (settle_frame s)
@[simp] theorem settle_markerFault (s : State) :
    (settle s).markerFault = s.markerFault := markerFault_of_lessChoice (settle_frame s)
@[simp] theorem settle_scanOrder (s : State) :
    (settle s).scanOrder = s.scanOrder := scanOrder_of_lessChoice (settle_frame s)
@[simp] theorem settle_pfwAsserted (s : State) :
    (settle s).pfwAsserted = s.pfwAsserted := pfwAsserted_of_lessChoice (settle_frame s)
@[simp] theorem settle_resetHold (s : State) :
    (settle s).resetHold = s.resetHold := resetHold_of_lessChoice (settle_frame s)

end Sys2Proof.Machine
end

