-- ==== Sys2Proof/Laws/Requests.lean ====
section
/-! SUPPORT. What each shared operation on requests, entries and frames can do: one case lemma an operation. -/

namespace Sys2Proof.Machine

/-! ### Running a command -/

theorem whileRunning_out (f : State → State) (s : State) (h : s.resetHold = none) : whileRunning f s = .next (f s) := by
  simp [whileRunning, h]

theorem whileRunning_held (f : State → State) (s : State) (h : s.resetHold ≠ none) : whileRunning f s = .next s := by
  cases hr : s.resetHold with
  | none => exact absurd hr h
  | some r => simp [whileRunning, hr]

/-- A command's next state is the state itself, held in reset, or its effect. -/
theorem whileRunning_cases {f : State → State} {s t : State} (h : whileRunning f s = .next t) :
    t = s ∨ s.resetHold = none ∧ t = f s := by
  by_cases hr : s.resetHold = none
  · rw [whileRunning_out f s hr] at h; cases h; exact .inr ⟨hr, rfl⟩
  · rw [whileRunning_held f s hr] at h; cases h; exact .inl rfl

theorem whileRunning_next (f : State → State) (s : State) : ∃ t, whileRunning f s = .next t := by
  unfold whileRunning; split <;> exact ⟨_, rfl⟩

/-! ### Entries of the request table -/

theorem entryOf_some {s : State} {id : Nat} {e : Entry} (h : entryOf s id = some e) : e ∈ s.table ∧ e.id = id := by
  refine ⟨List.mem_of_find?_eq_some h, ?_⟩
  simpa using List.find?_some h

theorem entryFree_iff (s : State) (id : Nat) : entryFree s id = true ↔ ∀ e ∈ s.table, e.id ≠ id := by
  simp [entryFree]

theorem freeReserved_some {s : State} {p : PortId} {id : Nat} (h : freeReserved s p = some id) :
    (id = 2 * portNumber p ∨ id = 2 * portNumber p + 1) ∧ ∀ e ∈ s.table, e.id ≠ id := by
  refine ⟨?_, (entryFree_iff s id).1 (List.find?_some h)⟩
  simpa using List.mem_of_find?_eq_some h

theorem freePooled_some {s : State} {id : Nat} (h : freePooled s = some id) :
    8 ≤ id ∧ id < 16 ∧ ∀ e ∈ s.table, e.id ≠ id := by
  have hm := List.mem_of_find?_eq_some h
  refine ⟨?_, ?_, (entryFree_iff s id).1 (List.find?_some h)⟩ <;>
    · simp [Config.tableSize, Config.firstPooled, List.range, List.range.loop] at hm
      omega

/-- The entry just taken is the one its number finds. -/
theorem entryOf_takeFrame {s : State} {p : PortId} {id : Nat} {f : RxFrame} {rest : List RxFrame}
    (h : ∀ e ∈ s.table, e.id ≠ id) : entryOf (takeFrame p id f rest s) id = some (newEntry id p f) := by
  have hn : s.table.find? (fun e => e.id == id) = none := by
    rw [List.find?_eq_none]; intro e he; simpa using h e he
  simp [entryOf, List.find?_append, hn, newEntry]

/-- Changing the entry just taken changes the last entry of the table alone. -/
theorem updEntry_takeFrame {s : State} {p : PortId} {id : Nat} {f : RxFrame} {rest : List RxFrame} (g : Entry → Entry)
    (h : ∀ e ∈ s.table, e.id ≠ id) :
    updEntry id g (takeFrame p id f rest s) =
      { takeFrame p id f rest s with table := s.table ++ [g (newEntry id p f)] } := by
  have h1 : s.table.map (fun e => if e.id = id then g e else e) = s.table := by
    rw [List.map_congr_left (g := fun e => e)]
    · simp
    · intro e he; simp [h e he]
  have h2 : (newEntry id p f).id = id := rfl
  simp [updEntry, h1, h2]

/-! ### Dispatch -/

/-- A dispatched frame is refused with its NAK, or handed to its block. -/
theorem dispatch_cases (handler : Entry → State → State) (p : PortId) (id : Nat) (f : RxFrame) (rest : List RxFrame)
    (s : State) :
    (∃ code, dispatchCheck (takeFrame p id f rest s) p id f = some code ∧
      dispatch handler p id f rest s =
        answer id (.nak (bodyKind f.body) code) (takeFrame p id f rest s)) ∨
    dispatchCheck (takeFrame p id f rest s) p id f = none ∧
      dispatch handler p id f rest s = handler (newEntry id p f) (takeFrame p id f rest s) := by
  unfold dispatch
  split
  · rename_i code h; exact .inl ⟨code, h, rfl⟩
  · rename_i h; exact .inr ⟨h, rfl⟩

/-- A request command takes nothing, or dispatches the head frame in a free reserved entry of its port. -/
theorem request_cases (rowKind : Byte → Bool) (handler : Entry → State → State) (p : PortId) (s : State) :
    request rowKind handler p s = s ∨
    ∃ f rest id, (portOf s p).rxBuffer = f :: rest ∧ rowKind (bodyKind f.body) = true ∧ freeReserved s p = some id ∧
      request rowKind handler p s = dispatch handler p id f rest s := by
  unfold request
  split
  · exact .inl rfl
  · rename_i f rest hrx
    split
    · split
      · rename_i id hid; exact .inr ⟨f, rest, id, hrx, ‹_›, hid, rfl⟩
      · exact .inl rfl
    · exact .inl rfl

/-- A request command whose frame is due dispatches it. -/
theorem request_due {rowKind : Byte → Bool} {handler : Entry → State → State} {p : PortId} {s : State} {f : RxFrame}
    {rest : List RxFrame} {id : Nat} (hrx : (portOf s p).rxBuffer = f :: rest)
    (hk : rowKind (bodyKind f.body) = true) (hid : freeReserved s p = some id) :
    request rowKind handler p s = dispatch handler p id f rest s := by
  simp [request, hrx, hk, hid]

/-- A grant takes nothing, or dispatches the head frame of a waiting port in a free pooled entry. -/
theorem grant_cases (s : State) :
    grant s = s ∨
    ∃ f rest id p, (portOf s p).rxBuffer = f :: rest ∧ freePooled s = some id ∧ headWaits s p = true ∧
      grant s = dispatch (handlerOf (bodyKind f.body)) p id f rest { s with lastGranted := p } := by
  unfold grant
  split
  · rename_i id p hid hp
    split
    · exact .inl rfl
    · rename_i f rest hrx
      exact .inr ⟨f, rest, id, p, hrx, hid, List.find?_some hp, rfl⟩
  · exact .inl rfl

/-- A request that passes dispatch names a record of the part (R82), is of a known kind, and comes from a port in
SESSION unless its kind needs none. -/
theorem dispatchCheck_none {s : State} {p : PortId} {id : Nat} {f : RxFrame} (h : dispatchCheck s p id f = none) :
    requestKinds.contains (bodyKind f.body) = true ∧
      ((portOf s p).session = .session ∨ sessionless (bodyKind f.body) = true) ∧
      tagInUse s p id (bodyTag f.body) (bodyKind f.body) = false ∧
      notReady s.partState (bodyKind f.body) = false ∧ checkArgs f = none := by
  unfold dispatchCheck at h
  dsimp only at h
  split at h
  · cases h
  split at h
  · cases h
  split at h
  · cases h
  split at h
  · cases h
  rename_i h1 h2 h3 h4
  refine ⟨by simpa using h1, ?_, by simpa using h3, by simpa using h4, h⟩
  by_cases hs : (portOf s p).session = .session
  · exact .inl hs
  · right; simpa [hs] using h2

theorem checkArgs_record {f : RxFrame} (h : checkArgs f = none) : (argsOf f).record < Config.records := by
  unfold checkArgs at h
  dsimp only at h
  split at h
  · cases h
  split at h
  · cases h
  rename_i h2
  by_cases hk : carriesRecord (bodyKind f.body) = true
  · simpa [hk] using h2
  · simp [argsOf, hk, Config.records]

/-! ### Acceptance -/

/-- The outcome of acceptance, by the first step that applies (R20). -/
theorem acceptance_cases (s : State) (p : PortId) (r : Nat) (expected : Option Half) :
    s.partState ≠ .run ∧ acceptance s p r expected = .refused (notRunCode s.partState) ∨
    s.partState = .run ∧
      ((∃ c, claimOf s r = some c ∧ c.holder ≠ p ∧ acceptance s p r expected = .refused (.claimed c.holder)) ∨
      (∀ c, claimOf s r = some c → c.holder = p) ∧
        ((rowOf s r).state = .faulted ∧ acceptance s p r expected = .refused .faulted ∨
        (rowOf s r).state ≠ .faulted ∧
          ((∃ v, expected = some v ∧ v ≠ visibleVersion s r ∧
            acceptance s p r expected = .refused (.versionMismatch (visibleVersion s r))) ∨
          (∀ v, expected = some v → v = visibleVersion s r) ∧
            ((pendingEntry s r).isSome ∧ acceptance s p r expected = .merge ∨
            pendingEntry s r = none ∧
              (s.queue.length < Config.queueSize ∧ acceptance s p r expected = .append ∨
              Config.queueSize ≤ s.queue.length ∧ acceptance s p r expected = .wait))))) := by
  by_cases hr : s.partState = .run
  · right
    refine ⟨hr, ?_⟩
    have key : (∃ c, claimOf s r = some c ∧ c.holder ≠ p ∧ otherHolder s p r = some c.holder) ∨
        (∀ c, claimOf s r = some c → c.holder = p) ∧ otherHolder s p r = none := by
      unfold otherHolder
      cases hc : claimOf s r with
      | none => right; simp
      | some c =>
        by_cases hh : c.holder = p
        · right; simp [hh]
        · left; exact ⟨c, rfl, hh, by simp [hh]⟩
    rcases key with ⟨c, hc, hh, ho⟩ | ⟨hc, ho⟩
    · left; exact ⟨c, hc, hh, by simp [acceptance, hr, ho]⟩
    · right
      refine ⟨hc, ?_⟩
      by_cases hf : (rowOf s r).state = .faulted
      · left; exact ⟨hf, by simp [acceptance, hr, ho, hf]⟩
      · right
        refine ⟨hf, ?_⟩
        cases expected with
        | none =>
          right
          refine ⟨by simp, ?_⟩
          cases hp : pendingEntry s r with
          | some e => left; simp [acceptance, hr, ho, hf, hp]
          | none =>
            right
            refine ⟨rfl, ?_⟩
            by_cases hq : s.queue.length < Config.queueSize
            · left; simp [acceptance, hr, ho, hf, hp, hq]
            · right; simp [acceptance, hr, ho, hf, hp, hq]; omega
        | some v =>
          by_cases hv : v = visibleVersion s r
          · right
            refine ⟨by simp [hv], ?_⟩
            cases hp : pendingEntry s r with
            | some e => left; simp [acceptance, hr, ho, hf, hp, hv]
            | none =>
              right
              refine ⟨rfl, ?_⟩
              by_cases hq : s.queue.length < Config.queueSize
              · left; simp [acceptance, hr, ho, hf, hp, hq, hv]
              · right; simp [acceptance, hr, ho, hf, hp, hq, hv]; omega
          · left; exact ⟨v, rfl, hv, by simp [acceptance, hr, ho, hf, hv]⟩
  · left; exact ⟨hr, by simp [acceptance, hr]⟩

/-! ### The queue -/

theorem pendingEntry_some {s : State} {r : Nat} {e : QueueEntry} (h : pendingEntry s r = some e) :
    e ∈ s.queue ∧ e.record = r ∧ e.phase = .pending := by
  refine ⟨List.mem_of_find?_eq_some h, ?_⟩
  simpa using List.find?_some h

theorem programmingEntry_some {s : State} {r : Nat} {e : QueueEntry} (h : programmingEntry s r = some e) :
    e ∈ s.queue ∧ e.record = r ∧ e.phase = .programming := by
  refine ⟨List.mem_of_find?_eq_some h, ?_⟩
  simpa using List.find?_some h

theorem inProgramming_some {s : State} {e : QueueEntry} (h : inProgramming s = some e) :
    e ∈ s.queue ∧ e.phase = .programming := by
  refine ⟨List.mem_of_find?_eq_some h, ?_⟩
  simpa using List.find?_some h

theorem oldestPending_some {s : State} {e : QueueEntry} (h : oldestPending s = some e) :
    e ∈ s.queue ∧ e.phase = .pending := by
  refine ⟨List.mem_of_find?_eq_some h, ?_⟩
  simpa using List.find?_some h

theorem nextVersion_ne_zero (v : Half) : nextVersion v ≠ 0 := by
  unfold nextVersion
  split
  · decide
  · rename_i h
    intro h0
    apply h
    have := congrArg BitVec.toNat h0
    apply BitVec.eq_of_toNat_eq
    simp [BitVec.toNat_add] at this ⊢
    omega

/-! ### Ports -/

theorem noticeCount_append_response (l : List TxFrame) (r : Response) :
    noticeCount (l ++ [.response r]) = noticeCount l := by simp [noticeCount, isResponse]

theorem responseCount_append_response (l : List TxFrame) (r : Response) :
    responseCount (l ++ [.response r]) = responseCount l + 1 := by
  simp [responseCount, List.filter_cons, isResponse]

theorem noticeCount_append_notice (l : List TxFrame) (n : Notice) (g : Bool) :
    noticeCount (l ++ [.notice n g]) = noticeCount l + 1 := by simp [noticeCount, isResponse]

theorem responseCount_append_notice (l : List TxFrame) (n : Notice) (g : Bool) :
    responseCount (l ++ [.notice n g]) = responseCount l := by simp [responseCount, isResponse]

/-- The window check leaves the frame out, with OVERRUN set or as it was, or admits it below the window (R143, R144). -/
theorem windowCheck_cases (p : PortId) (body : List Byte) (s : State) :
    windowCheck p body s = s ∨ windowCheck p body s = updPort p (fun x => { x with overrun := true }) s ∨
      outstanding s p < Config.window ∧ windowCheck p body s = updPort p (admitFrame body) s := by
  unfold windowCheck
  split
  · split
    · rename_i h
      simp at h
      exact .inr (.inr ⟨h.2, rfl⟩)
    · exact .inl rfl
  · split
    · exact .inr (.inr ⟨‹_›, rfl⟩)
    · exact .inr (.inl rfl)

end Sys2Proof.Machine
end

