-- ==== Sys2Proof/Laws/Links.lean ====
section
/-! SUPPORT. The links: the fields that a byte boundary and the end of a head frame leave alone, and what the exchange of
bytes can do. -/

namespace Sys2Proof.Machine

/-! ### The byte boundary (R136) -/

@[simp] theorem presentNext_mode (x : Port) : (presentNext x).mode = x.mode := by
  unfold presentNext; split <;> rfl
@[simp] theorem presentNext_session (x : Port) : (presentNext x).session = x.session := by
  unfold presentNext; split <;> rfl
@[simp] theorem presentNext_epoch (x : Port) : (presentNext x).epoch = x.epoch := by
  unfold presentNext; split <;> rfl
@[simp] theorem presentNext_bitPeriod (x : Port) : (presentNext x).bitPeriod = x.bitPeriod := by
  unfold presentNext; split <;> rfl
@[simp] theorem presentNext_receiver (x : Port) : (presentNext x).receiver = x.receiver := by
  unfold presentNext; split <;> rfl
@[simp] theorem presentNext_rxBuffer (x : Port) : (presentNext x).rxBuffer = x.rxBuffer := by
  unfold presentNext; split <;> rfl
@[simp] theorem presentNext_tx (x : Port) : (presentNext x).tx = x.tx := by
  unfold presentNext; split <;> rfl
@[simp] theorem presentNext_selected (x : Port) : (presentNext x).selected = x.selected := by
  unfold presentNext; split <;> rfl
@[simp] theorem presentNext_frameErr (x : Port) : (presentNext x).frameErr = x.frameErr := by
  unfold presentNext; split <;> rfl
@[simp] theorem presentNext_overrun (x : Port) : (presentNext x).overrun = x.overrun := by
  unfold presentNext; split <;> rfl
@[simp] theorem presentNext_noticeGap (x : Port) : (presentNext x).noticeGap = x.noticeGap := by
  unfold presentNext; split <;> rfl
@[simp] theorem presentNext_flush (x : Port) : (presentNext x).flush = x.flush := by
  unfold presentNext; split <;> rfl
@[simp] theorem presentNext_held (x : Port) : (presentNext x).held = x.held := by
  unfold presentNext; split <;> rfl

/-- After a byte boundary a frame is in progress exactly where one is queued. -/
theorem presentNext_sending (x : Port) :
    (presentNext x).sending = if x.tx = [] then none else some (x.sending.getD 0) := by
  unfold presentNext; split <;> simp [*]

/-- After a byte boundary the byte on DOUT is that of the frame in progress, or fill. -/
theorem presentNext_outByte (x : Port) : (presentNext x).outByte = some (presentedByte (presentNext x)) := by
  unfold presentNext presentedByte
  cases x.tx <;> simp

@[simp] theorem dropHead_mode (rest : List TxFrame) (x : Port) : (dropHead rest x).mode = x.mode := rfl
@[simp] theorem dropHead_session (rest : List TxFrame) (x : Port) : (dropHead rest x).session = x.session := rfl
@[simp] theorem dropHead_epoch (rest : List TxFrame) (x : Port) : (dropHead rest x).epoch = x.epoch := rfl
@[simp] theorem dropHead_bitPeriod (rest : List TxFrame) (x : Port) : (dropHead rest x).bitPeriod = x.bitPeriod := rfl
@[simp] theorem dropHead_receiver (rest : List TxFrame) (x : Port) : (dropHead rest x).receiver = x.receiver := rfl
@[simp] theorem dropHead_rxBuffer (rest : List TxFrame) (x : Port) : (dropHead rest x).rxBuffer = x.rxBuffer := rfl
@[simp] theorem dropHead_selected (rest : List TxFrame) (x : Port) : (dropHead rest x).selected = x.selected := rfl
@[simp] theorem dropHead_frameErr (rest : List TxFrame) (x : Port) : (dropHead rest x).frameErr = x.frameErr := rfl
@[simp] theorem dropHead_overrun (rest : List TxFrame) (x : Port) : (dropHead rest x).overrun = x.overrun := rfl
@[simp] theorem dropHead_noticeGap (rest : List TxFrame) (x : Port) : (dropHead rest x).noticeGap = x.noticeGap := rfl
@[simp] theorem dropHead_flush (rest : List TxFrame) (x : Port) : (dropHead rest x).flush = x.flush := rfl
@[simp] theorem dropHead_held (rest : List TxFrame) (x : Port) : (dropHead rest x).held = x.held := rfl
@[simp] theorem dropHead_outByte (rest : List TxFrame) (x : Port) : (dropHead rest x).outByte = x.outByte := rfl
@[simp] theorem dropHead_tx (rest : List TxFrame) (x : Port) : (dropHead rest x).tx = rest := rfl

/-! ### A port's link leaves the other ports alone (R130) -/

theorem placeHeld_other (p q : PortId) (s : State) (h : q ≠ p) : portOf (placeHeld p s) q = portOf s q := by
  unfold placeHeld
  (repeat' split) <;>
    first
      | rfl
      | exact portOf_updPort_other _ _ _ _ h
      | (rw [freeEntry_portOf]; exact portOf_updPort_other _ _ _ _ h)

theorem frameLeaves_other (p q : PortId) (s : State) (h : q ≠ p) : portOf (frameLeaves p s) q = portOf s q := by
  unfold frameLeaves
  split
  · rfl
  · split
    · rw [placeHeld_other _ _ _ h, portOf_updPort_other _ _ _ _ h]
    · exact portOf_updPort_other _ _ _ _ h

theorem outgoingDone_other (p q : PortId) (s : State) (h : q ≠ p) : portOf (outgoingDone p s) q = portOf s q := by
  unfold outgoingDone
  split
  · split
    · exact portOf_updPort_other _ _ _ _ h
    · exact frameLeaves_other _ _ _ h
  · rfl

theorem windowCheck_other (p q : PortId) (body : List Byte) (s : State) (h : q ≠ p) :
    portOf (windowCheck p body s) q = portOf s q := by
  obtain e | e | ⟨-, e⟩ := windowCheck_cases p body s <;> rw [e]
  · exact portOf_updPort_other _ _ _ _ h
  · exact portOf_updPort_other _ _ _ _ h

theorem goodFrame_other (p q : PortId) (body : List Byte) (s : State) (h : q ≠ p) :
    portOf (goodFrame p body s) q = portOf s q := by
  unfold goodFrame
  rw [windowCheck_other _ _ _ _ h, portOf_updPort_other _ _ _ _ h]

/-- A byte at the receiver changes nothing, or the port's receiver, or fails its frame, or completes a good one. -/
theorem takeByte_cases (p : PortId) (b : Byte) (good : Bool) (s : State) :
    takeByte p b good s = s ∨ (∃ r, takeByte p b good s = updPort p (fun x => { x with receiver := r }) s) ∨
      (∃ r, takeByte p b good s = updPort p (failFrame r) s) ∨ ∃ body, takeByte p b good s = goodFrame p body s := by
  unfold takeByte checkFrame
  dsimp only
  (repeat' split) <;>
    first
      | exact .inl rfl
      | exact .inr (.inl ⟨_, rfl⟩)
      | exact .inr (.inr (.inl ⟨_, rfl⟩))
      | exact .inr (.inr (.inr ⟨_, rfl⟩))

theorem takeByte_other (p q : PortId) (b : Byte) (good : Bool) (s : State) (h : q ≠ p) :
    portOf (takeByte p b good s) q = portOf s q := by
  obtain e | ⟨r, e⟩ | ⟨r, e⟩ | ⟨body, e⟩ := takeByte_cases p b good s <;> rw [e]
  · exact portOf_updPort_other _ _ _ _ h
  · exact portOf_updPort_other _ _ _ _ h
  · exact goodFrame_other _ _ _ _ h

theorem exchange_other (p q : PortId) (order : EdgeOrder) (incoming : State → State) (s : State) (h : q ≠ p)
    (hi : ∀ u, portOf (incoming u) q = portOf u q) : portOf (exchange p order incoming s) q = portOf s q := by
  unfold exchange
  rw [portOf_updPort_other _ _ _ _ h]
  cases order
  · rw [outgoingDone_other _ _ _ h, hi]
  · rw [hi, outgoingDone_other _ _ _ h]

theorem exchangeOut_other (p q : PortId) (n : Nat) (s : State) (h : q ≠ p) :
    portOf (exchangeOut p n s) q = portOf s q := by
  induction n generalizing s with
  | zero => rfl
  | succ n ih => rw [exchangeOut, ih]; exact exchange_other _ _ _ _ _ h (fun _ => rfl)

end Sys2Proof.Machine
end

