-- ==== Sys2Proof/Laws/Stores.lean ====
section
/-! SUPPORT. The keyed lists and the cell array: read after write, and the canonical form kept by every operation. -/

namespace Sys2Proof.Machine

/-! ### Keyed lists: what a key reads as -/

theorem keyedFind_keyedInsert {α : Type} (k : Nat) (v : α) (l : List (Nat × α)) (j : Nat) :
    keyedFind (keyedInsert k v l) j = if j = k then some v else keyedFind l j := by
  induction l with
  | nil => simp [keyedInsert, keyedFind, eq_comm]
  | cons a l ih =>
    obtain ⟨i, w⟩ := a
    simp only [keyedInsert]
    split
    · simp [keyedFind, eq_comm]
    · split
      · rename_i h; subst h
        simp only [keyedFind, eq_comm (a := k) (b := j)]
        split <;> rfl
      · simp only [keyedFind, ih]
        split
        · rename_i h; subst h; simp; omega
        · rfl

theorem keyedFind_keyedErase {α : Type} (k : Nat) (l : List (Nat × α)) (j : Nat) :
    keyedFind (keyedErase k l) j = if j = k then none else keyedFind l j := by
  induction l with
  | nil => simp [keyedErase, keyedFind]
  | cons a l ih =>
    obtain ⟨i, w⟩ := a
    by_cases h : i = k
    · subst h
      have hl : keyedErase i ((i, w) :: l) = keyedErase i l := by simp [keyedErase]
      rw [hl, ih]; simp only [keyedFind]
      by_cases hj : j = i
      · simp [hj]
      · simp [hj, Ne.symm hj]
    · have hl : keyedErase k ((i, w) :: l) = (i, w) :: keyedErase k l := by simp [keyedErase, h]
      rw [hl]; simp only [keyedFind, ih]
      by_cases hj : i = j
      · subst hj; simp [h]
      · simp [hj]

/-- A key reads as it was last set, every other key as before. -/
theorem keyedGet_keyedSet {α : Type} [DecidableEq α] (u : Nat → α) (k : Nat) (v : α) (l : List (Nat × α)) (j : Nat) :
    keyedGet u (keyedSet u k v l) j = if j = k then v else keyedGet u l j := by
  unfold keyedGet keyedSet
  split
  · rename_i h
    rw [keyedFind_keyedErase]
    by_cases hj : j = k
    · subst hj; simp [h]
    · simp [hj]
  · rw [keyedFind_keyedInsert]
    by_cases hj : j = k
    · simp [hj]
    · simp [hj]

@[simp] theorem keyedGet_keyedSet_same {α : Type} [DecidableEq α] (u : Nat → α) (k : Nat) (v : α)
    (l : List (Nat × α)) : keyedGet u (keyedSet u k v l) k = v := by simp [keyedGet_keyedSet]

theorem keyedGet_keyedSet_other {α : Type} [DecidableEq α] (u : Nat → α) (k : Nat) (v : α) (l : List (Nat × α))
    (j : Nat) (h : j ≠ k) : keyedGet u (keyedSet u k v l) j = keyedGet u l j := by simp [keyedGet_keyedSet, h]

/-! ### Keyed lists: the canonical form -/

theorem mem_keyedInsert {α : Type} {k : Nat} {v : α} {l : List (Nat × α)} {e : Nat × α} :
    e ∈ keyedInsert k v l → e = (k, v) ∨ e ∈ l := by
  induction l with
  | nil => simp [keyedInsert]
  | cons a l ih =>
    obtain ⟨j, w⟩ := a
    simp only [keyedInsert]
    split
    · simp
    · split
      · intro h; simp at h; rcases h with h | h <;> simp [h]
      · intro h; simp at h; rcases h with h | h
        · simp [h]
        · rcases ih h with h | h <;> simp [h]

theorem keysRise_keyedInsert {α : Type} (k : Nat) (v : α) (l : List (Nat × α)) (h : KeysRise l) :
    KeysRise (keyedInsert k v l) := by
  induction l with
  | nil => simp [keyedInsert]
  | cons a l ih =>
    obtain ⟨j, w⟩ := a
    obtain ⟨h1, h2⟩ := List.pairwise_cons.1 h
    simp only [keyedInsert]
    split
    · rename_i hk
      refine List.Pairwise.cons ?_ (List.Pairwise.cons h1 h2)
      intro e he
      simp at he
      rcases he with rfl | he
      · exact hk
      · exact Nat.lt_trans hk (h1 e he)
    · split
      · rename_i hk; subst hk
        exact List.Pairwise.cons h1 h2
      · refine List.Pairwise.cons ?_ (ih h2)
        intro e he
        rcases mem_keyedInsert he with rfl | he
        · simp; omega
        · exact h1 e he

theorem keysRise_filter {α : Type} (f : Nat × α → Bool) (l : List (Nat × α)) (h : KeysRise l) :
    KeysRise (l.filter f) := h.sublist List.filter_sublist

/-- A list that holds a key of rising keys reads as its value there. -/
theorem keyedFind_of_mem {α : Type} {l : List (Nat × α)} (h : KeysRise l) {e : Nat × α} (he : e ∈ l) :
    keyedFind l e.1 = some e.2 := by
  induction l with
  | nil => simp at he
  | cons a l ih =>
    obtain ⟨j, w⟩ := a
    have hc := List.pairwise_cons.1 h
    simp at he
    rcases he with rfl | he
    · simp [keyedFind]
    · have := hc.1 e he
      have hne : j ≠ e.1 := by simp at this; omega
      simp only [keyedFind, hne, if_false]
      exact ih hc.2 he

theorem mem_of_keyedFind {α : Type} {l : List (Nat × α)} {k : Nat} {v : α} (h : keyedFind l k = some v) :
    (k, v) ∈ l := by
  induction l with
  | nil => simp [keyedFind] at h
  | cons a l ih =>
    obtain ⟨j, w⟩ := a
    simp only [keyedFind] at h
    split at h
    · rename_i hj; subst hj; simp at h; simp [h]
    · simp [ih h]

theorem canonical_keyedSet {α : Type} [DecidableEq α] (u : Nat → α) (k : Nat) (v : α) (l : List (Nat × α))
    (h : Canonical u l) : Canonical u (keyedSet u k v l) := by
  unfold keyedSet
  split
  · refine ⟨keysRise_filter _ _ h.1, ?_⟩
    intro e he
    exact h.2 e (List.mem_of_mem_filter he)
  · rename_i hv
    refine ⟨keysRise_keyedInsert _ _ _ h.1, ?_⟩
    intro e he
    rcases mem_keyedInsert he with rfl | he
    · exact hv
    · exact h.2 e he

theorem canonical_filter {α : Type} (u : Nat → α) (f : Nat × α → Bool) (l : List (Nat × α)) (h : Canonical u l) :
    Canonical u (l.filter f) :=
  ⟨keysRise_filter _ _ h.1, fun e he => h.2 e (List.mem_of_mem_filter he)⟩

/-- Two canonical lists that read alike are equal: the form is canonical. -/
theorem canonical_ext {α : Type} (u : Nat → α) (l m : List (Nat × α)) (hl : Canonical u l) (hm : Canonical u m)
    (h : ∀ k, keyedGet u l k = keyedGet u m k) : l = m := by
  have sub : ∀ l m : List (Nat × α), Canonical u l → Canonical u m → (∀ k, keyedGet u l k = keyedGet u m k) →
      ∀ e ∈ l, e ∈ m := by
    intro l m hl hm h e he
    have h1 := h e.1
    rw [keyedGet, keyedFind_of_mem hl.1 he] at h1
    simp only [Option.getD_some, keyedGet] at h1
    cases hf : keyedFind m e.1 with
    | none => rw [hf] at h1; exact absurd h1 (hl.2 e he)
    | some v =>
      rw [hf] at h1
      simp at h1
      have := mem_of_keyedFind hf
      rw [← h1] at this
      exact this
  have irr : ∀ l : List (Nat × α), KeysRise l → l.Nodup := fun l hl =>
    hl.imp (fun {a b} hab heq => by subst heq; exact Nat.lt_irrefl _ hab)
  have hp : l.Perm m := (List.perm_ext_iff_of_nodup (irr l hl.1) (irr m hm.1)).2
    (fun e => ⟨sub l m hl hm h e, sub m l hm hl (fun k => (h k).symm) e⟩)
  refine hp.eq_of_pairwise ?_ hl.1 hm.1
  intro a b _ _ hab hba
  exact absurd (Nat.lt_trans hab hba) (Nat.lt_irrefl _)

/-! ### The cell array -/

theorem readCell_writeBytes (a : Nat) (bytes : List Byte) (cells : List Host.Cell) (j : Nat) :
    keyedGet deliveredByte (writeBytes a bytes cells) j =
      if a ≤ j ∧ j < a + bytes.length then byteAt bytes (j - a) else keyedGet deliveredByte cells j := by
  induction bytes generalizing a cells with
  | nil => simp only [writeBytes, List.length_nil, Nat.add_zero]; rw [if_neg (by omega)]
  | cons b rest ih =>
    rw [writeBytes, ih]
    by_cases h1 : a + 1 ≤ j ∧ j < a + 1 + rest.length
    · have h2 : a ≤ j ∧ j < a + (b :: rest).length := by simp; omega
      have h3 : j - a = (j - (a + 1)) + 1 := by omega
      rw [if_pos h1, if_pos h2, h3]; simp [byteAt]
    · rw [if_neg h1, keyedGet_keyedSet]
      by_cases h2 : j = a
      · subst h2; simp [byteAt]
      · have h3 : ¬(a ≤ j ∧ j < a + (b :: rest).length) := by simp; omega
        rw [if_neg h2, if_neg h3]

theorem cellsCanonical_writeBytes (a : Nat) (bytes : List Byte) (cells : List Host.Cell) (h : CellsCanonical cells) :
    CellsCanonical (writeBytes a bytes cells) := by
  induction bytes generalizing a cells with
  | nil => exact h
  | cons b rest ih => exact ih _ _ (canonical_keyedSet _ _ _ _ h)

/-- A write of a slot keeps the array in its canonical form. -/
theorem cellsCanonical_writeSlot (slot : Nat) (bytes : List Byte) (s : State) (h : CellsCanonical s.cells) :
    CellsCanonical (writeSlot slot bytes s).cells := cellsCanonical_writeBytes _ _ _ h

/-- A byte of the slot reads as written, every other byte as before. -/
theorem readCell_writeSlot (slot : Nat) (bytes : List Byte) (s : State) (a : Nat) :
    readCell (writeSlot slot bytes s) a =
      if 56 * slot ≤ a ∧ a < 56 * slot + min 56 bytes.length then byteAt (bytes.take 56) (a - 56 * slot)
      else readCell s a := by
  show keyedGet deliveredByte (writeBytes (cellAddress slot 0) (bytes.take Config.slotBytes) s.cells) a = _
  rw [readCell_writeBytes]
  simp [cellAddress, Config.slotBytes, readCell]

theorem readCell_writeSlot_other (slot : Nat) (bytes : List Byte) (s : State) (a : Nat)
    (h : a < 56 * slot ∨ 56 * slot + 56 ≤ a) : readCell (writeSlot slot bytes s) a = readCell s a := by
  rw [readCell_writeSlot, if_neg]; omega

/-- A slot written with 56 bytes reads as them. -/
theorem readSlot_writeSlot_same (slot : Nat) (bytes : List Byte) (s : State) (h : bytes.length = 56) :
    readSlot (writeSlot slot bytes s) slot = bytes := by
  apply List.ext_getElem
  · simp [readSlot, Config.slotBytes, h]
  · intro i h1 h2
    simp only [readSlot, List.getElem_map, List.getElem_range]
    rw [readCell_writeSlot]
    have hi : i < 56 := by omega
    have : 56 * slot ≤ cellAddress slot i ∧ cellAddress slot i < 56 * slot + min 56 bytes.length := by
      simp [cellAddress, Config.slotBytes, h]; omega
    rw [if_pos this]
    have h3 : cellAddress slot i - 56 * slot = i := by simp [cellAddress, Config.slotBytes]
    rw [h3, List.take_of_length_le (by omega), byteAt]
    simp [h2]

/-- A write of one slot leaves every other slot's bytes. -/
theorem readSlot_writeSlot_other (slot other : Nat) (bytes : List Byte) (s : State) (h : other ≠ slot) :
    readSlot (writeSlot slot bytes s) other = readSlot s other := by
  unfold readSlot
  apply List.map_congr_left
  intro i hi
  apply readCell_writeSlot_other
  simp [cellAddress, Config.slotBytes] at hi ⊢
  omega

/-! ### Rows and spares -/

theorem rowOf_setRow (r : Nat) (row : Row) (s : State) (q : Nat) :
    rowOf (setRow r row s) q = if q = r then row else rowOf s q := keyedGet_keyedSet _ _ _ _ _

theorem spareOf_setSpare (n : Nat) (x : SpareState) (s : State) (m : Nat) :
    spareOf (setSpare n x s) m = if m = n then x else spareOf s m := keyedGet_keyedSet _ _ _ _ _

/-- The stores right after reset are in their canonical form. -/
theorem reset_stores_canonical :
    CellsCanonical State.reset.cells ∧ Canonical (fun _ => Row.reset) State.reset.directory ∧
      Canonical (fun _ => SpareState.retired) State.reset.spares ∧ KeysRise State.reset.claims := by
  simp [State.reset, Canonical, CellsCanonical]

end Sys2Proof.Machine
end

