-- ==== Sys2Proof/Tests/Slice0.lean ====
section
/-! SUPPORT. Tests: what WellFormed refuses, byte strings written out from chapter 10, at most two small runs of one
command each with results taken from the spec's rules and examples, and for every statement with hypotheses a state
and operands that meet them, clause by clause. -/

namespace Sys2Proof.Tests

open Sys2Proof Sys2Proof.Machine

-- Theorems one after another: many kernel evaluations at once would start more threads than the check's memory allows.
set_option Elab.async false

/-! ### States built for the tests -/

/-- An ASYNC port in its first session, calibrated at 1600 periods of 62.5 ns. -/
def sessionPort : Port := { Port.reset .async with session := .session, epoch := 1, bitPeriod := some 1600 }

/-- RUN with nothing in course: P0 and P1 in SESSION, P2 CLOCKED in LINK_UP, P3 ASYNC in LINK_DOWN; the marker slot
reads DIRTY. -/
def running : State := writeSlot Config.markerSlot (markerImage .dirty)
  { State.reset with
    ports := ⟨sessionPort, sessionPort, Port.reset .clocked, Port.reset .async⟩
    built := true
    op := none
    mode := .fetchFirst
    scanNext := 1057
    partState := .run
    verdict := .clean
    scanOrder := false }

/-- P0's receive buffer holds one frame with this body. -/
def asked (body : List Byte) (s : State) : State := updPort .p0 (fun x => { x with rxBuffer := [⟨body, false⟩] }) s

/-- The request of that frame passes dispatch from reserved entry 0. -/
abbrev AskedPasses (body : List Byte) (s : State) : Prop := Passes (asked body s) .p0 0 ⟨body, false⟩ []

/-- The state after a command. -/
def after (c : Instr) (s : State) : State :=
  match exec c s with
  | .next t => t
  | .fault _ => s
  | .refused _ => s

/-- P0's last frame of its transmit queue, as body bytes. -/
def lastBody (s : State) : List Byte := ((portOf s .p0).tx.getLast?.map txBody).getD []

/-- Row r set, as a VALID row on its primary. -/
def valid (r : Nat) (v : Half) (n : Nat) (s : State) : State := setRow r ⟨.valid, v, n, .primary⟩ s

/-- A PENDING entry of P0. -/
def pend (r : Nat) (c : Change) (v : Half) : QueueEntry := freshEntry .p0 r c v

/-- A PROGRAMMING entry of P0 at this attempt on this target. -/
def prog (r : Nat) (c : Change) (v : Half) (n : Nat) (l : Location) : QueueEntry :=
  { freshEntry .p0 r c v with phase := .programming, attempts := n, target := some l }

/-- The program of an entry is in flight on its target, the queue holding it and others behind it. -/
def programming (e : QueueEntry) (others : List QueueEntry) (s : State) : State :=
  { s with queue := e :: others, op := some (.program (slotOf e.record (e.target.getD .primary))) }

/-- n PENDING entries of the records from 100 on. -/
def many (n : Nat) : List QueueEntry := (List.range n).map (fun i => pend (100 + i) .erase 1)

/-- P0's receiver stands so. -/
def receiving (r : Receiver) (s : State) : State := updPort .p0 (fun x => { x with receiver := r }) s

/-- P0 has n frames in its receive buffer, and OVERRUN as given. -/
def buffered (n : Nat) (o : Bool) : State :=
  updPort .p0 (fun x => { x with rxBuffer := List.replicate n ⟨[0x22, 1, 0], false⟩, overrun := o }) running

/-- A held entry of P0 in this state, for a request of this kind and record. -/
def entry (id : Nat) (kind : Byte) (r : Nat) (x : EntryState) : Entry :=
  ⟨id, .p0, 7, kind, ⟨r, 0, [], 0, false⟩, true, x, none⟩

/-- P0's port in SESSION holds an answer behind four placed ones. -/
def heldBack : State :=
  updPort .p0 (fun x =>
      { x with tx := List.replicate 4 (.response ⟨1, .released 5⟩), sending := some 0, held := [0] })
    { running with table := [{ entry 0 kindWatch 5 .dispatched with response := some ⟨7, .watching 5⟩ }] }

/-- P2 selected, sending byte k of this queue. -/
def sendingAt (k : Option Nat) (tx : List TxFrame) : State :=
  updPort .p2 (fun x => { x with selected := true, tx := tx, sending := k }) running

/-- The part held in reset. -/
def inReset : State := { State.reset with resetHold := some ⟨false, false⟩ }

/-- HOLDUP before the CLEAN sequence, with one entry being programmed. -/
def draining : State :=
  programming (prog 5 .erase 1 1 .primary) [] { running with partState := .holdup, mode := .drainOnly, pfwAsserted := true }

/-- HOLDUP in the CLEAN sequence at this attempt. -/
def cleaning (n : Nat) : State :=
  { running with
    partState := .holdup, mode := .drainOnly, pfwAsserted := true, markerSeq := some (.clean, n)
    op := some (.markerProgram .clean) }

/-- STARTUP with the scan done, in the DIRTY sequence at this attempt. -/
def marking (n : Nat) : State :=
  { running with
    partState := .startup, mode := .scan, markerSeq := some (.dirty, n), op := some (.markerProgram .dirty) }

/-- PARKED over a built directory. -/
def parked : State := { running with partState := .parked, mode := .drainOnly, pfwAsserted := true }

/-- RESUMING in its DIRTY sequence. -/
def resuming : State :=
  { running with
    partState := .resuming, mode := .drainOnly, markerSeq := some (.dirty, 1), op := some (.markerProgram .dirty) }

/-- STARTUP with the scan fetch of this slot in flight. -/
def scanning (slot next : Nat) : State := { State.reset with op := some (.scanFetch slot false), scanNext := next }

/-- Every spare FREE. -/
def allFree : List (Nat × SpareState) := (List.range 32).map (fun n => (n, .free))

/-! ### WellFormed refuses -/

theorem test_wf_refuses_a_short_body : (Instr.frameReceived .p0 ⟨[1, 2], .incomingFirst⟩).wf = false := by decide
theorem test_wf_refuses_a_long_body :
    (Instr.frameReceived .p0 ⟨List.replicate 57 0, .incomingFirst⟩).wf = false := by decide
theorem test_wf_refuses_a_slot_read_of_55_bytes :
    (Instr.fetchCompletion (.other (List.replicate 55 0))).wf = false ∧
    (Instr.programCompletion (.other (List.replicate 55 0))).wf = false ∧
    (Instr.markerProgramCompletion (.other (List.replicate 57 0))).wf = false ∧
    (Instr.scanFetchCompletion (.other [])).wf = false := by decide
theorem test_wf_refuses_a_torn_slot_of_57_bytes : (Instr.reset .pin (.other (List.replicate 57 0))).wf = false := by
  decide
theorem test_wf_refuses_more_bytes_than_a_frame_has :
    (Instr.frameError .p0 (.stopBit 58)).wf = false ∧ (Instr.frameError .p0 (.crcMismatch 57)).wf = false := by decide
theorem test_wf_refuses_an_attention_as_calibration : (Instr.calibration .p0 40001).wf = false := by decide
theorem test_wf_refuses_record_1024 : (Instr.leaseExpiry 1024).wf = false := by decide
theorem test_wf_admits_the_bounds :
    (Instr.frameReceived .p0 ⟨List.replicate 56 0, .outgoingFirst⟩).wf = true ∧ (Instr.frameError .p0 (.stopBit 57)).wf = true ∧
    (Instr.calibration .p0 40000).wf = true ∧ (Instr.leaseExpiry 1023).wf = true := by decide

/-! ### Bytes written out from chapter 10 -/

/-- R169: the CRC of the nine ASCII bytes 31H..39H is 29B1H. -/
theorem test_crc_of_the_check_string :
    crc [0x31, 0x32, 0x33, 0x34, 0x35, 0x36, 0x37, 0x38, 0x39] = 0x29B1#16 := by decide +kernel

/-- R170: CLAIM(200, 500) with tag 9 is 10H 09H 00C8H 01F4H. -/
theorem test_claim_body_is_read :
    argsOf ⟨[0x10, 0x09, 0x00, 0xC8, 0x01, 0xF4], false⟩ = ⟨200, 0, [], 500, false⟩ := by decide

/-- R170: WRITE_IF(300, expected 258, AAH BBH) is 03H tag 012CH 0102H 02H AAH BBH. -/
theorem test_write_if_body_is_read :
    argsOf ⟨[0x03, 0x09, 0x01, 0x2C, 0x01, 0x02, 0x02, 0xAA, 0xBB], false⟩ =
      ⟨300, 258, [0xAA, 0xBB], 0, false⟩ := by decide

/-- R170: a WRITE that declares 60 bytes to record 2000, within a body of allowed length, is BAD_REC; an ERASE with a
byte after its record is BAD_ARG. -/
theorem test_argument_tests_in_order :
    checkArgs ⟨[0x02, 1, 0x07, 0xD0, 60, 0], false⟩ = some .badRec ∧
    checkArgs ⟨[0x04, 1, 0, 5, 0], false⟩ = some .badArg := by decide

/-- R171: the bodies of a NAK with a field, of a LINKUP and of a CHANGED. -/
theorem test_bodies_of_what_the_part_sends :
    txBody (.response ⟨4, .nak kindWrite (.claimed .p1)⟩) = [0xBF, 4, 0x02, 0x20, 1] ∧
    txBody (.notice (.linkup .p3 .run) false) = [0xC0, 0, 0x5A, 0x42, 1, 3, 1] ∧
    txBody (.notice (.changed 1023 258 .p2 .erase) true) = [0xC1, 1, 0x03, 0xFF, 0x01, 0x02, 2, 1] := by decide

/-- R172: STATUS_INFO has 21 bytes; byte 11 counts the FREE spares, byte 20 holds the flags. -/
theorem test_status_body :
    txBody (.response ⟨9, .statusInfo ⟨.run, .pin, .unclean, true, 32, .drainFirst, 31, 258, 1024, 16, 64, 255,
        .session, true, false, true⟩⟩) =
      [0xA2, 9, 0x5A, 0x42, 1, 1, 2, 1, 1, 32, 2, 31, 1, 2, 4, 0, 16, 64, 255, 2, 5] := by decide

/-- R172: INSPECT_INFO of a record with a PROGRAMMING and a PENDING entry has 28 bytes. -/
theorem test_inspect_body :
    txBody (.response ⟨9, .inspectInfo ⟨77, ⟨.valid, 39, 8, .spare 2⟩,
        [⟨.programming, .write, 40, 3, some (.spare 1)⟩, ⟨.pending, .erase, 41, 0, none⟩], 41, some (.p2, 2999), 4⟩⟩) =
      [0x85, 9, 0, 77, 1, 0, 39, 8, 2, 2, 1, 0, 0, 40, 3, 1, 0, 1, 0, 41, 0, 0xFE, 0, 41, 2, 0x0B, 0xB7, 4] := by
  decide

/-- R173: the delivered images of primary 258 and of a spare, their check words apart, and of the marker slot. -/
theorem test_delivered_images :
    (deliveredImage 258).take 6 = [0x5A, 0x01, 0x02, 0, 0, 0] ∧
    (deliveredImage 1055).take 6 = [0xA5, 0xFF, 0xFF, 0, 0, 0] ∧
    (deliveredImage 1056).take 1 = [0x96] ∧ (deliveredImage 1056).length = 56 := by decide +kernel

/-- The table gives no row bits (log 17). -/
theorem test_no_word_spells_a_command : decodeTableWord 8 0x01 = none := by decide

/-! ### One command each -/

/-- R143: a good frame at the count of 4 is discarded and sets OVERRUN. -/
theorem test_fifth_frame_sets_overrun :
    portOf (after (.frameReceived .p0 ⟨[0x01, 5, 0, 9], .incomingFirst⟩) (buffered 4 false)) .p0 =
      { portOf (buffered 4 false) .p0 with overrun := true } := by decide +kernel

/-- R135, R136: the 8 bytes of a READ on a CLOCKED port draw out the 8 bytes of OPENED, and fill follows. -/
theorem test_frame_on_clocked_draws_bytes :
    portOf (after (.frameReceived .p2 ⟨[0x01, 3, 0, 40], .outgoingFirst⟩) (sendingAt (some 0) [.response ⟨1, .opened 2 .run⟩]))
        .p2 =
      { Port.reset .clocked with
        selected := true, rxBuffer := [⟨[0x01, 3, 0, 40], false⟩], outByte := some 0xFF } := by decide +kernel

/-- R141: a stop-bit error with two bytes to come sets FRAME_ERR and skips them. -/
theorem test_frame_error_skips_the_rest :
    portOf (after (.frameError .p0 (.stopBit 2)) (receiving (.inFrame (some 3) [1, 2]) running)) .p0 =
      { sessionPort with receiver := .skipping 2, frameErr := true } := by decide +kernel

/-- R141: the gap timeout ends a skip. -/
theorem test_gap_timeout_hunts_again :
    portOf (after (.interByteGapTimeout .p0) (receiving (.skipping 2) running)) .p0 =
      { sessionPort with frameErr := true } := by decide +kernel

/-- R136: a deselection leaves the outgoing frame at the head, and between frames sets no flag. -/
theorem test_deselection_keeps_the_outgoing_frame :
    portOf (after (.deselection .p2) (updPort .p2 (fun x =>
        { x with tx := [.response ⟨1, .released 5⟩], sending := some 4, outByte := some 0, selected := true })
        running)) .p2 =
      { Port.reset .clocked with tx := [.response ⟨1, .released 5⟩] } := by decide +kernel

/-- R133, R148: a low period of 8 µs brings P3 up, and LINKUP names P3 and RUN. -/
theorem test_calibration_places_linkup :
    portOf (after (.calibration .p3 128) running) .p3 =
      { Port.reset .async with
        session := .linkUp, bitPeriod := some 128, tx := [.notice (.linkup .p3 .run) false], sending := some 0 } := by
  decide +kernel

/-- R139, R118: attention takes the session, its claims and its bit period; epoch and FRAME_ERR stay. -/
theorem test_attention_ends_the_session :
    portOf (after (.attention .p0)
        (updPort .p0 (fun x => { x with frameErr := true }) { running with claims := [(5, ⟨.p0, 9⟩)] })) .p0 =
      { Port.reset .async with epoch := 1, frameErr := true } ∧
    (after (.attention .p0) { running with claims := [(5, ⟨.p0, 9⟩), (6, ⟨.p1, 9⟩)] }).claims = [(6, ⟨.p1, 9⟩)] := by
  decide +kernel

/-- R138: CLKn low with SELn active is no attention. -/
theorem test_no_attention_while_selected :
    after (.attention .p2) (sendingAt none [.response ⟨1, .released 5⟩]) =
      sendingAt none [.response ⟨1, .released 5⟩] := by decide +kernel

/-- R87: the slot that frees takes the held response, whose entry is freed. -/
theorem test_frame_sent_places_the_held_response :
    (after (.frameSent .p0) heldBack).table = [] ∧ lastBody (after (.frameSent .p0) heldBack) = [0x98, 7, 0, 5] := by
  decide +kernel

/-- 4.7: with both reserved entries held a request takes a pooled entry, and the port is the last granted. -/
theorem test_pool_grant_takes_a_pooled_entry :
    (after .poolGrant (asked [0x02, 5, 0, 42, 1, 0xAA]
        { running with table := [entry 0 kindRead 40 .waitFetch, entry 1 kindRead 41 .waitFetch] })).lastGranted =
      .p0 ∧
    lastBody (after .poolGrant (asked [0x02, 5, 0, 42, 1, 0xAA]
        { running with table := [entry 0 kindRead 40 .waitFetch, entry 1 kindRead 41 .waitFetch] })) =
      [0x82, 5, 0, 42, 0, 1, 0] := by decide +kernel

/-- R169: the NAK of a bad kind carries the kind as received and the second body byte as tag. -/
theorem test_bad_kind_is_refused :
    lastBody (after (.badKindRequest .p0) (asked [0x81, 7, 0] running)) = [0xBF, 7, 0x81, 0x01] := by decide +kernel

/-- 1.5: after the third acceptance a READ of record 40 receives NAK(EMPTY, 15). -/
theorem test_read_sees_the_pending_erase :
    lastBody (after (.read .p0) (asked [0x01, 3, 0, 40]
        (programming (prog 40 (.write [1, 2]) 13 1 .primary) [pend 40 .erase 15] (valid 40 12 8 running)))) =
      [0xBF, 3, 0x01, 0x23, 0, 15] := by decide +kernel

/-- 1.5: the first WRITE of record 40 at version 12 is a new entry at version 13, whose program starts. -/
theorem test_write_takes_the_successor :
    (after (.write .p0) (asked [0x02, 3, 0, 40, 2, 1, 2] (valid 40 12 8 running))).queue =
      [prog 40 (.write [1, 2]) 13 1 .primary] := by decide +kernel

/-- R26: the successor of version 65535 is 1. -/
theorem test_write_wraps_the_version :
    lastBody (after (.write .p0) (asked [0x02, 3, 0, 40, 2, 1, 2] (valid 40 65535 8 running))) =
      [0x82, 3, 0, 40, 0, 1, 0] := by decide +kernel

/-- 5.7: WRITE_IF with expected version 8 merges into the entry at version 8, giving 9, coalesced. -/
theorem test_write_if_merges :
    lastBody (after (.writeIf .p0) (asked [0x03, 3, 0, 201, 0, 8, 1, 7]
        (programming (prog 300 .erase 1 1 .primary) [pend 201 (.write [9]) 8] running))) =
      [0x82, 3, 0, 201, 0, 9, 1] := by decide +kernel

/-- 5.7: with expected version 7 it is refused NAK(VERSION_MISMATCH, 8). -/
theorem test_write_if_mismatch :
    lastBody (after (.writeIf .p0) (asked [0x03, 3, 0, 201, 0, 7, 1, 7]
        (programming (prog 300 .erase 1 1 .primary) [pend 201 (.write [9]) 8] running))) =
      [0xBF, 3, 0x03, 0x22, 0, 8] := by decide +kernel

/-- 1.5: an ERASE merges into another port's PENDING entry and adds its port. -/
theorem test_erase_joins_the_origins :
    (after (.erase .p0) (asked [0x04, 3, 0, 40]
        (programming (prog 40 (.write [1]) 13 1 .primary) [freshEntry .p2 40 (.write [2]) 14] running))).queue =
      [prog 40 (.write [1]) 13 1 .primary, { pend 40 .erase 15 with origins := ⟨true, false, true, false⟩ }] := by
  decide +kernel

/-- R86: INSPECT of a record being programmed at attempt 3 on a spare, claimed by P1 and watched by P1. -/
theorem test_inspect_reports_the_program :
    lastBody (after (.inspect .p0) (asked [0x05, 3, 0, 77]
        (programming (prog 77 (.write [1]) 40 3 (.spare 2)) []
          { valid 77 39 8 running with claims := [(77, ⟨.p1, 500⟩)], watches := [⟨77, .p1⟩] }))) =
      [0x85, 3, 0, 77, 1, 0, 39, 8, 0xFF, 1, 1, 0, 0, 40, 3, 2, 0, 40, 1, 0x01, 0xF4, 1] := by decide +kernel

/-- 2.7: P0's FLUSH with tag 9 marks both entries of record 12 and not P2's: open, count 2. -/
theorem test_flush_marks_its_entries :
    (portOf (after (.flush .p0) (asked [0x06, 9, 0]
        (programming (prog 12 (.write [1]) 30 1 .primary)
          [pend 12 (.write [2]) 31, freshEntry .p2 55 .erase 8] running))) .p0).flush = some ⟨9, 2, false⟩ := by
  decide +kernel

/-- 5.7: CLAIM(200, 500) in RUN is GRANTED(500). -/
theorem test_claim_is_granted :
    (after (.claim .p0) (asked [0x10, 3, 0, 200, 0x01, 0xF4] running)).claims = [(200, ⟨.p0, 500⟩)] ∧
    lastBody (after (.claim .p0) (asked [0x10, 3, 0, 200, 0x01, 0xF4] running)) = [0x90, 3, 0, 200, 0x01, 0xF4] := by
  decide +kernel

/-- R99: RELEASE of another port's claim is NAK(NOT_HELD). -/
theorem test_release_is_the_holders :
    lastBody (after (.release .p0) (asked [0x11, 3, 0, 200] { running with claims := [(200, ⟨.p1, 500⟩)] })) =
      [0xBF, 3, 0x11, 0x32] := by decide +kernel

/-- R106: WATCH adds the pair. -/
theorem test_watch_adds_the_pair :
    (after (.watch .p0) (asked [0x18, 3, 0, 9] { running with watches := [⟨9, .p1⟩] })).watches =
      [⟨9, .p1⟩, ⟨9, .p0⟩] := by decide +kernel

/-- R107: UNWATCH removes the port's own pair alone. -/
theorem test_unwatch_removes_its_own :
    (after (.unwatch .p0) (asked [0x19, 3, 0, 9] { running with watches := [⟨9, .p1⟩, ⟨9, .p0⟩] })).watches =
      [⟨9, .p1⟩] := by decide +kernel

/-- R118, R120: the first OPEN gives epoch 1; OPENED carries it and the part state. -/
theorem test_open_gives_epoch_one :
    lastBody (after (.openSession .p0) (asked [0x20, 3, 0]
        (updPort .p0 (fun x => { x with session := .linkUp, epoch := 0 }) running))) = [0xA0, 3, 1, 1] := by
  decide +kernel

/-- R118: after epoch 255 comes 1. -/
theorem test_open_wraps_the_epoch :
    (portOf (after (.openSession .p0) (asked [0x20, 3, 0]
        (updPort .p0 (fun x => { x with epoch := 255 }) running))) .p0).epoch = 1 := by decide +kernel

/-- R122: CLOSE leaves LINK_UP and the epoch as it was. -/
theorem test_close_ends_the_session :
    (portOf (after (.closeSession .p0) (asked [0x21, 3, 0] running)) .p0).session = .linkUp ∧
    lastBody (after (.closeSession .p0) (asked [0x21, 3, 0] running)) = [0xA1, 3, 1] := by decide +kernel

/-- R127, R172: STATUS reports FRAME_ERR as it stood and clears it. -/
theorem test_status_clears_frame_err :
    (lastBody (after (.status .p0) (asked [0x22, 3, 0] (updPort .p0 setFrameErr running)))).getLast? = some 1 ∧
    (portOf (after (.status .p0) (asked [0x22, 3, 0] (updPort .p0 setFrameErr running))) .p0).frameErr = false := by
  decide +kernel

/-- R145: a RESYNC that carried OVERRUN is answered RESYNCED(SOME). -/
theorem test_resync_tells_of_overrun :
    lastBody (after (.resync .p0) (updPort .p0 (fun x => { x with rxBuffer := [⟨[0x28, 3, 0], true⟩] }) running)) =
      [0xA8, 3, 1] := by decide +kernel

/-- A fetch of record 41 for P0's entry 0 is in flight; its row is VALID at version 3 with 2 bytes. -/
def fetching : State :=
  { valid 41 3 2 running with table := [entry 0 kindRead 41 .fetching], op := some (.fetch 0 41) }

/-- R52: a good image gives DATA with its first two payload bytes. -/
theorem test_fetch_answers_data :
    lastBody (after (.fetchCompletion (.other (slotImage 0x3C 41 3 [0xAA, 0xBB]))) fetching) =
      [0x81, 7, 0, 41, 0, 3, 2, 0xAA, 0xBB] := by decide +kernel

/-- R8: an image at another version sets the row CORRUPT with version 0. -/
theorem test_bad_fetch_marks_the_row :
    rowOf (after (.fetchCompletion (.other (slotImage 0x3C 41 4 [0xAA, 0xBB]))) fetching) 41 =
      ⟨.corrupt, 0, 0, .primary⟩ := by decide +kernel

/-- 3.4: record 77 on SPARE 2, its entry on the third attempt there; S1 and S3 FREE. -/
def worn : State :=
  programming (prog 77 (.write [1]) 40 3 (.spare 2)) []
    { setRow 77 ⟨.valid, 39, 8, .spare 2⟩ running with spares := [(1, .free), (2, .inUse 77), (3, .free)] }

/-- 3.4: the third failure reserves S1, and S2 keeps serving. -/
theorem test_third_failure_remaps :
    (after (.programCompletion (.other (List.replicate 56 0))) worn).queue = [prog 77 (.write [1]) 40 1 (.spare 1)] ∧
    (after (.programCompletion (.other (List.replicate 56 0))) worn).spares =
      [(1, .inUse 77), (2, .inUse 77), (3, .free)] := by decide +kernel

/-- 3.4: success on S3 makes the row VALID at version 40 there and retires S2. -/
theorem test_program_success_moves_the_row :
    rowOf (after (.programCompletion .expected) (programming (prog 77 (.write [1]) 40 1 (.spare 3)) []
        { setRow 77 ⟨.valid, 39, 8, .spare 2⟩ running with spares := [(2, .inUse 77), (3, .inUse 77)] })) 77 =
      ⟨.valid, 40, 1, .spare 3⟩ ∧
    (after (.programCompletion .expected) (programming (prog 77 (.write [1]) 40 1 (.spare 3)) []
        { setRow 77 ⟨.valid, 39, 8, .spare 2⟩ running with spares := [(2, .inUse 77), (3, .inUse 77)] })).spares =
      [(3, .inUse 77)] := by decide +kernel

/-- R159: the DIRTY program's success brings STARTUP to RUN. -/
theorem test_dirty_success_enters_run :
    (after (.markerProgramCompletion .expected) (marking 1)).partState = .run ∧
    (after (.markerProgramCompletion .expected) (marking 1)).mode = .fetchFirst := by decide +kernel

/-- R168: the third CLEAN failure sets MARKER_FAULT and parks the part. -/
theorem test_third_clean_failure_parks :
    (after (.markerProgramCompletion (.other [])) (cleaning 3)).partState = .parked ∧
    (after (.markerProgramCompletion (.other [])) (cleaning 3)).markerFault = true := by decide +kernel

/-- 9.4: S3 holds record 77 at version 40: the row moves from SPARE 2 to SPARE 3 and S2 is retired. -/
theorem test_scan_keeps_the_higher_spare :
    rowOf (after (.scanFetchCompletion (.other (slotImage 0x3C 77 40 [1, 2])))
        { setRow 77 ⟨.valid, 39, 8, .spare 2⟩ (scanning 1027 1029) with spares := [(2, .inUse 77)] }) 77 =
      ⟨.valid, 40, 2, .spare 3⟩ ∧
    (after (.scanFetchCompletion (.other (slotImage 0x3C 77 40 [1, 2])))
        { setRow 77 ⟨.valid, 39, 8, .spare 2⟩ (scanning 1027 1029) with spares := [(2, .inUse 77)] }).spares =
      [(3, .inUse 77)] := by decide +kernel

/-- R14: the first scan fetch of a new part reads CLEAN. -/
theorem test_new_part_reads_clean :
    (after (.scanFetchCompletion .expected) State.reset).verdict = .clean ∧
    (after (.scanFetchCompletion .expected) State.reset).op = some (.scanFetch 0 false) := by decide +kernel

/-- R94: a lease of 1 ends at the next tick with CLAIM_EXPIRED; a lease of 2 falls to 1. -/
theorem test_tick_expires_a_lease_of_one :
    (after .claimClockTick { running with claims := [(5, ⟨.p0, 1⟩), (6, ⟨.p0, 2⟩)] }).claims = [(6, ⟨.p0, 1⟩)] ∧
    lastBody (after .claimClockTick { running with claims := [(5, ⟨.p0, 1⟩), (6, ⟨.p0, 2⟩)] }) = [0xC3, 0, 0, 5] := by
  decide +kernel

/-- R94: LEASE_EXPIRY is that tick, for the record named. -/
theorem test_lease_expiry_is_the_tick :
    (after (.leaseExpiry 5) { running with claims := [(5, ⟨.p0, 1⟩), (6, ⟨.p0, 2⟩)] }).claims = [(6, ⟨.p0, 1⟩)] ∧
    (after (.leaseExpiry 6) { running with claims := [(5, ⟨.p0, 1⟩), (6, ⟨.p0, 2⟩)] }).claims =
      [(5, ⟨.p0, 1⟩), (6, ⟨.p0, 2⟩)] := by decide +kernel

/-- R163: an assertion that finds nothing to drain begins the CLEAN sequence at once. -/
theorem test_assertion_with_nothing_to_drain :
    (after .pfwAssertion running).partState = .holdup ∧
    (after .pfwAssertion running).op = some (.markerProgram .clean) := by decide +kernel

/-- R62, R164: a deassertion in HOLDUP with 8 entries left returns to RUN in DRAIN_FIRST. -/
theorem test_deassertion_returns_to_run :
    (after .pfwDeassertion { draining with queue := draining.queue ++ many 7 }).partState = .run ∧
    (after .pfwDeassertion { draining with queue := draining.queue ++ many 7 }).mode = .drainFirst ∧
    (after .pfwDeassertion { draining with queue := draining.queue ++ many 6 }).mode = .fetchFirst := by
  decide +kernel

/-- R45, R48: a reset loses the queue; a torn program leaves what the cells hold. -/
theorem test_reset_tears_the_program :
    (after (.reset .pin .newImage) draining).queue = [] ∧
    readSlot (after (.reset .pin .newImage) draining) 5 = slotImage 0x5A 5 1 [] ∧
    readSlot (after (.reset .pin .oldImage) draining) 5 = slotImage 0x5A 5 0 [] := by decide +kernel

/-- R151, R152: the cause is the deepest fall of the supply; with PFW asserted the part is PARKED, not built. -/
theorem test_end_of_reset :
    (after (.endOfReset ⟨.low, .low, .low, .low⟩ .low) { inReset with resetHold := some ⟨false, true⟩ }).resetCause =
      .brownOut ∧
    (after (.endOfReset ⟨.low, .low, .low, .low⟩ .low) inReset).partState = .parked := by decide +kernel

/-- R140: the last CRC byte of a READ completes its frame, which is admitted. -/
theorem test_last_byte_completes_the_frame :
    (portOf (after (.byteReceived .p0 ((wireFrame [0x01, 3, 0, 40]).getD 7 0) (.stopBit true) .incomingFirst)
        (receiving (.inFrame (some 4) ((wireFrame [0x01, 3, 0, 40]).drop 2).dropLast) running)) .p0).rxBuffer =
      [⟨[0x01, 3, 0, 40], false⟩] := by decide +kernel

/-- R136: SELn becoming active on an empty queue presents fill; a frame placed during that byte begins at its end. -/
theorem test_first_byte_of_a_selection_is_fill :
    (portOf (after (.byteReceived .p2 0 .selection .incomingFirst) running) .p2).outByte = some 0xFF ∧
    portOf (after (.byteReceived .p2 0x00 .eighthEdge .incomingFirst)
        (placeLinkup .p2 (after (.byteReceived .p2 0 .selection .incomingFirst) running))) .p2 =
      { Port.reset .clocked with
        selected := true, tx := [.notice (.linkup .p2 .run) false], sending := some 0, outByte := some 0xD3 } := by
  decide +kernel

/-! ### Invariants of concrete states, from facts that decide -/

theorem queue_good (s : State) (a : s.queue.length ≤ Config.queueSize := by decide +kernel)
    (b : s.queue.Pairwise EntriesApart := by decide +kernel) (c : ∀ e ∈ s.queue, EntryGood e := by decide +kernel) :
    QueueGood s := ⟨a, b, c⟩

theorem power_good (s : State)
    (a : s.partState ≠ .run → s.spaceWait = [] ∧ s.fetchWait = [] := by decide +kernel)
    (b : s.fetchWait = [] → s.starvation = 0 := by decide +kernel)
    (c : s.starvation ≤ Config.starvationLimit := by decide +kernel)
    (d : s.partState = .startup → StartupGood s := by decide +kernel)
    (e : s.partState = .run → RunGood s := by decide +kernel)
    (f : s.partState = .holdup → HoldupGood s := by decide +kernel)
    (g : s.partState = .parked → ParkedGood s := by decide +kernel)
    (h : s.partState = .resuming → ResumingGood s := by decide +kernel) : PowerGood s := ⟨a, b, c, d, e, f, g, h⟩

theorem controller_good (s : State) (q : QueueGood s := by exact queue_good _)
    (p : PowerGood s := by exact power_good _) (o : opGood s = true := by decide +kernel)
    (i : IdleGood s := by decide +kernel) : ControllerGood s := ⟨q, fun _ => p, fun _ => o, fun _ => i⟩

theorem stores_canonical (s : State) (a : CellsCanonical s.cells := by decide +kernel)
    (b : Canonical (fun _ => Row.reset) s.directory := by decide +kernel)
    (c : Canonical (fun _ => SpareState.retired) s.spares := by decide +kernel)
    (d : KeysRise s.claims := by decide +kernel) : StoresCanonical s := ⟨a, b, c, d⟩

theorem directory_good (s : State) (a : StoresCanonical s := by exact stores_canonical _)
    (b : ∀ x ∈ s.directory, ListedGood s x := by decide +kernel)
    (c : ∀ e ∈ s.queue, QueuedGood s e := by decide +kernel) (d : ScanBehind s := by decide +kernel) :
    DirectoryGood s := ⟨a, b, c, d⟩

theorem lists_good (s : State) (a : TableGood s := by decide +kernel) (b : s.spaceWait.Nodup := by decide +kernel)
    (c : ∀ id ∈ s.spaceWait, ∃ e ∈ s.table, e.id = id ∧ SpaceWaiter s e := by decide +kernel)
    (d : s.fetchWait.Nodup := by decide +kernel)
    (e : ∀ id ∈ s.fetchWait, ∃ e ∈ s.table, e.id = id ∧ FetchWaiter s e := by decide +kernel)
    (f : ∀ id ∈ (servedEntry s).toList, ∃ e ∈ s.table, e.id = id ∧ FetchServed s e := by decide +kernel)
    (g : ∀ p ∈ allPorts, ∀ f ∈ (portOf s p).flush.toList,
      ∃ e ∈ s.table, e.port = p ∧ e.tag = f.tag ∧ FlushWaiter s e := by decide +kernel)
    (i : ∀ e ∈ s.table, e.state = .waitFlush → (portOf s e.port).flush.isSome ∧ FlushWaiter s e := by decide +kernel)
    (j : s.table.Pairwise (fun a b => ¬(a.port = b.port ∧ a.state = .waitFlush ∧ b.state = .waitFlush)) := by
      decide +kernel)
    (k : ∀ p ∈ allPorts, (portOf s p).held.Nodup := by decide +kernel)
    (l : ∀ p ∈ allPorts, ∀ id ∈ (portOf s p).held, ∃ e ∈ s.table, e.id = id ∧ HeldEntry p e := by decide +kernel)
    (m : ∀ e ∈ s.table, e.response.isSome → e.id ∈ (portOf s e.port).held := by decide +kernel)
    (n : ∀ e ∈ s.table, e.state = .waitSpace → e.id ∈ s.spaceWait := by decide +kernel)
    (o : ∀ e ∈ s.table, e.state = .waitFetch → e.id ∈ s.fetchWait := by decide +kernel)
    (q : ∀ e ∈ s.table, e.state = .fetching ∨ e.state = .orphan → servedEntry s = some e.id := by decide +kernel)
    (r : ∀ e ∈ s.table, e.state = .dispatched → e.response.isSome := by decide +kernel) : ListsGood s := by
  refine ⟨a, b, c, d, e, ?_, ?_, i, j, k, l, m, n, o, q, r⟩
  · intro id slot ho; exact f id (by simp [ho, servedEntry])
  · intro p hp x hx; exact g p hp x (by simp [hx])

theorem links_good (s : State)
    (a : ∀ p ∈ allPorts, (portOf s p).mode = .clocked →
      (portOf s p).session ≠ .linkDown ∧ (portOf s p).bitPeriod = none ∧
        (portOf s p).outByte = (if (portOf s p).selected then some (presentedByte (portOf s p)) else none) ∧
        progressGood (portOf s p) = true ∧
        ((portOf s p).selected = false → (portOf s p).receiver = .hunting ∧ (portOf s p).sending = none) := by
      decide +kernel)
    (b : ∀ p ∈ allPorts, (portOf s p).mode = .async →
      ((portOf s p).bitPeriod = none ↔ (portOf s p).session = .linkDown) ∧
        (∀ n ∈ (portOf s p).bitPeriod.toList, Config.calibrationMin ≤ n ∧ n ≤ Config.calibrationMax) ∧
        ((portOf s p).session = .linkDown → (portOf s p).receiver = .hunting ∧ (portOf s p).rxBuffer = [] ∧
          (portOf s p).tx = [] ∧ (portOf s p).held = []) ∧
        (portOf s p).sending = (if (portOf s p).tx = [] then none else some 0) ∧
        (portOf s p).selected = false ∧ (portOf s p).outByte = none := by decide +kernel) : LinksGood s := fun p hp =>
  ⟨fun h => let ⟨u, v, w, x, y⟩ := a p hp h; ⟨u, v, w, x, y⟩, fun h => let ⟨u, v, w, x, y⟩ := b p hp h; ⟨u, v, w, x, y⟩⟩

theorem no_claim {s : State} {r : Nat} (p : PortId) (h : claimOf s r = none) :
    ∀ c, claimOf s r = some c → c.holder = p := by intro c hc; simp [h] at hc

theorem own_claim {s : State} {r : Nat} {p : PortId} {c : Claim} (h : claimOf s r = some c) (hp : c.holder = p) :
    ∀ d, claimOf s r = some d → d.holder = p := by intro d hd; simp [h] at hd; exact hd ▸ hp

theorem no_program {s : State} (h : s.op = none) :
    (∀ slot, s.op ≠ some (.program slot)) ∧ ∀ v, s.op ≠ some (.markerProgram v) := by simp [h]

/-! ### Witnesses: a state and operands that meet each statement's hypotheses -/

theorem witness_StepRunsTheFrontCommand :
    { running with pending := [.claimClockTick, .poolGrant] }.pending = .claimClockTick :: [.poolGrant] ∧
    running.pending = [] := by decide +kernel

theorem witness_EveryCommandAnswersNext : inReset.resetHold ≠ none ∧ isReset .claimClockTick = false := by decide

/-- On ASYNC the four clauses: below the window, at it, a RESYNC below it, and what OVERRUN keeps out; on CLOCKED a
selected port with nothing to send. -/
theorem witness_GoodFrameMeetsTheWindow :
    ((sendingAt none []).resetHold = none ∧ (portOf (sendingAt none []) .p2).mode = .clocked ∧
      (portOf (sendingAt none []) .p2).selected = true ∧ (portOf (sendingAt none []) .p2).tx = [] ∧
      (portOf (sendingAt none []) .p2).sending = none ∧
      frameFits [0x22, 1, 0] (portOf (sendingAt none []) .p2).receiver = true ∧
      (portOf (sendingAt none []) .p2).overrun = false ∧ outstanding (sendingAt none []) .p2 < 4) ∧
    ((buffered 3 false).resetHold = none ∧ (portOf (buffered 3 false) .p0).session ≠ .linkDown ∧
      frameFits [0x22, 1, 0] (portOf (buffered 3 false) .p0).receiver = true ∧
      (portOf (buffered 3 false) .p0).overrun = false ∧ outstanding (buffered 3 false) .p0 < 4) ∧
    (frameFits (List.replicate 56 1) (portOf (buffered 4 false) .p0).receiver = true ∧
      (portOf (buffered 4 false) .p0).overrun = false ∧ 4 ≤ outstanding (buffered 4 false) .p0) ∧
    (frameFits [0x28, 1, 0] (portOf (buffered 3 true) .p0).receiver = true ∧
      (portOf (buffered 3 true) .p0).overrun = true ∧ outstanding (buffered 3 true) .p0 < 4) ∧
    ((portOf (buffered 4 true) .p0).overrun = true ∧ 4 ≤ outstanding (buffered 4 true) .p0) := by decide +kernel

/-- A stop-bit error with the whole frame to come and with none; the other failures; a gap; a deselection. -/
theorem witness_FrameFailureSetsFrameErr :
    (running.resetHold = none ∧ (portOf running .p0).session ≠ .linkDown ∧
      failureFits .async (.stopBit 57) (portOf (receiving (.inFrame (some 56) []) running) .p0).receiver = true ∧
      failureFits .async (.stopBit 0) (portOf (receiving (.inFrame (some 3) [1, 2, 3, 4]) running) .p0).receiver = true ∧
      failureFits .async .badLength (portOf (receiving (.inFrame none []) running) .p0).receiver = true ∧
      failureFits .async .lengthStopBit (portOf (receiving (.inFrame none []) running) .p0).receiver = true ∧
      failureFits .async (.crcMismatch 56) (portOf running .p0).receiver = true ∧
      failureFits .clocked .badLength (portOf (sendingAt none []) .p2).receiver = true ∧
      (portOf (sendingAt none []) .p2).selected = true ∧ (portOf (sendingAt none []) .p2).tx = [] ∧
      (portOf (sendingAt none []) .p2).sending = none) ∧
    ((portOf (receiving (.skipping 1) running) .p0).mode = .async ∧
      (portOf (receiving (.skipping 1) running) .p0).receiver ≠ .hunting) ∧
    (portOf running .p2).mode = .clocked := by decide +kernel

/-- P3 in LINK_DOWN; 128, 13344, 127 and 13345 are the bounds of the two clauses. -/
theorem witness_CalibrationBringsTheLinkUp :
    running.resetHold = none ∧ (portOf running .p3).mode = .async ∧ (portOf running .p3).session = .linkDown ∧
    (portOf running .p3).tx = [] ∧ 128 ≤ 128 ∧ 128 ≤ 13344 ∧ 13344 ≤ 13344 ∧ 127 < 128 ∧ 13344 < 13345 := by
  decide +kernel

/-- P0 in SESSION on ASYNC, P2 in LINK_UP on CLOCKED, unselected and selected, P3 in LINK_DOWN. -/
theorem witness_AttentionRestartsTheLink :
    running.resetHold = none ∧ (portOf running .p0).session = .session ∧ (portOf running .p0).mode = .async ∧
    (portOf running .p2).session = .linkUp ∧ (portOf running .p2).mode = .clocked ∧
    (portOf running .p2).selected = false ∧ (portOf (sendingAt none []) .p2).selected = true ∧
    (portOf running .p3).session = .linkDown := by decide +kernel

/-- A notice alone, a response with a held one behind it, and a selected CLOCKED port; an empty queue. -/
theorem witness_FrameSentFreesItsSlot :
    ((portOf (sendingAt none [.response ⟨1, .released 5⟩]) .p2).selected = true ∧
      (portOf (sendingAt none [.response ⟨1, .released 5⟩]) .p2).receiver = .hunting ∧
      (portOf (sendingAt none [.response ⟨1, .released 5⟩]) .p2).mode = .clocked ∧ (portOf running .p0).tx = []) ∧
    ((portOf (updPort .p0 (offerNotice (.power .run)) running) .p0).tx = [.notice (.power .run) false] ∧
      isResponse (.notice (.power .run) false) = false) ∧
    heldBack.resetHold = none ∧ (portOf heldBack .p0).session ≠ .linkDown ∧
    (portOf heldBack .p0).tx = .response ⟨1, .released 5⟩ :: List.replicate 3 (.response ⟨1, .released 5⟩) ∧
    (portOf heldBack .p0).held = [0] ∧
    entryOf heldBack 0 = some { entry 0 kindWatch 5 .dispatched with response := some ⟨7, .watching 5⟩ } := by
  decide +kernel

theorem witness_BytesMakeAFrame :
    running.resetHold = none ∧ (portOf running .p0).mode = .async ∧ (portOf running .p0).session ≠ .linkDown ∧
    (portOf running .p0).receiver = .hunting ∧ (∀ b ∈ ([0x00, 0xFF] : List Byte), b ≠ 0xD3) ∧
    halfOf 0 0 ≠ crc (BitVec.ofNat 8 [0x22, 1, 0].length :: [0x22, 1, 0]) ∧
    ((portOf (sendingAt none []) .p2).mode = .clocked ∧ (portOf (sendingAt none []) .p2).selected = true ∧
      (portOf (sendingAt none []) .p2).receiver = .hunting ∧ (sendingAt none []).resetHold = none) := by decide +kernel

/-- The nine clauses differ in the receiver alone, and in the byte at its bounds. -/
theorem witness_AsyncByteByReceiverState :
    running.resetHold = none ∧ (portOf running .p0).mode = .async ∧ (portOf running .p0).session ≠ .linkDown ∧
    (portOf running .p0).receiver = .hunting ∧ (0xD2 : Byte) ≠ 0xD3 ∧
    (portOf (receiving (.inFrame none []) running) .p0).receiver = .inFrame none [] ∧
    3 ≤ (3 : Byte).toNat ∧ (56 : Byte).toNat ≤ 56 ∧ (2 : Byte).toNat < 3 ∧ 56 < (57 : Byte).toNat ∧
    (portOf (receiving (.inFrame (some 3) [1, 2, 3]) running) .p0).receiver = .inFrame (some 3) [1, 2, 3] ∧
    [1, 2, 3].length + 1 < 3 + 2 ∧ [1, 2, 3].length ≤ 3 ∧
    (portOf (receiving (.inFrame (some 3) [1, 2, 3, 4]) running) .p0).receiver = .inFrame (some 3) [1, 2, 3, 4] ∧
    [1, 2, 3, 4].length = 3 + 1 ∧
    (portOf (receiving (.skipping 2) running) .p0).receiver = .skipping (0 + 2) ∧
    (portOf (receiving (.skipping 1) running) .p0).receiver = .skipping 1 := by decide +kernel

/-- P2 selected, at the last CRC byte of a READ with its count at 4, the last byte of a response on DOUT and a response
held behind it. -/
def contended : State :=
  updPort .p2 (fun x =>
      { x with
        session := .session, receiver := .inFrame (some 4) ((wireFrame [0x01, 3, 0, 40]).drop 2).dropLast
        rxBuffer := List.replicate 3 ⟨[0x22, 1, 0], false⟩, tx := [.response ⟨1, .released 5⟩], sending := some 7
        selected := true, held := [4] })
    { running with
      table := [{ entry 4 kindWatch 5 .dispatched with port := .p2, response := some ⟨7, .watching 5⟩ }] }

/-- RELEASED is a frame of 8 bytes: byte 6 is followed by its last, byte 7 is its last. An unselected port; a frame and a
READ's last byte meeting on one edge. -/
theorem witness_ClockedByteIsExchanged :
    (sendingAt none []).resetHold = none ∧ (portOf (sendingAt none []) .p2).mode = .clocked ∧
    (portOf (sendingAt none []) .p2).session ≠ .linkDown ∧ (portOf (sendingAt none []) .p2).receiver = .hunting ∧
    (portOf (sendingAt none []) .p2).selected = true ∧ (portOf (sendingAt none []) .p2).tx = [] ∧
    (portOf (sendingAt none []) .p2).sending = none ∧ (portOf (sendingAt none []) .p2).held = [] ∧
    (portOf (sendingAt (some 6) [.response ⟨1, .released 5⟩]) .p2).sending = some 6 ∧
    6 + 1 < (txBytes (.response ⟨1, .released 5⟩)).length ∧ 7 + 1 = (txBytes (.response ⟨1, .released 5⟩)).length ∧
    (portOf (sendingAt none [.response ⟨1, .released 5⟩]) .p2).tx = [.response ⟨1, .released 5⟩] ∧
    ((portOf running .p2).selected = false ∧ (portOf running .p2).mode = .clocked) ∧
    ((portOf contended .p2).receiver = .inFrame (some 4) ((wireFrame [0x01, 3, 0, 40]).drop 2).dropLast ∧
      ((wireFrame [0x01, 3, 0, 40]).drop 2).dropLast.length = 4 + 1 ∧
      halfAt ((wireFrame [0x01, 3, 0, 40]).drop 2) 4 =
        crc (BitVec.ofNat 8 4 :: (((wireFrame [0x01, 3, 0, 40]).drop 2).dropLast).take 4) ∧
      (portOf contended .p2).held = 4 :: [] ∧ (portOf contended .p2).sending = some 7 ∧
      entryOf contended 4 =
        some { entry 4 kindWatch 5 .dispatched with port := .p2, response := some ⟨7, .watching 5⟩ } ∧
      (portOf contended .p2).overrun = false ∧ outstanding contended .p2 = 4) := by decide +kernel

theorem witness_LinkCommandsStayOnTheirPort : ∃ t, exec (.frameSent .p0) heldBack = .next t := ⟨_, rfl⟩

theorem witness_DispatchChecksInOrder : byteAt [0x01, 3, 0, 40] 0 ∈ requestKinds := by decide

/-- Record 1024 is refused BAD_REC; kind 81H is no request. -/
theorem witness_RefusedRequestIsAnswered :
    (asked [0x01, 3, 4, 0] running).resetHold = none ∧
    (portOf (asked [0x01, 3, 4, 0] running) .p0).rxBuffer = ⟨[0x01, 3, 4, 0], false⟩ :: [] ∧
    freeReserved (asked [0x01, 3, 4, 0] running) .p0 = some 0 ∧
    dispatchCheck (takeFrame .p0 0 ⟨[0x01, 3, 4, 0], false⟩ [] (asked [0x01, 3, 4, 0] running)) .p0 0
      ⟨[0x01, 3, 4, 0], false⟩ = some .badRec ∧
    freeReserved (asked [0x81, 3, 0] running) .p0 = some 0 ∧
    byteAt [0x81, 3, 0] 0 ∉
      ([0x01, 0x02, 0x03, 0x04, 0x05, 0x06, 0x10, 0x11, 0x18, 0x19, 0x20, 0x21, 0x22, 0x28] : List Byte) := by
  decide +kernel

/-- P0's reserved entries are held and its head frame waits. -/
def pooled (body : List Byte) : State :=
  asked body { running with table := [entry 0 kindRead 40 .waitFetch, entry 1 kindRead 41 .waitFetch] }

theorem witness_PoolGrantServesTheRing :
    AskedPasses [0x01, 3, 0, 40] running ∧
    ((pooled [0x01, 5, 0, 9]).resetHold = none ∧ freePooled (pooled [0x01, 5, 0, 9]) = some 8 ∧
      freeReserved (pooled [0x01, 5, 0, 9]) .p0 = none ∧
      (∀ q ∈ allPorts, (portOf (pooled [0x01, 5, 0, 9]) q).rxBuffer ≠ [] → freeReserved (pooled [0x01, 5, 0, 9]) q = none →
        ringDistance .p3 .p0 ≤ ringDistance .p3 q) ∧ (pooled [0x01, 5, 0, 9]).lastGranted = .p3 ∧
      dispatchCheck (takeFrame .p0 8 ⟨[0x01, 5, 0, 9], false⟩ [] { pooled [0x01, 5, 0, 9] with lastGranted := .p0 }) .p0 8
        ⟨[0x01, 5, 0, 9], false⟩ = none) ∧
    dispatchCheck (takeFrame .p0 8 ⟨[0x01, 7, 0, 9], false⟩ [] { pooled [0x01, 7, 0, 9] with lastGranted := .p0 }) .p0 8
      ⟨[0x01, 7, 0, 9], false⟩ = some .tagInUse := by decide +kernel

/-- P0's notice slots are full. -/
def gapped : State := updPort .p0 (fun x => { x with tx := List.replicate 4 (.notice (.power .run) false) }) running

theorem witness_AnswersAndNoticesArePlaced :
    (TableGood { running with table := [entry 0 kindWatch 5 .dispatched] } ∧ TableGood heldBack) ∧
    (entryOf { running with table := [entry 0 kindWatch 5 .dispatched] } 0 = some (entry 0 kindWatch 5 .dispatched) ∧
      (portOf running .p0).held = [] ∧ responseCount (portOf running .p0).tx < 4) ∧
    4 ≤ responseCount (portOf heldBack .p0).tx ∧
    ((portOf running .p2).session ≠ .session ∧ (portOf running .p0).session = .session ∧
      noticeCount (portOf running .p0).tx < 4 ∧ (portOf gapped .p0).session = .session ∧
      4 ≤ noticeCount (portOf gapped .p0).tx) := by decide +kernel

/-- A WRITE of 48 bytes to record 1023, a WRITE_IF of one byte, a CLAIM of 3000 ticks, a STATUS. -/
theorem witness_RequestBodiesRoundTrip :
    (kindWrite ∈ requestKinds ∧ ArgsFit kindWrite ⟨1023, 0, List.replicate 48 7, 0, false⟩) ∧
    ArgsFit kindWriteIf ⟨0, 65535, [7], 0, true⟩ ∧ ArgsFit kindClaim ⟨1023, 0, [], 3000, false⟩ ∧
    ArgsFit kindStatus ⟨0, 0, [], 0, false⟩ :=
  ⟨⟨by decide, by decide, by decide, by decide, by decide⟩, ⟨by decide, by decide, by decide, by decide⟩,
    ⟨by decide, by decide, by decide, by decide⟩, by decide, by decide, by decide, by decide⟩

/-- READ of record 40 against a PENDING WRITE, a PENDING ERASE, and rows EMPTY, CORRUPT and FAULTED. -/
theorem witness_ReadIsAnsweredAtOnce :
    (AskedPasses [0x01, 3, 0, 40] { running with queue := [pend 40 (.write [1]) 2] } ∧
      newestEntry { running with queue := [pend 40 (.write [1]) 2] } 40 = some (pend 40 (.write [1]) 2)) ∧
    (AskedPasses [0x01, 3, 0, 40] { running with queue := [pend 40 .erase 2] } ∧
      newestEntry { running with queue := [pend 40 .erase 2] } 40 = some (pend 40 .erase 2)) ∧
    (AskedPasses [0x01, 3, 0, 40] running ∧ running.built = true ∧ recordOf ⟨[0x01, 3, 0, 40], false⟩ = 40 ∧
      newestEntry running 40 = none ∧ (rowOf running 40).state = .empty) ∧
    (AskedPasses [0x01, 3, 0, 40] (setRow 40 ⟨.corrupt, 0, 0, .primary⟩ running) ∧
      (rowOf (setRow 40 ⟨.corrupt, 0, 0, .primary⟩ running) 40).state = .corrupt) ∧
    AskedPasses [0x01, 3, 0, 40] (setRow 40 ⟨.faulted, 3, 0, .primary⟩ running) ∧
    (rowOf (setRow 40 ⟨.faulted, 3, 0, .primary⟩ running) 40).state = .faulted := by decide +kernel

/-- The same READ of a VALID row in RUN, HOLDUP, PARKED and RESUMING, and over a directory not built. -/
theorem witness_ReadThatNeedsAFetch :
    (AskedPasses [0x01, 3, 0, 40] (valid 40 12 8 running) ∧ newestEntry (valid 40 12 8 running) 40 = none ∧
      (rowOf (valid 40 12 8 running) 40).state = .valid ∧ running.partState = .run) ∧
    (AskedPasses [0x01, 3, 0, 40] (valid 40 12 8 draining) ∧ newestEntry (valid 40 12 8 draining) 40 = none ∧
      draining.partState = .holdup ∧ draining.built = true) ∧
    (AskedPasses [0x01, 3, 0, 40] (valid 40 12 8 parked) ∧ parked.partState = .parked ∧ parked.built = true) ∧
    (AskedPasses [0x01, 3, 0, 40] (valid 40 12 8 resuming) ∧ resuming.partState = .resuming ∧ resuming.built = true) ∧
    AskedPasses [0x01, 3, 0, 40] { parked with built := false, mode := .scan } ∧
    AskedPasses [0x05, 3, 0, 40] { parked with built := false, mode := .scan } := by decide +kernel

/-- A merge into a full queue under the port's own claim, and a new entry as the 32nd. -/
theorem witness_ChangeIsAccepted :
    (AskedPasses [0x02, 3, 0, 100, 1, 7] { running with queue := many 32, claims := [(100, ⟨.p0, 9⟩)] } ∧
      hasWaiter (takeFrame .p0 0 ⟨[0x02, 3, 0, 100, 1, 7], false⟩ []
        (asked [0x02, 3, 0, 100, 1, 7] { running with queue := many 32 })) .p0 = false ∧
      claimOf { running with claims := [(100, ⟨.p0, 9⟩)] } 100 = some ⟨.p0, 9⟩ ∧
      (rowOf { running with queue := many 32 } 100).state ≠ .faulted ∧
      pendingEntry { running with queue := many 32 } 100 ≠ none) ∧
    (AskedPasses [0x03, 3, 0, 40, 0, 0, 1, 7] { running with queue := many 31 } ∧
      halfAt [0x03, 3, 0, 40, 0, 0, 1, 7] 4 = visibleVersion { running with queue := many 31 } 40) ∧
    AskedPasses [0x04, 3, 0, 40] { running with queue := many 31 } ∧
    pendingEntry { running with queue := many 31 } 40 = none ∧ { running with queue := many 31 }.queue.length < 32 := by
  decide +kernel

theorem witness_AcceptedChangeIsVisible :
    QueueGood (asked [0x04, 3, 0, 40] { running with queue := many 31 }) ∧
    AskedPasses [0x04, 3, 0, 40] { running with queue := many 31 } ∧
    (∀ c, claimOf (asked [0x04, 3, 0, 40] { running with queue := many 31 }) 40 = some c → c.holder = .p0) ∧
    (rowOf (asked [0x04, 3, 0, 40] { running with queue := many 31 }) 40).state ≠ .faulted ∧
    (asked [0x04, 3, 0, 40] { running with queue := many 31 }).queue.length < 32 ∧
    ∃ t, exec (.erase .p0) (asked [0x04, 3, 0, 40] { running with queue := many 31 }) = .next t :=
  ⟨queue_good _, by decide +kernel, no_claim .p0 (by decide +kernel), by decide +kernel,
    by decide +kernel, _, rfl⟩

/-- A space waiter of P0 in entry 1. -/
def waiting : State :=
  { running with
    queue := many 32, op := some (.program 100), spaceWait := [1], table := [entry 1 kindErase 40 .waitSpace] }

/-- HOLDUP, PARKED, P1's claim, a FAULTED row, another expected version; a waiter ahead, and a full queue; a retry pass
over a full queue, and its clauses by the same rows and claims. -/
theorem witness_ChangeIsRefusedOrWaits :
    (ListsGood waiting ∧ (retryPass waiting).spaceWait = [] ++ 1 :: [] ∧
      entryOf (retryPass waiting) 1 = some (entry 1 kindErase 40 .waitSpace) ∧ waiting.partState = .run ∧
      claimOf waiting 40 = none ∧ (rowOf waiting 40).state ≠ .faulted ∧ pendingEntry waiting 40 = none ∧
      32 ≤ waiting.queue.length ∧ inPorts noPorts .p0 = false ∧ inPorts (addPort noPorts .p0) .p0 = true) ∧
    (AskedPasses [0x04, 3, 0, 40] draining ∧ AskedPasses [0x04, 3, 0, 40] parked) ∧
    (AskedPasses [0x04, 3, 0, 40] { running with claims := [(40, ⟨.p1, 9⟩)] } ∧
      claimOf { running with claims := [(40, ⟨.p1, 9⟩)] } 40 = some ⟨.p1, 9⟩ ∧
      hasWaiter (takeFrame .p0 0 ⟨[0x04, 3, 0, 40], false⟩ [] (asked [0x04, 3, 0, 40] running)) .p0 = false) ∧
    (AskedPasses [0x02, 3, 0, 40, 1, 7] (setRow 40 ⟨.faulted, 3, 0, .primary⟩ running) ∧
      claimOf running 40 = none ∧ (rowOf (setRow 40 ⟨.faulted, 3, 0, .primary⟩ running) 40).state = .faulted) ∧
    (AskedPasses [0x03, 3, 0, 40, 0, 1, 1, 7] running ∧
      halfAt [0x03, 3, 0, 40, 0, 1, 1, 7] 4 ≠ visibleVersion running 40 ∧ (rowOf running 40).state ≠ .faulted) ∧
    (AskedPasses [0x03, 3, 0, 40, 0, 1, 1, 7] waiting ∧
      hasWaiter (takeFrame .p0 0 ⟨[0x03, 3, 0, 40, 0, 1, 1, 7], false⟩ [] (asked [0x03, 3, 0, 40, 0, 1, 1, 7] waiting)) .p0 =
        true) ∧
    AskedPasses [0x02, 3, 0, 40, 1, 7] { running with queue := many 32 } ∧
    pendingEntry { running with queue := many 32 } 40 = none ∧ 32 ≤ { running with queue := many 32 }.queue.length :=
  ⟨⟨lists_good _, by decide +kernel⟩, by decide +kernel⟩

theorem witness_InspectReportsTheRecord : AskedPasses [0x05, 3, 0, 40] running ∧ running.built = true := by
  decide +kernel

/-- P0's FLUSH is open over one entry. -/
def flushing : State :=
  updPort .p0 (fun x => { x with flush := some ⟨7, 1, false⟩ })
    { programming { prog 5 .erase 1 1 .primary with marks := addPort noPorts .p0 } [] running with
      table := [entry 1 kindFlush 0 .waitFlush] }

theorem witness_FlushMarksTheQueue :
    ((portOf flushing .p0).flush = some ⟨7, 1, false⟩ ∧ 1 ≠ 0 ∧ 1 ≤ 1 ∧ 1 < 2 ∧
      flushing.table.find? (fun e => e.port == .p0 && e.state == .waitFlush) = some (entry 1 kindFlush 0 .waitFlush) ∧
      (portOf running .p0).flush = none) ∧
    (AskedPasses [0x06, 3, 0] flushing ∧ (portOf flushing .p0).flush ≠ none) ∧
    (AskedPasses [0x06, 3, 0] { running with queue := [freshEntry .p1 5 .erase 1] } ∧
      ∀ e ∈ { running with queue := [freshEntry .p1 5 .erase 1] }.queue, inPorts e.origins .p0 = false) ∧
    AskedPasses [0x06, 3, 0] { running with queue := many 2 } ∧ (portOf { running with queue := many 2 } .p0).flush = none ∧
    ((many 2).filter (fun e => inPorts e.origins .p0)).length = 2 := by decide +kernel

/-- Sixteen claims of P1, of the records 0 to 15. -/
def sixteen : List (Nat × Claim) := (List.range 16).map (fun r => (r, ⟨.p1, 5⟩))

/-- HOLDUP, PARKED, another holder, a full table, the holder's own in a full table, and room for the sixteenth. -/
theorem witness_ClaimIsDecided :
    (AskedPasses [0x10, 3, 0, 200, 0x0B, 0xB8] draining ∧ AskedPasses [0x10, 3, 0, 200, 0, 1] parked) ∧
    (AskedPasses [0x10, 3, 0, 15, 0, 1] { running with claims := sixteen } ∧
      claimOf { running with claims := sixteen } 15 = some ⟨.p1, 5⟩) ∧
    (AskedPasses [0x10, 3, 0, 16, 0, 1] { running with claims := sixteen } ∧
      claimOf { running with claims := sixteen } 16 = none ∧ 16 ≤ { running with claims := sixteen }.claims.length) ∧
    (AskedPasses [0x10, 3, 0, 16, 0, 1] { running with claims := sixteen.drop 1 ++ [(16, ⟨.p0, 5⟩)] } ∧
      claimOf { running with claims := sixteen.drop 1 ++ [(16, ⟨.p0, 5⟩)] } 16 = some ⟨.p0, 5⟩) ∧
    (AskedPasses [0x10, 3, 0, 16, 0, 1] { running with claims := sixteen.drop 1 } ∧
      claimOf { running with claims := sixteen.drop 1 } 16 = none ∧ (sixteen.drop 1).length < 16) ∧
    KeysRise { running with claims := sixteen }.claims := by decide +kernel

theorem witness_ReleaseIsTheHolders :
    (AskedPasses [0x11, 3, 0, 200] { running with claims := [(200, ⟨.p0, 1⟩)] } ∧
      claimOf { running with claims := [(200, ⟨.p0, 1⟩)] } 200 = some ⟨.p0, 1⟩) ∧
    AskedPasses [0x11, 3, 0, 200] { running with claims := [(200, ⟨.p1, 1⟩)] } ∧
    claimOf { running with claims := [(200, ⟨.p1, 1⟩)] } 200 = some ⟨.p1, 1⟩ := by decide +kernel

/-- Leases of 1 and of 2. -/
theorem witness_TickLowersEveryLease :
    { running with claims := [(5, ⟨.p0, 1⟩), (6, ⟨.p0, 2⟩)] }.resetHold = none ∧
    KeysRise { running with claims := [(5, ⟨.p0, 1⟩), (6, ⟨.p0, 2⟩)] }.claims ∧
    claimOf { running with claims := [(5, ⟨.p0, 1⟩), (6, ⟨.p0, 2⟩)] } 5 = some ⟨.p0, 1⟩ ∧
    claimOf { running with claims := [(5, ⟨.p0, 1⟩), (6, ⟨.p0, 2⟩)] } 6 = some ⟨.p0, 2⟩ ∧ 1 ≤ 1 ∧ 1 < 2 := by
  decide +kernel

/-- Sixty-four watches of P1. -/
def sixtyFour : List Watch := (List.range 64).map (fun r => ⟨r, .p1⟩)

theorem witness_WatchAndUnwatch :
    (AskedPasses [0x18, 3, 0, 9] { running with watches := [⟨9, .p0⟩] } ∧
      (⟨9, .p0⟩ : Watch) ∈ { running with watches := [⟨9, .p0⟩] }.watches) ∧
    (AskedPasses [0x18, 3, 0, 9] { running with watches := sixtyFour } ∧
      (⟨9, .p0⟩ : Watch) ∉ sixtyFour ∧ 64 ≤ sixtyFour.length) ∧
    (AskedPasses [0x18, 3, 0, 9] { running with watches := sixtyFour.drop 1 } ∧
      (⟨9, .p0⟩ : Watch) ∉ sixtyFour.drop 1 ∧ (sixtyFour.drop 1).length < 64) ∧
    AskedPasses [0x19, 3, 0, 9] { running with watches := [⟨9, .p0⟩] } := by decide +kernel

/-- OPEN in LINK_UP and in SESSION, and a CLOSE. -/
theorem witness_OpenAndClose :
    (AskedPasses [0x20, 3, 0] (updPort .p0 (fun x => { x with session := .linkUp }) running) ∧
      (portOf (updPort .p0 (fun x => { x with session := .linkUp }) running) .p0).session ≠ .session) ∧
    (AskedPasses [0x20, 3, 0] running ∧ (portOf running .p0).session = .session) ∧
    AskedPasses [0x21, 3, 0] running := by decide +kernel

/-- Entries of P0 in each state, one of P1, and one to be kept. -/
theorem witness_TeardownEndsWhatTheSessionHeld :
    let s := { running with
      table := [entry 0 kindWatch 5 .dispatched, entry 1 kindRead 5 .fetching, entry 8 kindRead 6 .waitFetch,
        entry 9 kindErase 6 .waitSpace, entry 10 kindFlush 0 .waitFlush, { entry 2 kindRead 5 .dispatched with port := .p1 },
        entry 11 kindOpen 0 .dispatched]
      fetchWait := [8], spaceWait := [9] }
    (∃ e ∈ s.table, e.port ≠ .p0) ∧ (∃ e ∈ s.table, some 11 = some e.id) ∧
    (∃ e ∈ s.table, e.port = .p0 ∧ e.current = true ∧ some 11 ≠ some e.id ∧ e.state = .dispatched) ∧
    (∃ e ∈ s.table, e.port = .p0 ∧ e.current = true ∧ some 11 ≠ some e.id ∧ e.state = .fetching) ∧
    (∃ e ∈ s.table, e.port = .p0 ∧ e.current = true ∧ some 11 ≠ some e.id ∧ e.state = .waitFetch) ∧
    (∃ e ∈ s.table, e.port = .p0 ∧ e.current = true ∧ some 11 ≠ some e.id ∧ e.state = .waitSpace) ∧
    ∃ e ∈ s.table, e.port = .p0 ∧ e.current = true ∧ some 11 ≠ some e.id ∧ e.state = .waitFlush := by decide +kernel

theorem witness_StatusReportsAndClearsFrameErr : AskedPasses [0x22, 3, 0] running := by decide +kernel

theorem witness_ResyncTellsOfOverrun :
    AskedPasses [0x28, 3, 0] running ∧ byteAt [0x28, 3, 0] 0 = kindResync ∧ byteAt [0x28, 3, 0, 0] 0 = kindResync := by
  decide +kernel

/-- P0 with both reserved entries waiting for a fetch, at the list that names them. -/
def queued : State :=
  { running with table := [entry 0 kindRead 40 .waitFetch, entry 1 kindRead 41 .waitFetch], fetchWait := [0, 1] }

/-- OPEN from a reserved and from a pooled entry, a STATUS, and an OPEN whose OPENED is held behind an older response. -/
theorem witness_EpochCountsOpens :
    ((ListsGood (asked [0x20, 3, 0] running) ∧ ListsGood (asked [0x22, 3, 0] running) ∧
        ListsGood (asked [0x20, 5, 0] queued) ∧ ListsGood (asked [0x20, 3, 0] heldBack)) ∧
      AskedPasses [0x22, 3, 0] running ∧ (asked [0x20, 5, 0] queued).resetHold = none ∧
      freePooled (asked [0x20, 5, 0] queued) = some 8 ∧
      (roundRobin (asked [0x20, 5, 0] queued).lastGranted).find? (headWaits (asked [0x20, 5, 0] queued)) = some .p0 ∧
      dispatchCheck (takeFrame .p0 8 ⟨[0x20, 5, 0], false⟩ [] { asked [0x20, 5, 0] queued with lastGranted := .p0 }) .p0 8
        ⟨[0x20, 5, 0], false⟩ = none ∧
      Passes (asked [0x20, 3, 0] heldBack) .p0 1 ⟨[0x20, 3, 0], false⟩ [] ∧
      (portOf (asked [0x20, 3, 0] heldBack) .p0).held ≠ []) ∧
    inReset.resetHold ≠ none ∧ (∃ t, exec (.endOfReset ⟨.low, .high, .low, .high⟩ .high) inReset = .next t) ∧
    AskedPasses [0x20, 3, 0] running ∧ byteAt [0x20, 3, 0] 0 = kindOpen ∧
    (∃ t, exec (.openSession .p0) (asked [0x20, 3, 0] running) = .next t) ∧ isReset (.openSession .p0) = false ∧
    ((pooled [0x20, 5, 0]).resetHold = none ∧ freePooled (pooled [0x20, 5, 0]) = some 8 ∧
      (roundRobin (pooled [0x20, 5, 0]).lastGranted).find? (headWaits (pooled [0x20, 5, 0])) = some .p0 ∧
      dispatchCheck (takeFrame .p0 8 ⟨[0x20, 5, 0], false⟩ [] { pooled [0x20, 5, 0] with lastGranted := .p0 }) .p0 8
        ⟨[0x20, 5, 0], false⟩ = none) ∧
    ∃ t, exec .poolGrant (pooled [0x20, 5, 0]) = .next t :=
  ⟨⟨⟨lists_good _, lists_good _, lists_good _, lists_good _⟩, by decide +kernel⟩, by decide, ⟨_, rfl⟩,
    by decide +kernel, by decide, ⟨_, rfl⟩, by decide, by decide +kernel, _, rfl⟩

/-- FRAME_ERR set and cleared by a STATUS; clear and set by a gap timeout. -/
theorem witness_FrameErrIsSetAndCleared :
    ((portOf (asked [0x22, 3, 0] (updPort .p0 setFrameErr running)) .p0).frameErr = true ∧
      (∃ t, exec (.status .p0) (asked [0x22, 3, 0] (updPort .p0 setFrameErr running)) = .next t) ∧
      (portOf (after (.status .p0) (asked [0x22, 3, 0] (updPort .p0 setFrameErr running))) .p0).frameErr = false) ∧
    (portOf running .p0).frameErr = false ∧
    (portOf (after (.interByteGapTimeout .p0) (receiving (.skipping 1) running)) .p0).frameErr = true :=
  ⟨⟨by decide +kernel, ⟨_, rfl⟩, by decide +kernel⟩, by decide +kernel, by decide +kernel⟩

/-- An ORPHAN; a newer WRITE; a newer ERASE; a good image; a bad one. -/
theorem witness_FetchCompletionAnswersTheRead :
    (fetching.resetHold = none ∧ fetching.op = some (.fetch 0 41) ∧
      entryOf fetching 0 = some (entry 0 kindRead 41 .fetching) ∧ newestEntry fetching 41 = none ∧
      fetchGood 41 (rowOf fetching 41) (slotImage 0x3C 41 3 [0xAA, 0xBB]) = true ∧
      fetchGood 41 (rowOf fetching 41) (slotImage 0x3C 41 2 [0xAA, 0xBB]) = false) ∧
    entryOf { fetching with table := [entry 0 kindRead 41 .orphan] } 0 = some (entry 0 kindRead 41 .orphan) ∧
    newestEntry { fetching with queue := [pend 41 (.write [1]) 4] } 41 = some (pend 41 (.write [1]) 4) ∧
    newestEntry { fetching with queue := [pend 41 .erase 4] } 41 = some (pend 41 .erase 4) := by decide +kernel

/-- A program of a WRITE on a newly reserved spare, its image spelled out too. -/
theorem witness_ProgramSuccessCommitsTheEntry :
    worn.resetHold = none ∧ worn.op = some (.program 1026) ∧
    inProgramming worn = some (prog 77 (.write [1]) 40 3 (.spare 2)) ∧ changeGood (.write [1]) = true ∧
    (∃ t, exec (.programCompletion .expected) worn = .next t) ∧
    ∃ t, exec (.programCompletion (.other (entryImage (prog 77 (.write [1]) 40 3 (.spare 2))))) worn = .next t :=
  ⟨by decide +kernel, by decide +kernel, by decide +kernel, by decide, ⟨_, rfl⟩, _, rfl⟩

/-- Attempts 1 and 2; with and without a marker program requested. -/
theorem witness_FailedProgramIsRetried :
    QueueGood draining ∧ draining.resetHold = none ∧ draining.op = some (.program 5) ∧
    inProgramming draining = some (prog 5 .erase 1 1 .primary) ∧ draining.markerRequest = none ∧
    (prog 5 .erase 1 1 .primary).target.map (slotOf 5) = some 5 ∧
    inProgramming (programming (prog 5 .erase 1 2 .primary) [] running) = some (prog 5 .erase 1 2 .primary) ∧
    (List.replicate 56 (0 : Byte)) ≠ entryImage (prog 5 .erase 1 1 .primary) ∧
    { draining with markerRequest := some .clean }.markerRequest = some .clean ∧
    { draining with op := none }.op = none ∧
    inProgramming { draining with op := none } = some (prog 5 .erase 1 1 .primary) :=
  ⟨queue_good _, by decide +kernel⟩

/-- With and without a marker program requested; the failed target serving the record, or newly reserved. -/
theorem witness_ThirdFailureRemaps :
    QueueGood worn ∧ worn.resetHold = none ∧ worn.op = some (.program 1026) ∧
    inProgramming worn = some (prog 77 (.write [1]) 40 3 (.spare 2)) ∧ worn.markerRequest = none ∧
    { worn with markerRequest := some .clean }.markerRequest = some .clean ∧
    spareOf worn 1 = .free ∧ (∀ m, m < 1 → spareOf worn m ≠ .free) ∧
    Location.spare 2 = (rowOf worn 77).location ∧ Location.spare 3 ≠ .spare 1 ∧
    inProgramming (programming (prog 77 (.write [1]) 40 3 (.spare 3)) [] worn) =
      some (prog 77 (.write [1]) 40 3 (.spare 3)) ∧
    List.replicate 56 (0 : Byte) ≠ entryImage (prog 77 (.write [1]) 40 3 (.spare 2)) ∧
    ∃ t, exec (.programCompletion (.other (List.replicate 56 0))) worn = .next t :=
  ⟨queue_good _, by decide +kernel, by decide +kernel, by decide +kernel, by decide +kernel, rfl,
    by decide +kernel, by decide +kernel, by decide +kernel, by decide, by decide +kernel, by decide +kernel, _, rfl⟩

theorem witness_ThirdFailureWithoutASpareFaults :
    { worn with spares := [(2, .inUse 77)] }.resetHold = none ∧
    { worn with spares := [(2, .inUse 77)] }.op = some (.program 1026) ∧
    inProgramming { worn with spares := [(2, .inUse 77)] } = some (prog 77 (.write [1]) 40 3 (.spare 2)) ∧
    List.replicate 56 (0 : Byte) ≠ entryImage (prog 77 (.write [1]) 40 3 (.spare 2)) ∧
    ∀ m, m < 32 → spareOf { worn with spares := [(2, .inUse 77)] } m ≠ .free := by decide +kernel

theorem marking_good : ControllerGood (marking 1) ∧ ControllerGood (marking 3) :=
  ⟨controller_good _, controller_good _⟩

theorem cleaning_good : ControllerGood (cleaning 2) ∧ ControllerGood (cleaning 3) :=
  ⟨controller_good _, controller_good _⟩

/-- DIRTY with PFW asserted, at success, at the third failure, and at an earlier one; CLEAN at success, at the third
failure, at an earlier one, and with PFW deasserted. -/
theorem witness_MarkerOutcomeMovesThePart :
    (ControllerGood { marking 1 with pfwAsserted := true } ∧ ControllerGood (marking 1) ∧ ControllerGood (marking 3) ∧
      ControllerGood (cleaning 2) ∧ ControllerGood (cleaning 3) ∧
      ControllerGood { cleaning 2 with pfwAsserted := false }) ∧
    (marking 1).resetHold = none ∧ (marking 1).op = some (.markerProgram .dirty) ∧
    (marking 1).markerSeq = some (.dirty, 1) ∧ (marking 1).pfwAsserted = false ∧
    (marking 3).markerSeq = some (.dirty, 3) ∧ (cleaning 2).markerSeq = some (.clean, 2) ∧
    (cleaning 3).op = some (.markerProgram .clean) ∧ (cleaning 2).pfwAsserted = true ∧
    verifyOk (markerImage .dirty) .expected = true ∧ verifyOk (markerImage .dirty) (.other []) = false ∧
    verifyOk (markerImage .clean) .expected = true ∧ verifyOk (markerImage .clean) (.other []) = false :=
  ⟨⟨controller_good _, marking_good.1, marking_good.2, cleaning_good.1, cleaning_good.2,
    controller_good _⟩, by decide +kernel⟩

theorem witness_MarkerFaultIsSetAndKept :
    ControllerGood (cleaning 3) ∧ (cleaning 3).resetHold = none ∧ isReset (.markerProgramCompletion (.other [])) = false ∧
    (∃ t, exec (.markerProgramCompletion (.other [])) (cleaning 3) = .next t) ∧
    (inReset.resetHold ≠ none ∧ ∃ t, exec (.endOfReset ⟨.low, .low, .low, .low⟩ .low) inReset = .next t) :=
  ⟨cleaning_good.2, by decide +kernel, by decide, ⟨_, rfl⟩, by decide, _, rfl⟩

theorem scanning_good :
    ControllerGood (scanning 1056 1) ∧ ControllerGood (scanning 1023 1025) ∧ ControllerGood (scanning 1024 1026) ∧
    ControllerGood (scanning 1055 1057) :=
  ⟨controller_good _, controller_good _, controller_good _,
    controller_good _⟩

/-- The marker slot, the last primary, the first and the last spare; a good image, a FREE one and a bad one; and a
fetch whose order was withdrawn. -/
theorem witness_ScanReconcilesEachSlot :
    (ControllerGood (scanning 1056 1) ∧ ControllerGood (scanning 1023 1025) ∧ ControllerGood (scanning 1024 1026) ∧
      ControllerGood (scanning 1055 1057)) ∧
    ControllerGood { scanning 5 7 with
      op := some (.scanFetch 5 true), partState := .parked, scanOrder := false, pfwAsserted := true } ∧
    (scanning 1055 1057).resetHold = none ∧ KeysRise (scanning 1055 1057).spares ∧
    (scanning 1055 1057).op = some (.scanFetch 1055 false) ∧
    scanGood (.primary 1023) (slotImage 0x3C 1023 9 [1]) = true ∧ scanGood (.primary 1023) (List.replicate 56 0) = false ∧
    scanGood .spare (slotImage 0x5A 1023 9 []) = true ∧ byteAt (slotImage 0x5A 1023 9 []) 0 ≠ 0xA5 ∧
    scanGood .spare (deliveredImage 1055) = true ∧ byteAt (deliveredImage 1055) 0 = 0xA5 ∧
    scanGood .spare (List.replicate 56 0) = false :=
  ⟨scanning_good, controller_good _, by decide +kernel⟩

/-- READ of record 41 waits in entry 0 for a fetch. -/
def fetchWaiting : State :=
  { valid 41 3 2 running with table := [entry 0 kindRead 41 .waitFetch], fetchWait := [0], starvation := 3 }

/-- A marker request; a PROGRAMMING entry; each mode's choices. -/
theorem witness_IdleControllerChooses :
    (draining.op ≠ none ∧
      chooseIfIdle { running with partState := .holdup, mode := .drainOnly, pfwAsserted := true } =
        { running with partState := .holdup, mode := .drainOnly, pfwAsserted := true } ∧
      running.queue = [] ∧ running.markerSeq = none) ∧
    (running.op = none ∧ { running with markerRequest := some .clean }.markerRequest = some .clean) ∧
    (inProgramming { draining with op := none } = some (prog 5 .erase 1 1 .primary) ∧ draining.markerRequest = none) ∧
    (fetchWaiting.op = none ∧ fetchWaiting.markerRequest = none ∧ inProgramming fetchWaiting = none ∧
      fetchWaiting.fetchWait = 0 :: [] ∧ entryOf fetchWaiting 0 = some (entry 0 kindRead 41 .waitFetch) ∧
      readOutcome fetchWaiting 41 = none ∧ fetchWaiting.mode = .fetchFirst ∧ oldestPending fetchWaiting = none) ∧
    readOutcome { fetchWaiting with queue := [pend 41 .erase 4] } 41 = some (.nak kindRead (.empty 4)) ∧
    oldestPending { fetchWaiting with queue := many 9, mode := .drainFirst } = some (pend 100 .erase 1) ∧
    { fetchWaiting with queue := many 9, mode := .drainFirst }.starvation < 4 ∧
    { fetchWaiting with starvation := 4, queue := many 9, mode := .drainFirst }.starvation = 4 ∧
    (running.fetchWait = [] ∧ running.mode ≠ .scan) ∧
    ({ scanning 0 1056 with op := none }.mode = .scan ∧ (scanning 0 1056).scanOrder = true ∧
      (scanning 0 1056).scanNext < 1057 ∧ { scanning 0 1057 with scanOrder := false }.scanOrder = false) := by
  decide +kernel

/-- RUN with nothing and with a program in flight; STARTUP while the scan order stands; elsewhere. -/
theorem witness_PfwAssertionHoldsUp :
    (ControllerGood running ∧ running.partState = .run ∧ running.op = none ∧
      noticeCount (portOf running .p0).tx < 4) ∧
    (ControllerGood (programming (prog 5 .erase 1 1 .primary) [] running) ∧
      (programming (prog 5 .erase 1 1 .primary) [] running).op ≠ none) ∧
    (ControllerGood (scanning 1023 1025) ∧ (scanning 1023 1025).partState = .startup ∧
      (scanning 1023 1025).scanOrder = true ∧ (scanning 1023 1025).resetHold = none) ∧
    ControllerGood (marking 1) ∧ (marking 1).partState ≠ .run ∧
    ¬((marking 1).partState = .startup ∧ (marking 1).scanOrder = true) :=
  ⟨⟨controller_good _, by decide +kernel⟩, ⟨controller_good _, by decide +kernel⟩,
    ⟨scanning_good.2.1, by decide +kernel⟩, marking_good.1, by decide +kernel⟩

/-- A waiting change, and a waiting READ. -/
theorem witness_HoldupRefusesTheWaiting :
    (ListsGood waiting ∧ waiting.resetHold = none ∧ waiting.partState = .run ∧ 1 ∈ waiting.spaceWait ++ waiting.fetchWait ∧
      entryOf waiting 1 = some (entry 1 kindErase 40 .waitSpace) ∧ ∃ t, exec .pfwAssertion waiting = .next t) ∧
    ListsGood fetchWaiting ∧ 0 ∈ fetchWaiting.spaceWait ++ fetchWaiting.fetchWait ∧ fetchWaiting.partState = .run :=
  ⟨⟨lists_good _, by decide +kernel, by decide +kernel, by decide +kernel, by decide +kernel, _, rfl⟩,
    lists_good _, by decide +kernel⟩

/-- HOLDUP before the CLEAN sequence; PARKED over a directory built and not built; elsewhere. -/
theorem witness_PfwDeassertionResumes :
    (ControllerGood draining ∧ draining.partState = .holdup ∧ draining.markerSeq = none ∧ draining.resetHold = none) ∧
    (ControllerGood parked ∧ parked.partState = .parked ∧ parked.built = true) ∧
    (ControllerGood { parked with built := false, mode := .scan } ∧ { parked with built := false }.built = false) ∧
    ControllerGood (cleaning 2) ∧ (cleaning 2).partState = .holdup ∧ (cleaning 2).markerSeq ≠ none :=
  ⟨⟨controller_good _, by decide +kernel⟩, ⟨controller_good _, by decide +kernel⟩,
    ⟨controller_good _, by decide +kernel⟩, cleaning_good.1, by decide +kernel⟩

/-- Nothing in flight; a program; a marker program. -/
theorem witness_ResetClearsTheRam :
    (running.resetHold = none ∧ (∀ slot, running.op ≠ some (.program slot)) ∧
      ∀ v, running.op ≠ some (.markerProgram v)) ∧
    (draining.op = some (.program 5) ∧ inProgramming draining = some (prog 5 .erase 1 1 .primary)) ∧
    (cleaning 2).op = some (.markerProgram .clean) :=
  ⟨⟨by decide +kernel, no_program (by decide +kernel)⟩, by decide +kernel⟩

theorem witness_EndOfResetStartsThePart : inReset.resetHold ≠ none := by decide

theorem witness_ResetCauseComesFromTheSupply :
    running.resetHold = none ∧ [ResetEvent.pin, .powerOn, .brownOut] ≠ [] ∧
    (∃ t, runAll ([ResetEvent.pin, .powerOn, .brownOut].map (fun e => .reset e .oldImage) ++
      [.endOfReset ⟨.low, .low, .high, .high⟩ .low]) running = some t) ∧
    (∃ t, exec .claimClockTick running = .next t) ∧
    ∀ straps pfw, Instr.claimClockTick ≠ .endOfReset straps pfw :=
  ⟨by decide +kernel, by decide, ⟨_, rfl⟩, ⟨_, rfl⟩, by simp⟩

/-- A program on slot 5 (bytes 280 to 335), a marker program on slot 1056, and nothing in flight. -/
theorem witness_ArrayChangesInOneSlot :
    (∃ t, exec (.programCompletion .expected) draining = .next t) ∧ draining.op = some (.program 5) ∧
    279 < 56 * 5 ∧ 56 * 5 + 56 ≤ 336 ∧
    (∃ t, exec (.markerProgramCompletion .expected) (cleaning 2) = .next t) ∧
    (cleaning 2).op = some (.markerProgram .clean) ∧ 59135 < 56 * 1056 ∧ 56 * 1056 + 56 ≤ 59192 ∧
    (∃ t, exec .claimClockTick running = .next t) ∧ (∀ slot, running.op ≠ some (.program slot)) ∧
    ∀ v, running.op ≠ some (.markerProgram v) :=
  ⟨⟨_, rfl⟩, by decide +kernel, by decide, by decide, ⟨_, rfl⟩, by decide +kernel, by decide, by decide, ⟨_, rfl⟩,
    no_program (by decide +kernel)⟩

/-- Record 1023 with 48 bytes at version 65535; record 0 erased at version 1. -/
theorem witness_ImagesRoundTrip :
    ((pend 1023 (.write (List.replicate 48 7)) 65535).record < 1024 ∧
      changeGood (.write (List.replicate 48 7)) = true ∧ (pend 1023 (.write (List.replicate 48 7)) 65535).version ≠ 0) ∧
    (pend 0 .erase 1).record < 1024 ∧ changeGood .erase = true ∧ (pend 0 .erase 1).version ≠ 0 := by decide

/-- A program that completes with the queue full and a space waiter of record 40. -/
def retrying : State :=
  programming (prog 5 .erase 1 1 .primary) (many 31)
    { running with spaceWait := [1], table := [entry 1 kindErase 40 .waitSpace] }

/-- A request, a grant of one, a commit with a waiter, and a fetch that finds a bad check. -/
theorem witness_VisibleVersionLaw :
    (QueueGood (asked [0x02, 5, 0, 9, 1, 7] running) ∧ isReset (.write .p0) = false ∧
      visibleVersion (after (.write .p0) (asked [0x02, 5, 0, 9, 1, 7] running)) 9 = 1) ∧
    (QueueGood (pooled [0x02, 5, 0, 9, 1, 7]) ∧
      visibleVersion (after .poolGrant (pooled [0x02, 5, 0, 9, 1, 7])) 9 = 1) ∧
    (QueueGood retrying ∧ retrying.built = true ∧ retrying.scanOrder = false ∧
      visibleVersion (after (.programCompletion .expected) retrying) 5 = visibleVersion retrying 5 ∧
      visibleVersion (after (.programCompletion .expected) retrying) 40 = 1 ∧
      ∃ t, exec (.programCompletion .expected) retrying = .next t) ∧
    QueueGood fetching ∧ fetching.built = true ∧ fetching.scanOrder = false ∧
    visibleVersion (after (.fetchCompletion (.other [])) fetching) 41 = 0 :=
  ⟨⟨queue_good _, by decide, by decide +kernel⟩, ⟨queue_good _, by decide +kernel⟩,
    ⟨queue_good _, by decide +kernel, by decide +kernel, by decide +kernel, by decide +kernel, _, rfl⟩,
    queue_good _, by decide +kernel⟩

/-- The state with a program's completion waiting, a claim, a watch, and an open FLUSH. -/
def busy : State :=
  { valid 41 3 2 flushing with
    pending := [.programCompletion .expected], claims := [(5, ⟨.p0, 3000⟩), (1023, ⟨.p1, 1⟩)], watches := [⟨41, .p1⟩] }

theorem busy_steps : ∃ t, step busy = .next t := ⟨_, rfl⟩

theorem busy_controller : ControllerGood busy := controller_good _

theorem busy_directory : DirectoryGood busy := directory_good _

theorem busy_lists : ListsGood busy := lists_good _

theorem witness_StoresStayCanonical : StoresCanonical busy ∧ ∃ t, step busy = .next t :=
  ⟨busy_directory.stores, busy_steps⟩

theorem witness_BoundsOfThePortsAreKept :
    TxBounded busy ∧ WindowKept busy ∧ TableGood busy ∧ ∃ t, step busy = .next t :=
  ⟨by decide +kernel, by decide +kernel, busy_lists.table, busy_steps⟩

theorem witness_ClaimsAndWatchesStayBacked : SessionsBacked busy ∧ ∃ t, step busy = .next t :=
  ⟨⟨by decide +kernel, by decide +kernel, by decide +kernel, by decide +kernel, by decide +kernel, by decide +kernel⟩,
    busy_steps⟩

theorem witness_LinkLawsAreKept : ListsGood busy ∧ LinksGood busy ∧ ∃ t, step busy = .next t :=
  ⟨busy_lists, links_good _, busy_steps⟩

theorem witness_ControllerLawsAreKept : ControllerGood busy ∧ ∃ t, step busy = .next t := ⟨busy_controller, busy_steps⟩

theorem witness_WaitingListsAreKept :
    ListsGood busy ∧ QueueGood busy ∧ (∀ p, FlushCounted busy p) ∧ ∃ t, step busy = .next t :=
  ⟨busy_lists, busy_controller.queue, fun p => by cases p <;> decide +kernel, busy_steps⟩

theorem witness_DirectoryLawIsKept :
    ControllerGood busy ∧ ListsGood busy ∧ DirectoryGood busy ∧ ∃ t, step busy = .next t :=
  ⟨busy_controller, busy_lists, busy_directory, busy_steps⟩

theorem witness_MarkerStaysHonest :
    ControllerGood busy ∧ DirectoryGood busy ∧ MarkerHonest busy ∧ ∃ t, step busy = .next t :=
  ⟨busy_controller, busy_directory, by decide +kernel, busy_steps⟩

end Sys2Proof.Tests
end

/-! SUPPORT. The epochs of the ports (R118): what each operation of the model does to them. -/

namespace Sys2Proof.Machine

/-! ### The epochs, port by port -/

/-- The epoch of each port. -/
def Ports.epochs (ps : Ports) : PortId → Byte
  | .p0 => ps.p0.epoch
  | .p1 => ps.p1.epoch
  | .p2 => ps.p2.epoch
  | .p3 => ps.p3.epoch

theorem portOf_epoch (s : State) (p : PortId) : (portOf s p).epoch = s.ports.epochs p := by cases p <;> rfl

theorem epochs_setPort (s : State) (p : PortId) (x : Port) :
    (setPort s p x).ports.epochs = Function.update s.ports.epochs p x.epoch := by
  funext q
  rw [← portOf_epoch, portOf_setPort, Function.update_apply]
  split
  · rfl
  · exact portOf_epoch s q

theorem epochs_updPort (p : PortId) (f : Port → Port) (s : State) :
    (updPort p f s).ports.epochs = Function.update s.ports.epochs p (f (portOf s p)).epoch := epochs_setPort s p _

/-- A change of a port that leaves its epoch leaves every epoch. -/
@[simp] theorem epochs_updPort_of_keeps {p : PortId} {f : Port → Port} {s : State} (h : ∀ x, (f x).epoch = x.epoch) :
    (updPort p f s).ports.epochs = s.ports.epochs := by
  rw [epochs_updPort, h, portOf_epoch, Function.update_eq_self]

@[simp] theorem epochs_forPorts {f : PortId → State → State} (h : ∀ p s, (f p s).ports.epochs = s.ports.epochs)
    (s : State) : (forPorts f s).ports.epochs = s.ports.epochs := forPorts_frame (fun s => s.ports.epochs) f h s

@[simp] theorem epochs_takeFrame (p : PortId) (id : Nat) (f : RxFrame) (rest : List RxFrame) (s : State) :
    (takeFrame p id f rest s).ports.epochs = s.ports.epochs := by simp [takeFrame]

/-! ### Changes of one port

Proved by simp and not by rfl: simp then uses them for the premise of `epochs_updPort_of_keeps`. -/

@[simp] theorem pushTx_epoch (f : TxFrame) (x : Port) : (pushTx f x).epoch = x.epoch := by simp only [pushTx]
@[simp] theorem admitFrame_epoch (body : List Byte) (x : Port) : (admitFrame body x).epoch = x.epoch := by
  simp only [admitFrame]
@[simp] theorem failFrame_epoch (r : Receiver) (x : Port) : (failFrame r x).epoch = x.epoch := by
  simp only [failFrame, setFrameErr]
@[simp] theorem clearFrameErr_epoch (x : Port) : (clearFrameErr x).epoch = x.epoch := by simp only [clearFrameErr]
@[simp] theorem restartLink_epoch (x : Port) : (restartLink x).epoch = x.epoch := by simp only [restartLink]
@[simp] theorem select_epoch (x : Port) : (select x).epoch = x.epoch := presentNext_epoch _
@[simp] theorem beginSession_epoch (x : Port) : (beginSession x).epoch = nextEpoch x.epoch := by
  simp only [beginSession]

@[simp] theorem offerNotice_epoch (n : Notice) (x : Port) : (offerNotice n x).epoch = x.epoch := by
  unfold offerNotice; split <;> rfl

/-! ### Answers and notices -/

@[simp] theorem epochs_answer (id : Nat) (a : Answer) (s : State) : (answer id a s).ports.epochs = s.ports.epochs := by
  unfold answer; (repeat' split) <;> simp

@[simp] theorem epochs_refuse (e : Entry) (code : NakCode) (s : State) :
    (refuse e code s).ports.epochs = s.ports.epochs := epochs_answer _ _ _

@[simp] theorem epochs_refuseAll (l : List Nat) (s : State) : (refuseAll l s).ports.epochs = s.ports.epochs := by
  induction l generalizing s with
  | nil => rfl
  | cons id l ih => rw [refuseAll]; split <;> simp [ih]

@[simp] theorem epochs_placeHeld (p : PortId) (s : State) : (placeHeld p s).ports.epochs = s.ports.epochs := by
  unfold placeHeld; (repeat' split) <;> simp

@[simp] theorem epochs_notify (n : Notice) (p : PortId) (s : State) :
    (notify n p s).ports.epochs = s.ports.epochs := by
  unfold notify; split <;> simp

@[simp] theorem epochs_placeLinkup (p : PortId) (s : State) : (placeLinkup p s).ports.epochs = s.ports.epochs := by
  simp [placeLinkup]

@[simp] theorem epochs_announce (s : State) : (announce s).ports.epochs = s.ports.epochs := by simp [announce]

@[simp] theorem epochs_reportChange (p : PortId) (r : Nat) (v : Half) (kind : ChangeKind) (s : State) :
    (reportChange p r v kind s).ports.epochs = s.ports.epochs :=
  epochs_forPorts (fun _ _ => by split <;> simp) s

@[simp] theorem epochs_reportFault (r : Nat) (v : Half) (origins : PortSet) (s : State) :
    (reportFault r v origins s).ports.epochs = s.ports.epochs :=
  epochs_forPorts (fun _ _ => by split <;> simp) s

@[simp] theorem epochs_notifyExpired (l : List (Nat × Claim)) (s : State) :
    (notifyExpired l s).ports.epochs = s.ports.epochs := by
  induction l generalizing s with
  | nil => rfl
  | cons c l ih => rw [notifyExpired, ih, epochs_notify]

@[simp] theorem epochs_tick (s : State) : (tick s).ports.epochs = s.ports.epochs := by simp [tick]

/-! ### Links -/

@[simp] theorem epochs_goodFrame (p : PortId) (body : List Byte) (s : State) :
    (goodFrame p body s).ports.epochs = s.ports.epochs := by
  unfold goodFrame
  obtain e | e | ⟨-, e⟩ := windowCheck_cases p body (updPort p (fun x => { x with receiver := .hunting }) s) <;>
    simp [e]

@[simp] theorem epochs_takeByte (p : PortId) (b : Byte) (good : Bool) (s : State) :
    (takeByte p b good s).ports.epochs = s.ports.epochs := by
  obtain e | ⟨r, e⟩ | ⟨r, e⟩ | ⟨body, e⟩ := takeByte_cases p b good s <;> simp [e]

@[simp] theorem epochs_frameLeaves (p : PortId) (s : State) : (frameLeaves p s).ports.epochs = s.ports.epochs := by
  unfold frameLeaves
  split
  · rfl
  · split
    · rw [epochs_placeHeld, epochs_updPort_of_keeps (dropHead_epoch _)]
    · exact epochs_updPort_of_keeps (dropHead_epoch _)

@[simp] theorem epochs_outgoingDone (p : PortId) (s : State) : (outgoingDone p s).ports.epochs = s.ports.epochs := by
  unfold outgoingDone; (repeat' split) <;> simp

@[simp] theorem epochs_exchange {p : PortId} {order : EdgeOrder} {incoming : State → State} {s : State}
    (h : ∀ u, (incoming u).ports.epochs = u.ports.epochs) :
    (exchange p order incoming s).ports.epochs = s.ports.epochs := by
  cases order <;> simp [exchange, h]

@[simp] theorem epochs_exchangeOut (p : PortId) (n : Nat) (s : State) :
    (exchangeOut p n s).ports.epochs = s.ports.epochs := by
  induction n generalizing s with
  | zero => rfl
  | succ n ih => simp [exchangeOut, ih]

/-! ### Sessions -/

@[simp] theorem epochs_teardown (p : PortId) (keep : Option Nat) (s : State) :
    (teardown p keep s).ports.epochs = s.ports.epochs := by simp [teardown]

@[simp] theorem epochs_endSessionless (p : PortId) (keep : Nat) (s : State) :
    (endSessionless p keep s).ports.epochs = s.ports.epochs := rfl

@[simp] theorem epochs_attend (p : PortId) (s : State) : (attend p s).ports.epochs = s.ports.epochs := by
  unfold attend; dsimp only; (repeat' split) <;> simp

/-- An OPEN gives its port the next epoch and no other port (R118, R120). -/
theorem epochs_handleOpen (e : Entry) (s : State) :
    (handleOpen e s).ports.epochs =
      Function.update s.ports.epochs e.port (nextEpoch (s.ports.epochs e.port)) := by
  unfold handleOpen; dsimp only
  split <;> simp [epochs_updPort, portOf_epoch]

@[simp] theorem epochs_handleClose (e : Entry) (s : State) : (handleClose e s).ports.epochs = s.ports.epochs := by
  simp [handleClose]

@[simp] theorem epochs_handleStatus (e : Entry) (s : State) : (handleStatus e s).ports.epochs = s.ports.epochs := by
  simp [handleStatus]

@[simp] theorem epochs_handleResync (e : Entry) (s : State) : (handleResync e s).ports.epochs = s.ports.epochs :=
  epochs_answer _ _ _

/-! ### The queue -/

@[simp] theorem epochs_dropMarks (p : PortId) (n : Nat) (fault : Bool) (s : State) :
    (dropMarks p n fault s).ports.epochs = s.ports.epochs := by
  unfold dropMarks; (repeat' split) <;> simp

@[simp] theorem epochs_dropAllMarks (removed : List QueueEntry) (fault : Bool) (s : State) :
    (dropAllMarks removed fault s).ports.epochs = s.ports.epochs := by simp [dropAllMarks]

@[simp] theorem modeAfterAcceptance_ports (s : State) : (modeAfterAcceptance s).ports = s.ports := by
  unfold modeAfterAcceptance; split <;> rfl

@[simp] theorem modeAfterRemoval_ports (s : State) : (modeAfterRemoval s).ports = s.ports := by
  unfold modeAfterRemoval; split <;> rfl

@[simp] theorem epochs_acceptChange (e : Entry) (coalesced : Bool) (s : State) :
    (acceptChange e coalesced s).ports.epochs = s.ports.epochs := by simp [acceptChange, placeChange]

@[simp] theorem epochs_settleChange (e : Entry) (d : Decision) (s : State) :
    (settleChange e d s).ports.epochs = s.ports.epochs := by cases d <;> simp [settleChange]

@[simp] theorem epochs_handleChange (e : Entry) (s : State) : (handleChange e s).ports.epochs = s.ports.epochs := by
  unfold handleChange; (repeat' split) <;> simp

@[simp] theorem epochs_retryWalk (l : List Nat) (blocked : PortSet) (s : State) :
    (retryWalk l blocked s).ports.epochs = s.ports.epochs := by
  induction l generalizing blocked s with
  | nil => rfl
  | cons id l ih => rw [retryWalk]; (repeat' split) <;> simp [ih]

@[simp] theorem epochs_retryPass (s : State) : (retryPass s).ports.epochs = s.ports.epochs := epochs_retryWalk _ _ _

/-! ### The requests of the data, claim and watch classes -/

@[simp] theorem epochs_handleRead (e : Entry) (s : State) : (handleRead e s).ports.epochs = s.ports.epochs := by
  unfold handleRead; (repeat' split) <;> simp

@[simp] theorem epochs_handleInspect (e : Entry) (s : State) : (handleInspect e s).ports.epochs = s.ports.epochs := by
  unfold handleInspect; split <;> simp

@[simp] theorem epochs_handleFlush (e : Entry) (s : State) : (handleFlush e s).ports.epochs = s.ports.epochs := by
  unfold handleFlush; (repeat' split) <;> simp

@[simp] theorem epochs_handleClaim (e : Entry) (s : State) : (handleClaim e s).ports.epochs = s.ports.epochs := by
  unfold handleClaim; dsimp only; (repeat' split) <;> simp

@[simp] theorem epochs_handleRelease (e : Entry) (s : State) : (handleRelease e s).ports.epochs = s.ports.epochs := by
  unfold handleRelease; (repeat' split) <;> simp

@[simp] theorem epochs_handleWatch (e : Entry) (s : State) : (handleWatch e s).ports.epochs = s.ports.epochs := by
  unfold handleWatch; dsimp only; (repeat' split) <;> simp

@[simp] theorem epochs_handleUnwatch (e : Entry) (s : State) : (handleUnwatch e s).ports.epochs = s.ports.epochs := by
  simp [handleUnwatch]

/-- Of the blocks that own a kind only the one that owns OPEN changes an epoch. -/
theorem epochs_handlerOf {kind : Byte} (h : kind ≠ kindOpen) (e : Entry) (s : State) :
    (handlerOf kind e s).ports.epochs = s.ports.epochs := by
  unfold handlerOf; (repeat' split) <;> first | exact absurd ‹_› h | simp

/-! ### Power manager and array controller -/

@[simp] theorem epochs_markerDone (ok : Bool) (s : State) : (markerDone ok s).ports.epochs = s.ports.epochs := by
  unfold markerDone dirtyDone cleanDone
  (repeat' split) <;> simp [enterHoldup, enterRun, enterParked, enterResuming, nextAttempt]

@[simp] theorem epochs_assertPfw (s : State) : (assertPfw s).ports.epochs = s.ports.epochs := by
  unfold assertPfw; dsimp only
  (repeat' split) <;> simp [holdupFromRun, refuseReads, refuseWaiters, enterHoldup, enterParked]

@[simp] theorem epochs_deassertPfw (s : State) : (deassertPfw s).ports.epochs = s.ports.epochs := by
  unfold deassertPfw; dsimp only
  (repeat' split) <;> simp [enterRun, enterResuming, enterStartup]

@[simp] theorem retire_ports (l : Location) (s : State) : (retire l s).ports = s.ports := by cases l <;> rfl

@[simp] theorem retireReserved_ports (r : Nat) (l : Location) (s : State) : (retireReserved r l s).ports = s.ports := by
  unfold retireReserved; split <;> simp

@[simp] theorem epochs_commit (e : QueueEntry) (s : State) : (commit e s).ports.epochs = s.ports.epochs := by
  unfold commit; dsimp only; split <;> simp

@[simp] theorem epochs_faultRecord (e : QueueEntry) (s : State) :
    (faultRecord e s).ports.epochs = s.ports.epochs := by simp [faultRecord]

@[simp] theorem remap_ports (e : QueueEntry) (n : Nat) (s : State) : (remap e n s).ports = s.ports := by
  unfold remap updProgramming; dsimp only; split <;> simp

@[simp] theorem epochs_giveUp (e : QueueEntry) (s : State) : (giveUp e s).ports.epochs = s.ports.epochs := by
  unfold giveUp; split <;> simp

@[simp] theorem epochs_programDone (e : QueueEntry) (slot : Nat) (got : Cells) (s : State) :
    (programDone e slot got s).ports.epochs = s.ports.epochs := by
  unfold programDone programFailed; dsimp only
  (repeat' split) <;> simp [retryProgram, updProgramming]

@[simp] theorem applyCheck_ports (r : Nat) (good : Bool) (s : State) : (applyCheck r good s).ports = s.ports := by
  unfold applyCheck; split <;> simp

@[simp] theorem epochs_fetchDone (e : Entry) (image : List Byte) (s : State) :
    (fetchDone e image s).ports.epochs = s.ports.epochs := by
  unfold fetchDone; dsimp only; split <;> simp

@[simp] theorem reconcilePrimary_ports (n : Nat) (image : List Byte) (s : State) :
    (reconcilePrimary n image s).ports = s.ports := by
  unfold reconcilePrimary; split <;> rfl

@[simp] theorem reconcileSpare_ports (n : Nat) (image : List Byte) (s : State) :
    (reconcileSpare n image s).ports = s.ports := by
  unfold reconcileSpare; (repeat' split) <;> rfl

@[simp] theorem scanFetchDone_ports (slot : Nat) (withdrawn : Bool) (got : Cells) (s : State) :
    (scanFetchDone slot withdrawn got s).ports = s.ports := by
  unfold scanFetchDone reconcile; dsimp only
  (repeat' split) <;> simp [scanDone]

end Sys2Proof.Machine

/-! SUPPORT. Answers: what the placing of an answer gives (R74, R87), and that the controller's choice, which answers
READs only, keeps the answers formed before it (R47, R51). -/

namespace Sys2Proof.Machine

/-! ### The answer of a held entry -/

theorem canPlace_iff (x : Port) :
    canPlace x = true ↔ x.held = [] ∧ responseCount x.tx < Config.responseSlots := by simp [canPlace]

theorem answer_of_free {s : State} {id : Nat} (a : Answer) (h : entryOf s id = none) : answer id a s = s := by
  simp [answer, h]

theorem answer_of_canPlace {s : State} {id : Nat} {e : Entry} (a : Answer) (h : entryOf s id = some e)
    (hc : canPlace (portOf s e.port) = true) :
    answer id a s = freeEntry id (updPort e.port (pushTx (.response ⟨e.tag, a⟩)) s) := by
  simp [answer, h, hc]

theorem answer_of_not_canPlace {s : State} {id : Nat} {e : Entry} (a : Answer) (h : entryOf s id = some e)
    (hc : canPlace (portOf s e.port) = false) :
    answer id a s = updEntry id (fun x => { x with state := .dispatched, response := some ⟨x.tag, a⟩ })
      (updPort e.port (fun x => { x with held := x.held ++ [id] }) s) := by
  simp [answer, h, hc]

/-- The answer of a held entry is placed behind what its port has queued, or held behind the port's older ones (R87). -/
theorem answered_answer {s : State} {id : Nat} {e : Entry} (a : Answer) (h : entryOf s id = some e) :
    Answered s (answer id a s) e.port id ⟨e.tag, a⟩ := by
  obtain ⟨hmem, hid⟩ := entryOf_some h
  cases hc : canPlace (portOf s e.port) with
  | true =>
    rw [answer_of_canPlace a h hc, Answered, if_pos ((canPlace_iff _).1 hc)]
    exact ⟨[], by simp [pushTx]⟩
  | false =>
    rw [answer_of_not_canPlace a h hc, Answered, if_neg (by simp [← canPlace_iff, hc])]
    refine ⟨⟨[], by simp⟩, _, List.mem_map_of_mem hmem, ?_, ?_⟩ <;> simp [hid]

/-- To a port the answer of an entry does nothing, or places its response, or adds the entry to the held ones. -/
theorem portOf_answer_cases (id : Nat) (a : Answer) (s : State) (p : PortId) :
    portOf (answer id a s) p = portOf s p ∨
      (∃ r, portOf (answer id a s) p = pushTx (.response r) (portOf s p)) ∨
      portOf (answer id a s) p = { portOf s p with held := (portOf s p).held ++ [id] } := by
  cases h : entryOf s id with
  | none => exact .inl (by rw [answer_of_free a h])
  | some e =>
    by_cases hp : p = e.port
    · subst p
      cases hc : canPlace (portOf s e.port) with
      | true => exact .inr (.inl ⟨_, by rw [answer_of_canPlace a h hc, freeEntry_portOf, portOf_updPort_same]⟩)
      | false => exact .inr (.inr (by rw [answer_of_not_canPlace a h hc, updEntry_portOf, portOf_updPort_same]))
    · cases hc : canPlace (portOf s e.port) with
      | true => exact .inl (by rw [answer_of_canPlace a h hc, freeEntry_portOf, portOf_updPort_other _ _ _ _ hp])
      | false => exact .inl (by rw [answer_of_not_canPlace a h hc, updEntry_portOf, portOf_updPort_other _ _ _ _ hp])

theorem tx_prefix_answer (id : Nat) (a : Answer) (s : State) (p : PortId) :
    (portOf s p).tx <+: (portOf (answer id a s) p).tx := by
  obtain e | ⟨r, e⟩ | e := portOf_answer_cases id a s p <;> rw [e]
  exact List.prefix_append _ _

theorem held_prefix_answer (id : Nat) (a : Answer) (s : State) (p : PortId) :
    (portOf s p).held <+: (portOf (answer id a s) p).held := by
  obtain e | ⟨r, e⟩ | e := portOf_answer_cases id a s p <;> rw [e]
  · exact List.prefix_rfl
  · exact List.prefix_append _ _

theorem mem_table_updEntry {s : State} {id : Nat} {e : Entry} (g : Entry → Entry) (he : e ∈ s.table) (hid : e.id ≠ id) :
    e ∈ (updEntry id g s).table :=
  List.mem_map.2 ⟨e, he, if_neg hid⟩

theorem mem_table_answer {s : State} {id : Nat} {e : Entry} (a : Answer) (he : e ∈ s.table) (hid : e.id ≠ id) :
    e ∈ (answer id a s).table := by
  cases h : entryOf s id with
  | none => rwa [answer_of_free a h]
  | some x =>
    cases hc : canPlace (portOf s x.port) with
    | true => rw [answer_of_canPlace a h hc]; exact List.mem_filter.2 ⟨he, by simpa using hid⟩
    | false => rw [answer_of_not_canPlace a h hc]; exact mem_table_updEntry _ he hid

/-! ### Keeping the answers formed -/

/-- From s to t only answers are added: the transmit queues and the orders of held responses grow at the back, no READ
joins the fetch waiting list, and an entry outside that list stays as it is. -/
structure KeepsAnswers (s t : State) : Prop where
  epochs  : t.ports.epochs = s.ports.epochs
  tx      : ∀ p, (portOf s p).tx <+: (portOf t p).tx
  held    : ∀ p, (portOf s p).held <+: (portOf t p).held
  waits   : ∀ id ∈ t.fetchWait, id ∈ s.fetchWait
  entries : ∀ e ∈ s.table, e.id ∉ s.fetchWait → e ∈ t.table

namespace KeepsAnswers

/-- The ports as they were. -/
theorem of_ports {s t : State} (hp : t.ports = s.ports) (hw : ∀ id ∈ t.fetchWait, id ∈ s.fetchWait)
    (he : ∀ e ∈ s.table, e.id ∉ s.fetchWait → e ∈ t.table) : KeepsAnswers s t where
  epochs  := by rw [hp]
  tx p    := by rw [portOf_congr hp]
  held p  := by rw [portOf_congr hp]
  waits   := hw
  entries := he

theorem refl (s : State) : KeepsAnswers s s := of_ports rfl (fun _ h => h) (fun _ h _ => h)

theorem trans {s t u : State} (h : KeepsAnswers s t) (k : KeepsAnswers t u) : KeepsAnswers s u where
  epochs            := k.epochs.trans h.epochs
  tx p              := (h.tx p).trans (k.tx p)
  held p            := (h.held p).trans (k.held p)
  waits id hid      := h.waits id (k.waits id hid)
  entries e he hout := k.entries e (h.entries e he hout) (fun hin => hout (h.waits _ hin))

/-- A port changes in neither its epoch nor its responses. -/
theorem of_updPort {p : PortId} {f : Port → Port} (s : State) (hepoch : ∀ x, (f x).epoch = x.epoch)
    (htx : ∀ x, (f x).tx = x.tx) (hheld : ∀ x, (f x).held = x.held) : KeepsAnswers s (updPort p f s) where
  epochs  := epochs_updPort_of_keeps hepoch
  tx q    := by rw [portOf_updPort]; split <;> simp [*]
  held q  := by rw [portOf_updPort]; split <;> simp [*]
  waits _ h := h
  entries _ h _ := h

end KeepsAnswers

/-- An answer formed between s and t stands in u, if nothing but answers was added since (R87). -/
theorem Answered.of_keepsAnswers {s t u : State} {p : PortId} {id : Nat} {r : Response} (ha : Answered s t p id r)
    (hk : KeepsAnswers t u) (hid : id ∉ t.fetchWait) : Answered s u p id r := by
  unfold Answered at ha ⊢
  split
  case isTrue h =>
    obtain ⟨later, hl⟩ := if_pos h ▸ ha
    obtain ⟨more, hm⟩ := hk.tx p
    exact ⟨later ++ more, by simp [← hm, hl]⟩
  case isFalse h =>
    obtain ⟨⟨later, hl⟩, e, he, rfl, hr⟩ := if_neg h ▸ ha
    obtain ⟨more, hm⟩ := hk.held p
    exact ⟨⟨later ++ more, by simp [← hm, hl]⟩, e, hk.entries e he hid, rfl, hr⟩

/-! ### The controller's choice -/

/-- The oldest READ leaves the list and is answered. -/
theorem keepsAnswers_answerRead {s : State} {id : Nat} {l : List Nat} (a : Answer) (h : s.fetchWait = id :: l) :
    KeepsAnswers s (answer id a (setFetchWait l s)) where
  epochs  := by simp
  tx p    := tx_prefix_answer id a (setFetchWait l s) p
  held p  := held_prefix_answer id a (setFetchWait l s) p
  waits j hj := by simp [h] at hj ⊢; exact .inr hj
  entries e he hout := mem_table_answer a (s := setFetchWait l s) he (by simp [h] at hout; exact hout.1)

/-- The walk over the waiting READs answers, and starts the fetch of, no other entry (R51). -/
theorem takeReads_keepsAnswers (l : List Nat) (s : State) (h : s.fetchWait = l) : KeepsAnswers s (takeReads l s) := by
  induction l generalizing s with
  | nil => exact .refl s
  | cons id l ih =>
    have hleave : KeepsAnswers s (setFetchWait l s) :=
      .of_ports rfl (fun j hj => by simp [h] at hj ⊢; exact .inr hj) (fun _ he _ => he)
    rw [takeReads]
    split
    · exact hleave.trans (ih _ rfl)
    · rename_i e hent
      split
      · rename_i a _
        exact (keepsAnswers_answerRead a h).trans (ih _ (by simp))
      · refine .of_ports (by simp) (fun j hj => hleave.waits j (by simpa using hj)) (fun x hx hout => ?_)
        refine mem_table_updEntry _ hx ?_
        rw [(entryOf_some hent).2]
        exact fun heq => hout (by simp [h, heq])

theorem chooseRead_keepsAnswers (s : State) : KeepsAnswers s (chooseRead s) := takeReads_keepsAnswers _ s rfl

theorem startProgram_keepsAnswers (s : State) : KeepsAnswers s (startProgram s) := by
  unfold startProgram
  split
  · exact .refl s
  · exact .of_ports rfl (fun _ h => h) (fun _ h _ => h)

theorem startScan_keepsAnswers (s : State) : KeepsAnswers s (startScan s) := by
  unfold startScan
  split
  · exact .of_ports rfl (fun _ h => h) (fun _ h _ => h)
  · exact .refl s

theorem orElse_keepsAnswers {f g : State → State} (hf : ∀ s, KeepsAnswers s (f s)) (hg : ∀ s, KeepsAnswers s (g s))
    (s : State) : KeepsAnswers s (orElse f g s) := by
  unfold orElse
  split
  · exact hf s
  · exact (hf s).trans (hg (f s))

theorem chooseByMode_keepsAnswers (s : State) : KeepsAnswers s (chooseByMode s) := by
  unfold chooseByMode
  split
  · exact orElse_keepsAnswers chooseRead_keepsAnswers startProgram_keepsAnswers s
  · split
    · exact orElse_keepsAnswers chooseRead_keepsAnswers startProgram_keepsAnswers s
    · exact orElse_keepsAnswers startProgram_keepsAnswers chooseRead_keepsAnswers s
  · exact startProgram_keepsAnswers s
  · split
    · exact startScan_keepsAnswers s
    · exact .refl s

theorem chooseIfIdle_keepsAnswers (s : State) : KeepsAnswers s (chooseIfIdle s) := by
  unfold chooseIfIdle choose
  split
  · split
    · exact .of_ports rfl (fun _ h => h) (fun _ h _ => h)
    · split
      · exact .of_ports rfl (fun _ h => h) (fun _ h _ => h)
      · exact chooseByMode_keepsAnswers s
  · exact .refl s

theorem cleanIfDrained_keepsAnswers (s : State) : KeepsAnswers s (cleanIfDrained s) := by
  unfold cleanIfDrained
  split
  · have hbegin : KeepsAnswers s (beginSequence .clean s) := .of_ports rfl (fun _ h => h) (fun _ h _ => h)
    exact hbegin.trans (chooseIfIdle_keepsAnswers _)
  · exact .refl s

theorem settle_keepsAnswers (s : State) : KeepsAnswers s (settle s) :=
  (chooseIfIdle_keepsAnswers s).trans (cleanIfDrained_keepsAnswers _)

@[simp] theorem epochs_settle (s : State) : (settle s).ports.epochs = s.ports.epochs := (settle_keepsAnswers s).epochs

end Sys2Proof.Machine

/-! SUPPORT. Requests that are taken: the entry taken is the one answered (R76, R87), and which commands change an
epoch. O32 is settled here. -/

namespace Sys2Proof.Machine

/-! ### A request that is taken -/

/-- A request command of a frame that passes dispatch hands the entry taken to its block. -/
theorem serve_of_passes {s : State} {p : PortId} {id : Nat} {f : RxFrame} {rest : List RxFrame}
    {rowKind : Byte → Bool} (handler : Entry → State → State) (h : Passes s p id f rest)
    (hk : rowKind (byteAt f.body 0) = true) :
    serve rowKind handler p s = settle (handler (newEntry id p f) (takeFrame p id f rest s)) := by
  obtain ⟨-, hrx, hid, hcheck⟩ := h
  rw [serve, request_due hrx hk hid, dispatch, hcheck]

/-- A grant of a frame that passes dispatch hands the entry taken to the block that owns its kind. -/
theorem grant_of_passes {s : State} {p : PortId} {id : Nat} {f : RxFrame} {rest : List RxFrame}
    (hid : freePooled s = some id) (hp : (roundRobin s.lastGranted).find? (headWaits s) = some p)
    (hrx : (portOf s p).rxBuffer = f :: rest)
    (hcheck : dispatchCheck (takeFrame p id f rest { s with lastGranted := p }) p id f = none) :
    grant s = handlerOf (bodyKind f.body) (newEntry id p f) (takeFrame p id f rest { s with lastGranted := p }) := by
  simp only [grant, hid, hp, hrx, dispatch, hcheck]

@[simp] theorem handlerOf_kindOpen : handlerOf kindOpen = handleOpen := rfl

/-- From s to u the head frame of p has taken entry `id`, which is held and unanswered, and p's responses are those that
were there. -/
structure Taken (s u : State) (p : PortId) (id : Nat) (f : RxFrame) : Prop where
  entry : entryOf u id = some (newEntry id p f)
  tx    : (portOf u p).tx = (portOf s p).tx
  held  : (portOf u p).held = (portOf s p).held
  waits : ∀ j ∈ u.fetchWait, j ∈ s.fetchWait

namespace Taken

variable {s u : State} {p : PortId} {id : Nat} {f : RxFrame}

theorem of_takeFrame (rest : List RxFrame) (h : ∀ e ∈ s.table, e.id ≠ id) :
    Taken s (takeFrame p id f rest s) p id f where
  entry := entryOf_takeFrame h
  tx    := by rw [takeFrame_portOf_same]
  held  := by rw [takeFrame_portOf_same]
  waits _ h := h

theorem after_updPort {g : Port → Port} (htx : ∀ x, (g x).tx = x.tx) (hheld : ∀ x, (g x).held = x.held)
    (h : Taken s u p id f) : Taken s (updPort p g u) p id f where
  entry := h.entry
  tx    := by rw [portOf_updPort_same, htx, h.tx]
  held  := by rw [portOf_updPort_same, hheld, h.held]
  waits := h.waits

/-- Its answer is formed as that of p's request in entry `id`. -/
theorem answered (a : Answer) (h : Taken s u p id f) :
    Answered s (answer id a u) p id ⟨byteAt f.body 1, a⟩ := by
  have hu : Answered u (answer id a u) p id ⟨byteAt f.body 1, a⟩ := answered_answer a h.entry
  rwa [Answered, h.tx, h.held] at hu

/-- Its answer stands in any later state that keeps the answers formed. -/
theorem answered_of_keepsAnswers {a : Answer} {t : State} (h : Taken s u p id f) (hk : KeepsAnswers (answer id a u) t)
    (hid : id ∉ s.fetchWait) : Answered s t p id ⟨byteAt f.body 1, a⟩ :=
  (h.answered a).of_keepsAnswers hk (fun hin => hid (h.waits id (by simpa using hin)))

end Taken

/-- A free entry waits for no fetch, in a table that a run can hold. -/
theorem ListsGood.free_not_waiting {s : State} {id : Nat} (h : ListsGood s) (hfree : ∀ e ∈ s.table, e.id ≠ id) :
    id ∉ s.fetchWait := by
  intro hin
  obtain ⟨e, he, hid, -⟩ := h.fetch id hin
  exact hfree e he hid

/-! ### OPEN -/

theorem endEntry_id {e x : Entry} (h : endEntry e = some x) : x.id = e.id := by
  unfold endEntry at h
  split at h <;> cases h <;> rfl

theorem endsWith_keep (p : PortId) (e : Entry) : endsWith p (some e.id) e = false := by simp [endsWith]

/-- A change of the table that moves no number and keeps the entries of number `id` keeps the one that `id` finds. -/
theorem find?_filterMap_of_keeps {g : Entry → Option Entry} {id : Nat} (hnumber : ∀ e x, g e = some x → x.id = e.id)
    (hkeep : ∀ e, e.id = id → g e = some e) (l : List Entry) :
    (l.filterMap g).find? (fun e => e.id == id) = l.find? (fun e => e.id == id) := by
  induction l with
  | nil => rfl
  | cons e l ih =>
    by_cases he : e.id = id
    · simp [hkeep e he, he]
    · cases hg : g e with
      | none => simp [hg, he, ih]
      | some x => simp [hg, he, hnumber e x hg, ih]

/-- The teardown keeps the entry of the OPEN that replaces the session (R123 step 2). -/
theorem entryOf_teardown_keep (p : PortId) (id : Nat) (s : State) :
    entryOf (teardown p (some id) s) id = entryOf s id := by
  refine find?_filterMap_of_keeps (fun e x h => ?_) (fun e he => ?_) s.table
  · split at h
    · exact endEntry_id h
    · cases h; rfl
  · rw [← he, endsWith_keep, if_neg Bool.false_ne_true]

/-- An OPEN in LINK_UP ends the session field of the other entries alone (R120). -/
theorem entryOf_endSessionless_keep (p : PortId) (id : Nat) (s : State) :
    entryOf (endSessionless p id s) id = entryOf s id := by
  have hmap : (endSessionless p id s).table = s.table.filterMap
      (fun e => some (if endsWith p (some id) e then { e with current := false } else e)) := by
    rw [endSessionless, ← List.filterMap_eq_map']
  rw [entryOf, hmap]
  refine find?_filterMap_of_keeps (fun e x h => ?_) (fun e he => ?_) s.table
  · cases h; split <;> rfl
  · rw [← he, endsWith_keep, if_neg Bool.false_ne_true]

theorem portOf_teardown_same (p : PortId) (keep : Option Nat) (s : State) :
    portOf (teardown p keep s) p = { portOf s p with rxBuffer := [], flush := none } :=
  (portOf_congr rfl p).trans (portOf_updPort_same p (fun x => { x with rxBuffer := [], flush := none }) s)

theorem Taken.after_teardown {s u : State} {p : PortId} {id : Nat} {f : RxFrame} (h : Taken s u p id f) :
    Taken s (teardown p (some id) u) p id f where
  entry := (entryOf_teardown_keep p id u).trans h.entry
  tx    := by rw [portOf_teardown_same, h.tx]
  held  := by rw [portOf_teardown_same, h.held]
  waits j hj := h.waits j (List.mem_of_mem_filter hj)

theorem Taken.after_endSessionless {s u : State} {p : PortId} {id : Nat} {f : RxFrame} (h : Taken s u p id f) :
    Taken s (endSessionless p id u) p id f where
  entry := (entryOf_endSessionless_keep p id u).trans h.entry
  tx    := h.tx
  held  := h.held
  waits := h.waits

/-- The OPEN of the entry taken answers OPENED with the next epoch and the part state (R118, R120, R121). -/
theorem handleOpen_newEntry {s u : State} {p : PortId} {id : Nat} {f : RxFrame} (h : Taken s u p id f) :
    ∃ v, Taken s v p id f ∧
      handleOpen (newEntry id p f) u = answer id (.opened (nextEpoch (portOf u p).epoch) u.partState) v := by
  by_cases hs : (portOf u p).session = .session
  · refine ⟨_, h.after_teardown.after_updPort (g := beginSession) (fun _ => rfl) (fun _ => rfl), ?_⟩
    simp only [handleOpen, newEntry, hs, if_true, portOf_teardown_same]
    rfl
  · refine ⟨_, h.after_endSessionless.after_updPort (g := beginSession) (fun _ => rfl) (fun _ => rfl), ?_⟩
    simp only [handleOpen, newEntry, hs, if_false]
    rfl

/-- An OPEN taken in a free entry gives its port the next epoch, and OPENED carries it. -/
theorem open_taken {s : State} {p : PortId} {id : Nat} {f : RxFrame} {rest : List RxFrame}
    (hfree : ∀ e ∈ s.table, e.id ≠ id) :
    (portOf (settle (handleOpen (newEntry id p f) (takeFrame p id f rest s))) p).epoch =
        nextEpoch (portOf s p).epoch ∧
      (ListsGood s → Answered s (settle (handleOpen (newEntry id p f) (takeFrame p id f rest s))) p id
        ⟨byteAt f.body 1, .opened (nextEpoch (portOf s p).epoch) s.partState⟩) := by
  constructor
  · simp [portOf_epoch, epochs_handleOpen, newEntry]
  · intro hl
    obtain ⟨v, hv, heq⟩ := handleOpen_newEntry (Taken.of_takeFrame rest hfree : Taken s _ p id f)
    rw [heq, takeFrame_portOf_same]
    exact hv.answered_of_keepsAnswers (settle_keepsAnswers _) (hl.free_not_waiting hfree)

/-! ### STATUS -/

/-- A STATUS taken in a free entry is answered with the epoch of its port. -/
theorem status_taken {s : State} {p : PortId} {id : Nat} {f : RxFrame} {rest : List RxFrame}
    (hfree : ∀ e ∈ s.table, e.id ≠ id) (hl : ListsGood s) :
    Answered s (settle (handleStatus (newEntry id p f) (takeFrame p id f rest s))) p id
      ⟨byteAt f.body 1, .statusInfo (statusInfoOf (takeFrame p id f rest s) p)⟩ := by
  have hclear := KeepsAnswers.of_updPort (p := p) (f := clearFrameErr)
    (answer id (.statusInfo (statusInfoOf (takeFrame p id f rest s) p)) (takeFrame p id f rest s))
    (fun _ => rfl) (fun _ => rfl) (fun _ => rfl)
  exact (Taken.of_takeFrame rest hfree).answered_of_keepsAnswers (hclear.trans (settle_keepsAnswers _))
    (hl.free_not_waiting hfree)

/-! ### The end of a reset -/

@[simp] theorem epochs_linkupIfClocked (p : PortId) (s : State) :
    (linkupIfClocked p s).ports.epochs = s.ports.epochs := by
  unfold linkupIfClocked; split <;> simp

theorem epochs_endReset (straps : Straps) (pfw : Level) (r : ResetRecord) (s : State) (p : PortId) :
    (endReset straps pfw r s).ports.epochs p = 0 := by
  unfold endReset; dsimp only
  rw [epochs_settle, epochs_forPorts epochs_linkupIfClocked]
  split <;> cases p <;> rfl

/-! ### The commands -/

theorem epochs_of_whileRunning {f : State → State} {s t : State} (h : whileRunning f s = .next t)
    (hf : (f s).ports.epochs = s.ports.epochs) : t.ports.epochs = s.ports.epochs := by
  obtain rfl | ⟨-, rfl⟩ := whileRunning_cases h
  · rfl
  · exact hf

/-- A dispatched frame changes no epoch unless it is an OPEN, which gives its port the next one. -/
theorem epochs_dispatch (p : PortId) (id : Nat) (f : RxFrame) (rest : List RxFrame) (s : State) :
    (dispatch (handlerOf (bodyKind f.body)) p id f rest s).ports.epochs = s.ports.epochs ∨
      bodyKind f.body = kindOpen ∧
        (dispatch (handlerOf (bodyKind f.body)) p id f rest s).ports.epochs =
          Function.update s.ports.epochs p (nextEpoch (s.ports.epochs p)) := by
  obtain ⟨code, -, e⟩ | ⟨-, e⟩ := dispatch_cases (handlerOf (bodyKind f.body)) p id f rest s <;> rw [e]
  · exact .inl (by simp)
  · by_cases hk : bodyKind f.body = kindOpen
    · exact .inr ⟨hk, by simp [hk, epochs_handleOpen, newEntry]⟩
    · exact .inl (by simp [epochs_handlerOf hk])

@[simp] theorem epochs_serve {rowKind : Byte → Bool} {handler : Entry → State → State}
    (hh : ∀ e s, (handler e s).ports.epochs = s.ports.epochs) (p : PortId) (s : State) :
    (serve rowKind handler p s).ports.epochs = s.ports.epochs := by
  rw [serve, epochs_settle]
  obtain e | ⟨f, rest, id, -, -, -, e⟩ := request_cases rowKind handler p s <;> rw [e]
  obtain ⟨code, -, e⟩ | ⟨-, e⟩ := dispatch_cases handler p id f rest s <;> rw [e]
  · simp
  · simp [hh]

/-- A command other than OPEN, POOL_GRANT and the two of a reset changes no epoch. -/
theorem epochs_exec {c : Instr} {s t : State} (h : exec c s = .next t) (hr : isReset c = false)
    (ho : ∀ p, c ≠ .openSession p) (hg : c ≠ .poolGrant) : t.ports.epochs = s.ports.epochs := by
  cases c with
  | openSession p => exact absurd rfl (ho p)
  | poolGrant => exact absurd rfl hg
  | reset cause torn => cases hr
  | endOfReset straps pfw => cases hr
  | frameReceived p frame => exact epochs_of_whileRunning h (by (repeat' split) <;> simp)
  | frameError p failure => exact epochs_of_whileRunning h (by (repeat' split) <;> simp)
  | interByteGapTimeout p => exact epochs_of_whileRunning h (by split <;> simp)
  | deselection p =>
    refine epochs_of_whileRunning h ?_
    dsimp only
    split
    · exact epochs_updPort_of_keeps (fun x => by split <;> simp)
    · rfl
  | calibration p low => exact epochs_of_whileRunning h (by split <;> simp)
  | attention p => exact epochs_of_whileRunning h (by split <;> simp)
  | frameSent p => exact epochs_of_whileRunning h (by (repeat' split) <;> simp)
  | byteReceived p b moment order =>
    rw [exec, execByteReceived] at h
    exact epochs_of_whileRunning h (by (repeat' split) <;> simp)
  | badKindRequest p => exact epochs_of_whileRunning h (epochs_serve (fun _ _ => epochs_refuse _ _ _) p s)
  | read p => exact epochs_of_whileRunning h (epochs_serve epochs_handleRead p s)
  | write p => exact epochs_of_whileRunning h (epochs_serve epochs_handleChange p s)
  | writeIf p => exact epochs_of_whileRunning h (epochs_serve epochs_handleChange p s)
  | erase p => exact epochs_of_whileRunning h (epochs_serve epochs_handleChange p s)
  | inspect p => exact epochs_of_whileRunning h (epochs_serve epochs_handleInspect p s)
  | flush p => exact epochs_of_whileRunning h (epochs_serve epochs_handleFlush p s)
  | claim p => exact epochs_of_whileRunning h (epochs_serve epochs_handleClaim p s)
  | release p => exact epochs_of_whileRunning h (epochs_serve epochs_handleRelease p s)
  | watch p => exact epochs_of_whileRunning h (epochs_serve epochs_handleWatch p s)
  | unwatch p => exact epochs_of_whileRunning h (epochs_serve epochs_handleUnwatch p s)
  | closeSession p => exact epochs_of_whileRunning h (epochs_serve epochs_handleClose p s)
  | status p => exact epochs_of_whileRunning h (epochs_serve epochs_handleStatus p s)
  | resync p => exact epochs_of_whileRunning h (epochs_serve epochs_handleResync p s)
  | fetchCompletion got =>
    rw [exec, execFetchCompletion] at h
    exact epochs_of_whileRunning h (by (repeat' split) <;> simp)
  | programCompletion got =>
    rw [exec, execProgramCompletion] at h
    exact epochs_of_whileRunning h (by (repeat' split) <;> simp)
  | markerProgramCompletion got =>
    rw [exec, execMarkerProgramCompletion] at h
    exact epochs_of_whileRunning h (by split <;> simp)
  | scanFetchCompletion got =>
    rw [exec, execScanFetchCompletion] at h
    exact epochs_of_whileRunning h (by split <;> simp)
  | claimClockTick => exact epochs_of_whileRunning h (epochs_tick s)
  | leaseExpiry r => exact epochs_of_whileRunning h (by split <;> simp)
  | pfwAssertion =>
    rw [exec, execPfwAssertion] at h
    exact epochs_of_whileRunning h (by simp)
  | pfwDeassertion =>
    rw [exec, execPfwDeassertion] at h
    exact epochs_of_whileRunning h (by simp)

/-- The dispatch of q's head frame leaves a port's epoch, or the port is q and the frame an OPEN that gives the next. -/
theorem epoch_of_dispatch {s : State} {q : PortId} {f : RxFrame} {rest : List RxFrame} (id : Nat) (p : PortId)
    (hrx : (portOf s q).rxBuffer = f :: rest) :
    (dispatch (handlerOf (bodyKind f.body)) q id f rest s).ports.epochs p = s.ports.epochs p ∨
      p = q ∧ (∃ f rest, (portOf s p).rxBuffer = f :: rest ∧ byteAt f.body 0 = kindOpen) ∧
        (dispatch (handlerOf (bodyKind f.body)) q id f rest s).ports.epochs p = nextEpoch (s.ports.epochs p) := by
  obtain e | ⟨hk, e⟩ := epochs_dispatch q id f rest s <;> rw [e]
  · exact .inl rfl
  · by_cases hp : p = q
    · subst hp
      exact .inr ⟨rfl, ⟨f, rest, hrx, hk⟩, Function.update_self ..⟩
    · exact .inl (Function.update_of_ne hp ..)

/-- What the OPEN command of `q` does to the epoch of a port. -/
theorem epoch_openSession {s t : State} {q : PortId} (p : PortId) (h : exec (.openSession q) s = .next t) :
    t.ports.epochs p = s.ports.epochs p ∨
      p = q ∧ (∃ f rest, (portOf s p).rxBuffer = f :: rest ∧ byteAt f.body 0 = kindOpen) ∧
        t.ports.epochs p = nextEpoch (s.ports.epochs p) := by
  obtain rfl | ⟨-, rfl⟩ := whileRunning_cases h
  · exact .inl rfl
  · rw [serve, epochs_settle]
    obtain e | ⟨f, rest, id, hrx, hk, -, e⟩ := request_cases (· == kindOpen) handleOpen q s <;> rw [e]
    · exact .inl rfl
    · have hopen : handleOpen = handlerOf (bodyKind f.body) := by rw [eq_of_beq hk, handlerOf_kindOpen]
      rw [hopen]
      exact epoch_of_dispatch id p hrx

/-- What POOL_GRANT does to the epoch of a port. -/
theorem epoch_poolGrant {s t : State} (p : PortId) (h : exec .poolGrant s = .next t) :
    t.ports.epochs p = s.ports.epochs p ∨
      (∃ f rest, (portOf s p).rxBuffer = f :: rest ∧ byteAt f.body 0 = kindOpen) ∧
        t.ports.epochs p = nextEpoch (s.ports.epochs p) := by
  rw [exec, execPoolGrant] at h
  obtain rfl | ⟨-, rfl⟩ := whileRunning_cases h
  · exact .inl rfl
  · rw [epochs_settle]
    obtain e | ⟨f, rest, id, q, hrx, -, -, e⟩ := grant_cases s <;> rw [e]
    · exact .inl rfl
    · exact (epoch_of_dispatch (s := { s with lastGranted := q }) id p hrx).imp_right And.right

/-! ### The statement -/

theorem nextEpoch_eq (e : Byte) : nextEpoch e = if e = 255 then 1 else e + 1 := rfl

theorem nextEpoch_ne_zero (e : Byte) : nextEpoch e ≠ 0 := by
  rw [nextEpoch_eq]
  split
  · decide
  · bv_omega

/-- Settles O32: the one law of the epochs is `epochs_handleOpen`, and every other operation keeps them; OPENED and
STATUS_INFO are the answers of the entry taken, which the choice that follows leaves standing. -/
theorem epochCountsOpens : Obligations.EpochCountsOpens := by
  refine ⟨fun p => by cases p <;> rfl, ?reset, nextEpoch_eq, nextEpoch_ne_zero, ?openSession, ?poolGrant, ?others,
    ?status, fun _ _ => rfl⟩
  case reset =>
    intro s t straps pfw hs h p
    obtain ⟨r, hr⟩ := Option.ne_none_iff_exists'.1 hs
    rw [exec, execEndOfReset, hr] at h
    cases h
    rw [portOf_epoch, epochs_endReset]
  case openSession =>
    intro s t p id f rest hpass hk h
    have ⟨hs, _, hid, _⟩ := hpass
    have hserve : serve (· == kindOpen) handleOpen p s = _ := serve_of_passes handleOpen hpass (by simp [hk])
    rw [exec, execOpen, whileRunning_out _ _ hs, hserve] at h
    cases h
    exact open_taken (freeReserved_some hid).2
  case poolGrant =>
    intro s t p id f rest hs hid hp hrx hk hcheck h
    have hgrant := grant_of_passes hid hp hrx hcheck
    rw [bodyKind, hk, handlerOf_kindOpen] at hgrant
    rw [exec, execPoolGrant, whileRunning_out _ _ hs, hgrant] at h
    cases h
    obtain ⟨-, -, hfree⟩ := freePooled_some hid
    obtain ⟨hepoch, hanswered⟩ := open_taken (s := { s with lastGranted := p }) (p := p) (f := f) (rest := rest) hfree
    exact ⟨hepoch, fun hl => hanswered { hl with }⟩
  case others =>
    intro c s t p h hr
    simp only [portOf_epoch]
    by_cases hg : c = .poolGrant
    · subst hg
      exact (epoch_poolGrant p h).imp_right (⟨.inr rfl, ·⟩)
    · by_cases ho : ∃ q, c = .openSession q
      · obtain ⟨q, rfl⟩ := ho
        exact (epoch_openSession p h).imp_right (fun ⟨hp, hopen⟩ => ⟨.inl (by rw [hp]), hopen⟩)
      · exact .inl (congrFun (epochs_exec h hr (fun q hq => ho ⟨q, hq⟩) hg) p)
  case status =>
    intro s t p id f rest hpass hk hl h
    have ⟨hs, _, hid, _⟩ := hpass
    have hserve : serve (· == kindStatus) handleStatus p s = _ := serve_of_passes handleStatus hpass (by simp [hk])
    rw [exec, execStatus, whileRunning_out _ _ hs, hserve] at h
    cases h
    exact ⟨_, by simp [statusInfoOf, portOf_epoch], status_taken (freeReserved_some hid).2 hl⟩

end Sys2Proof.Machine

/-! SUPPORT. The reset cause and MARKER_FAULT: what each operation of the model does to them. O40 and O48 are settled
here. -/

namespace Sys2Proof.Machine

/-! ### The two together -/

/-- The reset cause (R151) and MARKER_FAULT (R168): what no operation sets but those of the power manager. -/
def State.causeAndFault (s : State) : ResetCause × Bool := (s.resetCause, s.markerFault)

theorem resetCause_of_causeAndFault {s : State} {x : ResetCause × Bool} (h : s.causeAndFault = x) :
    s.resetCause = x.1 := congrArg Prod.fst h

theorem markerFault_of_causeAndFault {s : State} {x : ResetCause × Bool} (h : s.causeAndFault = x) :
    s.markerFault = x.2 := congrArg Prod.snd h

theorem causeAndFault_of_lessTraffic {s t : State} (h : t.lessTraffic = s.lessTraffic) :
    t.causeAndFault = s.causeAndFault := (congrArg State.causeAndFault h :)

theorem causeAndFault_of_lessPorts {s t : State} (h : t.lessPorts = s.lessPorts) :
    t.causeAndFault = s.causeAndFault := (congrArg State.causeAndFault h :)

theorem causeAndFault_of_lessQueueing {s t : State} (h : t.lessQueueing = s.lessQueueing) :
    t.causeAndFault = s.causeAndFault := (congrArg State.causeAndFault h :)

@[simp] theorem causeAndFault_settle (s : State) : (settle s).causeAndFault = s.causeAndFault :=
  (congrArg State.causeAndFault (settle_frame s) :)

/-! ### Requests -/

@[simp] theorem causeAndFault_answer (id : Nat) (a : Answer) (s : State) :
    (answer id a s).causeAndFault = s.causeAndFault := causeAndFault_of_lessTraffic (answer_frame id a s)

@[simp] theorem causeAndFault_refuse (e : Entry) (code : NakCode) (s : State) :
    (refuse e code s).causeAndFault = s.causeAndFault := causeAndFault_answer _ _ _

@[simp] theorem causeAndFault_handleRead (e : Entry) (s : State) :
    (handleRead e s).causeAndFault = s.causeAndFault := by
  have hjoin : (joinFetch e s).causeAndFault = s.causeAndFault := rfl
  unfold handleRead
  (repeat' split) <;> simp [hjoin]

@[simp] theorem causeAndFault_handleChange (e : Entry) (s : State) :
    (handleChange e s).causeAndFault = s.causeAndFault := causeAndFault_of_lessQueueing (handleChange_frame e s)

@[simp] theorem causeAndFault_handleInspect (e : Entry) (s : State) :
    (handleInspect e s).causeAndFault = s.causeAndFault := by
  unfold handleInspect; split <;> simp

@[simp] theorem causeAndFault_handleFlush (e : Entry) (s : State) :
    (handleFlush e s).causeAndFault = s.causeAndFault := by
  unfold handleFlush
  split
  · simp
  · split
    · simp
    · rfl

@[simp] theorem causeAndFault_handleClaim (e : Entry) (s : State) :
    (handleClaim e s).causeAndFault = s.causeAndFault := by
  unfold handleClaim; dsimp only
  (repeat' split) <;> simp [State.causeAndFault]

@[simp] theorem causeAndFault_handleRelease (e : Entry) (s : State) :
    (handleRelease e s).causeAndFault = s.causeAndFault := by
  unfold handleRelease
  (repeat' split) <;> simp [State.causeAndFault]

@[simp] theorem causeAndFault_handleWatch (e : Entry) (s : State) :
    (handleWatch e s).causeAndFault = s.causeAndFault := by
  unfold handleWatch; dsimp only
  (repeat' split) <;> simp [State.causeAndFault]

@[simp] theorem causeAndFault_handleUnwatch (e : Entry) (s : State) :
    (handleUnwatch e s).causeAndFault = s.causeAndFault := causeAndFault_answer _ _ _

/-- The end of a session clears nothing of the power manager's (R123). -/
@[simp] theorem causeAndFault_teardown (p : PortId) (keep : Option Nat) (s : State) :
    (teardown p keep s).causeAndFault = s.causeAndFault := rfl

@[simp] theorem causeAndFault_handleOpen (e : Entry) (s : State) :
    (handleOpen e s).causeAndFault = s.causeAndFault := by
  unfold handleOpen; dsimp only
  rw [causeAndFault_answer]
  split <;> rfl

@[simp] theorem causeAndFault_handleClose (e : Entry) (s : State) :
    (handleClose e s).causeAndFault = s.causeAndFault :=
  causeAndFault_answer e.id (.closed (portOf s e.port).epoch) s

@[simp] theorem causeAndFault_handleStatus (e : Entry) (s : State) :
    (handleStatus e s).causeAndFault = s.causeAndFault :=
  causeAndFault_answer e.id (.statusInfo (statusInfoOf s e.port)) s

@[simp] theorem causeAndFault_handleResync (e : Entry) (s : State) :
    (handleResync e s).causeAndFault = s.causeAndFault := causeAndFault_answer _ _ _

/-- No block that owns a kind sets the reset cause or MARKER_FAULT. -/
theorem causeAndFault_handlerOf (kind : Byte) (e : Entry) (s : State) :
    (handlerOf kind e s).causeAndFault = s.causeAndFault := by
  simp [handlerOf, apply_ite State.causeAndFault]

section

variable {handler : Entry → State → State} (hh : ∀ e s, (handler e s).causeAndFault = s.causeAndFault)
include hh

theorem causeAndFault_dispatch (p : PortId) (id : Nat) (f : RxFrame) (rest : List RxFrame) (s : State) :
    (dispatch handler p id f rest s).causeAndFault = s.causeAndFault := by
  have htake : (takeFrame p id f rest s).causeAndFault = s.causeAndFault := rfl
  obtain ⟨code, -, e⟩ | ⟨-, e⟩ := dispatch_cases handler p id f rest s
  · rw [e, causeAndFault_answer, htake]
  · rw [e, hh, htake]

theorem causeAndFault_serve (rowKind : Byte → Bool) (p : PortId) (s : State) :
    (serve rowKind handler p s).causeAndFault = s.causeAndFault := by
  rw [serve, causeAndFault_settle]
  obtain e | ⟨f, rest, id, -, -, -, e⟩ := request_cases rowKind handler p s <;> rw [e]
  exact causeAndFault_dispatch hh p id f rest s

end

@[simp] theorem causeAndFault_grant (s : State) : (grant s).causeAndFault = s.causeAndFault := by
  obtain e | ⟨f, rest, id, p, -, -, -, e⟩ := grant_cases s <;> rw [e]
  exact causeAndFault_dispatch (causeAndFault_handlerOf _) p id f rest { s with lastGranted := p }

/-! ### Links, claims, array operations -/

@[simp] theorem causeAndFault_updPort (p : PortId) (f : Port → Port) (s : State) :
    (updPort p f s).causeAndFault = s.causeAndFault := causeAndFault_of_lessPorts (updPort_frame p f s)

@[simp] theorem causeAndFault_placeLinkup (p : PortId) (s : State) :
    (placeLinkup p s).causeAndFault = s.causeAndFault := rfl

@[simp] theorem causeAndFault_goodFrame (p : PortId) (body : List Byte) (s : State) :
    (goodFrame p body s).causeAndFault = s.causeAndFault := causeAndFault_of_lessPorts (goodFrame_frame p body s)

@[simp] theorem causeAndFault_takeByte (p : PortId) (b : Byte) (good : Bool) (s : State) :
    (takeByte p b good s).causeAndFault = s.causeAndFault := causeAndFault_of_lessPorts (takeByte_frame p b good s)

@[simp] theorem causeAndFault_frameLeaves (p : PortId) (s : State) :
    (frameLeaves p s).causeAndFault = s.causeAndFault := causeAndFault_of_lessTraffic (frameLeaves_frame p s)

@[simp] theorem causeAndFault_outgoingDone (p : PortId) (s : State) :
    (outgoingDone p s).causeAndFault = s.causeAndFault := causeAndFault_of_lessTraffic (outgoingDone_frame p s)

@[simp] theorem causeAndFault_exchange {p : PortId} {order : EdgeOrder} {incoming : State → State} {s : State}
    (h : ∀ u, (incoming u).causeAndFault = u.causeAndFault) :
    (exchange p order incoming s).causeAndFault = s.causeAndFault := by
  cases order <;> simp [exchange, h]

@[simp] theorem causeAndFault_exchangeOut (p : PortId) (n : Nat) (s : State) :
    (exchangeOut p n s).causeAndFault = s.causeAndFault := causeAndFault_of_lessTraffic (exchangeOut_frame p n s)

@[simp] theorem causeAndFault_attend (p : PortId) (s : State) : (attend p s).causeAndFault = s.causeAndFault := by
  unfold attend; dsimp only
  (repeat' split) <;> rfl

@[simp] theorem causeAndFault_tick (s : State) : (tick s).causeAndFault = s.causeAndFault := by
  simp [State.causeAndFault, tick]

@[simp] theorem causeAndFault_fetchDone (e : Entry) (image : List Byte) (s : State) :
    (fetchDone e image s).causeAndFault = s.causeAndFault := by
  unfold fetchDone applyCheck; dsimp only
  (repeat' split) <;> simp [State.causeAndFault]

/-- A removal ends with the mode, the marks and the retry pass (R31, R32). -/
theorem causeAndFault_afterRemoval (removed : List QueueEntry) (fault : Bool) (s : State) :
    (retryPass (dropAllMarks removed fault s)).causeAndFault = s.causeAndFault := by
  rw [causeAndFault_of_lessQueueing (retryPass_frame _), causeAndFault_of_lessTraffic (dropAllMarks_frame _ _ _)]

theorem causeAndFault_modeAfterRemoval (s : State) : (modeAfterRemoval s).causeAndFault = s.causeAndFault :=
  causeAndFault_of_lessQueueing (modeAfterRemoval_frame s)

theorem causeAndFault_retireReserved (r : Nat) (l : Location) (s : State) :
    (retireReserved r l s).causeAndFault = s.causeAndFault := by
  unfold retireReserved
  split
  · rfl
  · cases l <;> rfl

theorem causeAndFault_commit (e : QueueEntry) (s : State) : (commit e s).causeAndFault = s.causeAndFault := by
  unfold commit; dsimp only
  rw [causeAndFault_afterRemoval, causeAndFault_modeAfterRemoval]
  split
  · rfl
  · cases (rowOf s e.record).location <;> rfl

theorem causeAndFault_faultRecord (e : QueueEntry) (s : State) :
    (faultRecord e s).causeAndFault = s.causeAndFault := by
  unfold faultRecord; dsimp only
  rw [causeAndFault_afterRemoval, causeAndFault_of_lessPorts (reportFault_frame _ _ _ _),
    causeAndFault_modeAfterRemoval]
  rfl

theorem causeAndFault_programFailed (e : QueueEntry) (s : State) :
    (programFailed e s).causeAndFault = s.causeAndFault := by
  unfold programFailed
  split
  · rfl
  · split
    · unfold remap; dsimp only
      split
      · exact causeAndFault_retireReserved _ _ s
      · rfl
    · rw [giveUp, causeAndFault_faultRecord]
      split
      · exact causeAndFault_retireReserved _ _ s
      · rfl

@[simp] theorem causeAndFault_programDone (e : QueueEntry) (slot : Nat) (got : Cells) (s : State) :
    (programDone e slot got s).causeAndFault = s.causeAndFault := by
  unfold programDone; dsimp only
  split
  · exact causeAndFault_commit _ _
  · exact causeAndFault_programFailed _ _

theorem causeAndFault_reconcilePrimary (n : Nat) (image : List Byte) (s : State) :
    (reconcilePrimary n image s).causeAndFault = s.causeAndFault := by
  unfold reconcilePrimary; split <;> rfl

theorem causeAndFault_reconcileSpare (n : Nat) (image : List Byte) (s : State) :
    (reconcileSpare n image s).causeAndFault = s.causeAndFault := by
  unfold reconcileSpare; (repeat' split) <;> rfl

theorem causeAndFault_scanDone (s : State) : (scanDone s).causeAndFault = s.causeAndFault := rfl

theorem causeAndFault_reconcile (slot : Nat) (image : List Byte) (s : State) :
    (reconcile slot image s).causeAndFault = s.causeAndFault := by
  unfold reconcile
  split
  · rfl
  · split
    · exact causeAndFault_reconcilePrimary _ _ _
    · split
      · rw [causeAndFault_scanDone, causeAndFault_reconcileSpare]
      · exact causeAndFault_reconcileSpare _ _ _

@[simp] theorem causeAndFault_scanFetchDone (slot : Nat) (withdrawn : Bool) (got : Cells) (s : State) :
    (scanFetchDone slot withdrawn got s).causeAndFault = s.causeAndFault := by
  unfold scanFetchDone; dsimp only
  split
  · rfl
  · exact causeAndFault_reconcile _ _ _

/-! ### The power manager -/

@[simp] theorem causeAndFault_announce (s : State) : (announce s).causeAndFault = s.causeAndFault :=
  causeAndFault_of_lessPorts (announce_frame s)

theorem causeAndFault_holdupFromRun (s : State) : (holdupFromRun s).causeAndFault = s.causeAndFault := by
  simp [State.causeAndFault, holdupFromRun, refuseReads, refuseWaiters, enterHoldup]

@[simp] theorem causeAndFault_assertPfw (s : State) : (assertPfw s).causeAndFault = s.causeAndFault := by
  unfold assertPfw; dsimp only
  split
  case h_1 => exact causeAndFault_holdupFromRun _
  case h_2 => split <;> simp [State.causeAndFault, enterParked]
  all_goals rfl

@[simp] theorem causeAndFault_deassertPfw (s : State) : (deassertPfw s).causeAndFault = s.causeAndFault := by
  unfold deassertPfw; dsimp only
  (repeat' split) <;> simp [State.causeAndFault, enterRun, enterResuming, enterStartup]

theorem causeAndFault_tear (torn : Torn) (s : State) : (tear torn s).causeAndFault = s.causeAndFault := by
  have hinto : ∀ slot image, (tearInto slot image torn s).causeAndFault = s.causeAndFault := by
    intro slot image
    cases torn <;> simp [State.causeAndFault, tearInto]
  unfold tear
  (repeat' split) <;> simp [hinto]

/-- A further event, or the begin of a reset, leaves the cause of the last one and MARKER_FAULT (R151, R168). -/
theorem causeAndFault_beginReset (cause : ResetEvent) (torn : Torn) (s : State) :
    (beginReset cause torn s).causeAndFault = s.causeAndFault := by
  unfold beginReset
  split
  · rfl
  · exact causeAndFault_tear torn s

/-! ### The commands -/

theorem causeAndFault_of_whileRunning {f : State → State} {s t : State} (h : whileRunning f s = .next t)
    (hf : (f s).causeAndFault = s.causeAndFault) : t.causeAndFault = s.causeAndFault := by
  obtain rfl | ⟨-, rfl⟩ := whileRunning_cases h
  · rfl
  · exact hf

theorem causeAndFault_of_serve {rowKind : Byte → Bool} {handler : Entry → State → State} {p : PortId}
    {s t : State} (h : whileRunning (serve rowKind handler p) s = .next t)
    (hh : ∀ e s, (handler e s).causeAndFault = s.causeAndFault) : t.causeAndFault = s.causeAndFault :=
  causeAndFault_of_whileRunning h (causeAndFault_serve hh rowKind p s)

/-- A command other than MARKER_PROGRAM_COMPLETION and END_OF_RESET sets neither the reset cause nor MARKER_FAULT. -/
theorem causeAndFault_exec {c : Instr} {s t : State} (h : exec c s = .next t)
    (hm : ∀ got, c ≠ .markerProgramCompletion got) (he : ∀ straps pfw, c ≠ .endOfReset straps pfw) :
    t.causeAndFault = s.causeAndFault := by
  cases c with
  | markerProgramCompletion got => exact absurd rfl (hm got)
  | endOfReset straps pfw => exact absurd rfl (he straps pfw)
  | reset cause torn => cases h; exact causeAndFault_beginReset cause torn s
  | frameReceived p frame => exact causeAndFault_of_whileRunning h (by (repeat' split) <;> simp)
  | frameError p failure => exact causeAndFault_of_whileRunning h (by (repeat' split) <;> simp)
  | interByteGapTimeout p => exact causeAndFault_of_whileRunning h (by split <;> simp)
  | deselection p => exact causeAndFault_of_whileRunning h (by split <;> simp)
  | calibration p low => exact causeAndFault_of_whileRunning h (by split <;> simp)
  | attention p => exact causeAndFault_of_whileRunning h (by split <;> simp)
  | frameSent p => exact causeAndFault_of_whileRunning h (by (repeat' split) <;> simp)
  | byteReceived p b moment order =>
    rw [exec, execByteReceived] at h
    exact causeAndFault_of_whileRunning h (by (repeat' split) <;> simp)
  | poolGrant =>
    rw [exec, execPoolGrant] at h
    exact causeAndFault_of_whileRunning h (by simp)
  | badKindRequest p => exact causeAndFault_of_serve h (fun _ _ => causeAndFault_refuse _ _ _)
  | read p => exact causeAndFault_of_serve h causeAndFault_handleRead
  | write p => exact causeAndFault_of_serve h causeAndFault_handleChange
  | writeIf p => exact causeAndFault_of_serve h causeAndFault_handleChange
  | erase p => exact causeAndFault_of_serve h causeAndFault_handleChange
  | inspect p => exact causeAndFault_of_serve h causeAndFault_handleInspect
  | flush p => exact causeAndFault_of_serve h causeAndFault_handleFlush
  | claim p => exact causeAndFault_of_serve h causeAndFault_handleClaim
  | release p => exact causeAndFault_of_serve h causeAndFault_handleRelease
  | watch p => exact causeAndFault_of_serve h causeAndFault_handleWatch
  | unwatch p => exact causeAndFault_of_serve h causeAndFault_handleUnwatch
  | openSession p => exact causeAndFault_of_serve h causeAndFault_handleOpen
  | closeSession p => exact causeAndFault_of_serve h causeAndFault_handleClose
  | status p => exact causeAndFault_of_serve h causeAndFault_handleStatus
  | resync p => exact causeAndFault_of_serve h causeAndFault_handleResync
  | fetchCompletion got =>
    rw [exec, execFetchCompletion] at h
    refine causeAndFault_of_whileRunning h ?_
    split
    · rw [causeAndFault_settle]
      split
      · exact causeAndFault_fetchDone _ _ s
      · rfl
    · rfl
  | programCompletion got =>
    rw [exec, execProgramCompletion] at h
    refine causeAndFault_of_whileRunning h ?_
    split
    · rw [causeAndFault_settle]
      split
      · exact causeAndFault_programDone _ _ _ s
      · rfl
    · rfl
  | scanFetchCompletion got =>
    rw [exec, execScanFetchCompletion] at h
    exact causeAndFault_of_whileRunning h (by split <;> simp)
  | claimClockTick => exact causeAndFault_of_whileRunning h (causeAndFault_tick s)
  | leaseExpiry r => exact causeAndFault_of_whileRunning h (by split <;> simp)
  | pfwAssertion =>
    rw [exec, execPfwAssertion] at h
    exact causeAndFault_of_whileRunning h (by simp)
  | pfwDeassertion =>
    rw [exec, execPfwDeassertion] at h
    exact causeAndFault_of_whileRunning h (by simp)

/-! ### The outcome of a marker program (R168) -/

/-- MARKER_FAULT after a DIRTY program: set by the third failure, unless PFW asserted ends the sequence (R161). -/
theorem dirtyDone_markerFault (ok : Bool) (n : Nat) (s : State) :
    (dirtyDone ok n s).markerFault = true ↔
      s.markerFault = true ∨ Config.maxAttempts ≤ n ∧ ok = false ∧ s.pfwAsserted = false := by
  unfold dirtyDone
  split
  · simp [enterHoldup, *]
  · split
    · simp [enterRun, *]
    · split
      case isTrue hlt => simp [nextAttempt, Nat.not_le.2 hlt]
      case isFalse hlast => simp [enterRun, Nat.not_lt.1 hlast, *]

/-- MARKER_FAULT after a CLEAN program: set by the third failure, unless PFW deasserted ends the sequence (R165). -/
theorem cleanDone_markerFault (ok : Bool) (n : Nat) (s : State) :
    (cleanDone ok n s).markerFault = true ↔
      s.markerFault = true ∨ Config.maxAttempts ≤ n ∧ ok = false ∧ s.pfwAsserted = true := by
  unfold cleanDone
  split
  · split
    · simp [enterParked, *]
    · split
      case isTrue hlt => simp [nextAttempt, Nat.not_le.2 hlt]
      case isFalse hlast => simp [enterParked, Nat.not_lt.1 hlast, *]
  · simp [enterResuming, *]

/-- The attempt of the sequence in course: PFW on the sequence's side, and this outcome a third failure. -/
theorem markerDone_markerFault {s : State} {v : MarkerValue} {n : Nat} (ok : Bool) (h : s.markerSeq = some (v, n)) :
    (markerDone ok s).markerFault = true ↔
      s.markerFault = true ∨ Config.maxAttempts ≤ n ∧ ok = false ∧ (v = .dirty ↔ s.pfwAsserted = false) := by
  rw [markerDone, h]
  cases v
  · simp [cleanDone_markerFault]
  · simp [dirtyDone_markerFault]

theorem markerDone_resetCause (ok : Bool) (s : State) : (markerDone ok s).resetCause = s.resetCause := by
  unfold markerDone dirtyDone cleanDone
  (repeat' split) <;> simp [enterHoldup, enterRun, enterParked, enterResuming, nextAttempt]

/-- What MARKER_PROGRAM_COMPLETION can do: nothing, or the outcome of the marker program in flight. -/
theorem markerProgramCompletion_cases {got : Cells} {s t : State}
    (h : exec (.markerProgramCompletion got) s = .next t) :
    t = s ∧ (∀ v, s.resetHold = none → s.op ≠ some (.markerProgram v)) ∨
      ∃ v, s.op = some (.markerProgram v) ∧
        t = settle (markerDone (verifyOk (markerImage v) got)
          (writeSlot Config.markerSlot (cellsLeft (markerImage v) got) { s with op := none })) := by
  rw [exec, execMarkerProgramCompletion] at h
  by_cases hs : s.resetHold = none
  · rw [whileRunning_out _ _ hs] at h
    cases h
    split
    case h_1 v hop => exact .inr ⟨v, hop, rfl⟩
    case h_2 hop => exact .inl ⟨rfl, fun v _ => hop v⟩
  · rw [whileRunning_held _ _ hs] at h
    cases h
    exact .inl ⟨rfl, fun _ h => absurd h hs⟩

/-- A marker sequence stands at one of its three attempts (R159, R163). -/
theorem PowerGood.attempt_le {s : State} {v : MarkerValue} {n : Nat} (h : PowerGood s)
    (hseq : s.markerSeq = some (v, n)) : n ≤ 3 := by
  have hnot : s.markerSeq ≠ none := by simp [hseq]
  have hin : ∀ {w}, InSequence w s → n ≤ 3 := by
    rintro w ⟨k, hk, hwk⟩
    simp [hseq] at hwk hk
    omega
  cases hp : s.partState with
  | startup =>
    obtain ⟨-, -, ⟨-, -, hnone⟩ | ⟨-, -, hq⟩⟩ := h.startup hp
    exacts [absurd hnone hnot, hin hq]
  | run =>
    obtain ⟨-, -, -, hnone, -⟩ := h.run hp
    exact absurd hnone hnot
  | holdup =>
    obtain ⟨-, -, -, ⟨hnone, -⟩ | ⟨-, hq⟩⟩ := h.holdup hp
    exacts [absurd hnone hnot, hin hq]
  | parked =>
    obtain ⟨-, -, hnone, -⟩ := h.parked hp
    exact absurd hnone hnot
  | resuming =>
    obtain ⟨-, -, -, -, hq⟩ := h.resuming hp
    exact hin hq

/-- A marker program in flight is an attempt of the sequence in course (R70). -/
theorem markerSeq_of_opGood {s : State} {v : MarkerValue} (h : opGood s = true)
    (hop : s.op = some (.markerProgram v)) : ∃ n, s.markerSeq = some (v, n) := by
  simp only [opGood, hop, Bool.and_eq_true, Option.any_eq_true] at h
  obtain ⟨⟨⟨w, n⟩, hseq, hw⟩, -⟩ := h
  obtain rfl : w = v := eq_of_beq hw
  exact ⟨n, hseq⟩

/-! ### The end of a reset (R151, R168) -/

theorem causeAndFault_endReset (straps : Straps) (pfw : Level) (r : ResetRecord) (s : State) :
    (endReset straps pfw r s).causeAndFault = (causeOf r, false) := by
  have hlinkup : ∀ p u, (linkupIfClocked p u).causeAndFault = u.causeAndFault := by
    intro p u; unfold linkupIfClocked; split <;> rfl
  unfold endReset; dsimp only
  rw [causeAndFault_settle, forPorts_frame State.causeAndFault _ hlinkup]
  split <;> rfl

theorem exec_endOfReset {s : State} {r : ResetRecord} (straps : Straps) (pfw : Level) (hr : s.resetHold = some r) :
    exec (.endOfReset straps pfw) s = .next (endReset straps pfw r s) := by
  rw [exec, execEndOfReset, hr]

/-- Settles O40: only MARKER_PROGRAM_COMPLETION and END_OF_RESET touch MARKER_FAULT; the first sets it by
`markerDone_markerFault`, the second clears it. -/
theorem markerFaultIsSetAndKept : Obligations.MarkerFaultIsSetAndKept := by
  refine ⟨?set, ?cleared, fun _ _ => rfl⟩
  case set =>
    intro c s t hs hgood hreset h
    by_cases hm : ∃ got, c = .markerProgramCompletion got
    · obtain ⟨got, rfl⟩ := hm
      obtain ⟨rfl, hop⟩ | ⟨v, hop, rfl⟩ := markerProgramCompletion_cases h
      · simp [hop _ hs]
      · obtain ⟨n, hseq⟩ := markerSeq_of_opGood (hgood.op hs) hop
        have hn := (hgood.power hs).attempt_le hseq
        have hthird : Config.maxAttempts ≤ n ↔ n = 3 := ⟨hn.antisymm, fun h => h.ge⟩
        rw [settle_markerFault, markerDone_markerFault _ (by exact hseq), hthird]
        simp [hop, hseq]
    · have hend : ∀ straps pfw, c ≠ .endOfReset straps pfw := by rintro _ _ rfl; cases hreset
      rw [markerFault_of_causeAndFault (causeAndFault_exec h (fun got hc => hm ⟨got, hc⟩) hend)]
      exact ⟨.inl, fun hor => hor.resolve_right (fun ⟨_, got, hc, _⟩ => hm ⟨got, hc⟩)⟩
  case cleared =>
    intro s t straps pfw hs h
    obtain ⟨r, hr⟩ := Option.ne_none_iff_exists'.1 hs
    rw [exec_endOfReset straps pfw hr, Host.Outcome.next.injEq] at h
    rw [← h, markerFault_of_causeAndFault (causeAndFault_endReset straps pfw r s)]

/-! ### The reset cause (R151) -/

/-- The supply monitor's record once these events have fallen within the reset. -/
def recordEvents (events : List ResetEvent) (r : ResetRecord) : ResetRecord :=
  events.foldl (fun r e => recordEvent e r) r

/-- The record holds what it held and what took place, whatever the order. -/
theorem recordEvents_eq (events : List ResetEvent) (r : ResetRecord) :
    recordEvents events r =
      ⟨r.belowPowerOn || decide (.powerOn ∈ events), r.belowBrownOut || decide (.brownOut ∈ events)⟩ := by
  induction events generalizing r with
  | nil => simp [recordEvents]
  | cons e events ih =>
    rw [recordEvents, List.foldl_cons, ← recordEvents, ih]
    cases e <;> simp [recordEvent]

theorem causeOf_recordEvents (events : List ResetEvent) :
    causeOf (recordEvents events ⟨false, false⟩) =
      if .powerOn ∈ events then .powerOn else if .brownOut ∈ events then .brownOut else .pin := by
  simp [recordEvents_eq, causeOf]

theorem runAll_reset (e : ResetEvent) (torn : Torn) (rest : List Instr) (s : State) :
    runAll (.reset e torn :: rest) s = runAll rest (beginReset e torn s) := by
  rw [runAll, exec, execReset]

theorem runAll_endOfReset {s : State} {r : ResetRecord} (straps : Straps) (pfw : Level) (hr : s.resetHold = some r) :
    runAll [.endOfReset straps pfw] s = some (endReset straps pfw r s) := by
  simp only [runAll, exec_endOfReset straps pfw hr]

theorem beginReset_first {s : State} (e : ResetEvent) (torn : Torn) (h : s.resetHold = none) :
    (beginReset e torn s).resetHold = some (recordEvent e ⟨false, false⟩) := by rw [beginReset, h]

theorem beginReset_further {s : State} {r : ResetRecord} (e : ResetEvent) (torn : Torn) (h : s.resetHold = some r) :
    (beginReset e torn s).resetHold = some (recordEvent e r) := by rw [beginReset, h]

/-- Events within a reset are recorded, and its end sets the cause from the record. -/
theorem resetCause_of_held {s t : State} {r : ResetRecord} {torn : Torn} {straps : Straps} {pfw : Level}
    (events : List ResetEvent) (hr : s.resetHold = some r)
    (h : runAll (events.map (fun e => Instr.reset e torn) ++ [.endOfReset straps pfw]) s = some t) :
    t.resetCause = causeOf (recordEvents events r) := by
  induction events generalizing s r with
  | nil =>
    rw [List.map_nil, List.nil_append, runAll_endOfReset straps pfw hr, Option.some.injEq] at h
    rw [← h, resetCause_of_causeAndFault (causeAndFault_endReset straps pfw r s)]
    rfl
  | cons e events ih =>
    rw [List.map_cons, List.cons_append, runAll_reset] at h
    exact ih (beginReset_further e torn hr) h

/-- Settles O48: the first event begins the reset with an empty record, `resetCause_of_held` carries the record to its
end, and no other command touches the cause. -/
theorem resetCauseComesFromTheSupply : Obligations.ResetCauseComesFromTheSupply := by
  refine ⟨?set, ?kept, fun _ _ => rfl⟩
  case set =>
    intro s t events torn straps pfw hs hne h
    obtain ⟨e, events, rfl⟩ := List.exists_cons_of_ne_nil hne
    rw [List.map_cons, List.cons_append, runAll_reset] at h
    rw [← causeOf_recordEvents]
    exact resetCause_of_held events (beginReset_first e torn hs) h
  case kept =>
    intro c s t h hend
    by_cases hm : ∃ got, c = .markerProgramCompletion got
    · obtain ⟨got, rfl⟩ := hm
      obtain ⟨rfl, -⟩ | ⟨v, -, rfl⟩ := markerProgramCompletion_cases h
      · rfl
      · rw [settle_resetCause, markerDone_resetCause, writeSlot_resetCause]
    · exact resetCause_of_causeAndFault (causeAndFault_exec h (fun got hc => hm ⟨got, hc⟩) hend)

end Sys2Proof.Machine

/-! SUPPORT. What a command can do, said once: the moves of a link, what the block that owns a kind does with a request,
and what each command answers. The laws of the whole part are derived from these. -/

namespace Sys2Proof.Machine

/-! ### The moves of a link -/

/-- SELn becoming inactive: an incoming partial frame fails, the outgoing one stays at the head (R136, R141). -/
def deselect (x : Port) : Port :=
  { (if x.receiver = .hunting then x else failFrame .hunting x) with
    sending := none, outByte := none, selected := false }

/-- One move of the link of p while it can receive; `fails` says whether the command may fail a frame. -/
inductive LinkMove (p : PortId) (fails : Bool) (s : State) : State → Prop
  | receiver (r : Receiver) : LinkMove p fails s (updPort p (fun x => { x with receiver := r }) s)
  | failure (hf : fails = true) (r : Receiver) : LinkMove p fails s (updPort p (failFrame r) s)
  | overrun : LinkMove p fails s (updPort p (fun x => { x with overrun := true }) s)
  | admitted (body : List Byte) (hw : outstanding s p < Config.window) :
      LinkMove p fails s (updPort p (admitFrame body) s)
  | byteSent (hm : (portOf s p).mode = .clocked) (k : Nat) (f : TxFrame) (rest : List TxFrame)
      (hk : (portOf s p).sending = some k)
      (htx : (portOf s p).tx = f :: rest) (hlen : k + 1 < (txBytes f).length) :
      LinkMove p fails s (updPort p (fun x => { x with sending := some (k + 1) }) s)
  | frameSent (f : TxFrame) (rest : List TxFrame) (htx : (portOf s p).tx = f :: rest) :
      LinkMove p fails s (frameLeaves p s)
  | boundary (hm : (portOf s p).mode = .clocked) : LinkMove p fails s (updPort p presentNext s)

/-- Moves of the link of p, one after another. -/
abbrev LinkMoves (p : PortId) (fails : Bool) : State → State → Prop := Relation.ReflTransGen (LinkMove p fails)

section
variable {p : PortId} {fails : Bool}

theorem LinkMove.moves {s t : State} (h : LinkMove p fails s t) : LinkMoves p fails s t := .single h

theorem windowCheck_moves (body : List Byte) (s : State) : LinkMoves p fails s (windowCheck p body s) := by
  obtain e | e | ⟨hw, e⟩ := windowCheck_cases p body s <;> rw [e]
  · exact LinkMove.overrun.moves
  · exact (LinkMove.admitted body hw).moves

theorem goodFrame_moves (body : List Byte) (s : State) : LinkMoves p fails s (goodFrame p body s) :=
  (LinkMove.receiver .hunting).moves.trans (windowCheck_moves body _)

theorem takeByte_moves (b : Byte) (good : Bool) (s : State) : LinkMoves p true s (takeByte p b good s) := by
  obtain e | ⟨r, e⟩ | ⟨r, e⟩ | ⟨body, e⟩ := takeByte_cases p b good s <;> rw [e]
  · exact (LinkMove.receiver r).moves
  · exact (LinkMove.failure rfl r).moves
  · exact goodFrame_moves body s

theorem outgoingDone_moves {s : State} (hm : (portOf s p).mode = .clocked) : LinkMoves p fails s (outgoingDone p s) := by
  unfold outgoingDone
  split
  case h_1 k f rest hk htx =>
    split
    case isTrue hlen => exact (LinkMove.byteSent hm k f rest hk htx hlen).moves
    case isFalse => exact (LinkMove.frameSent f rest htx).moves
  case h_2 => exact .refl

theorem LinkMove.mode_eq {s t : State} (h : LinkMove p fails s t) : (portOf t p).mode = (portOf s p).mode := by
  have hheld : ∀ u, (portOf (placeHeld p u) p).mode = (portOf u p).mode := by
    intro u; unfold placeHeld; (repeat' split) <;> simp [pushTx]
  cases h
  case frameSent => unfold frameLeaves; (repeat' split) <;> simp [hheld]
  all_goals simp [failFrame, setFrameErr, admitFrame]

theorem LinkMoves.mode_eq {s t : State} (h : LinkMoves p fails s t) : (portOf t p).mode = (portOf s p).mode := by
  induction h with
  | refl => rfl
  | tail _ h ih => rw [h.mode_eq, ih]

/-- An edge of a CLOCKED port is moves of its link, and the byte boundary last. -/
theorem exchange_moves (order : EdgeOrder) {incoming : State → State}
    (hi : ∀ u, LinkMoves p fails u (incoming u)) {s : State} (hm : (portOf s p).mode = .clocked) :
    ∃ u, LinkMoves p fails s u ∧ exchange p order incoming s = updPort p presentNext u := by
  cases order
  · exact ⟨_, (hi s).trans (outgoingDone_moves ((hi s).mode_eq.trans hm)), rfl⟩
  · exact ⟨_, (outgoingDone_moves hm).trans (hi _), rfl⟩

theorem exchangeOut_moves (n : Nat) {s : State} (hm : (portOf s p).mode = .clocked) :
    LinkMoves p fails s (exchangeOut p n s) := by
  induction n generalizing s with
  | zero => exact .refl
  | succ n ih =>
    obtain ⟨u, hu, e⟩ := exchange_moves (p := p) (fails := fails) .incomingFirst (incoming := id) (fun _ => .refl) hm
    rw [exchangeOut, e]
    have hmu : (portOf u p).mode = .clocked := hu.mode_eq.trans hm
    exact (hu.trans (LinkMove.boundary hmu).moves).trans (ih (by simpa using hmu))

end

/-! ### Requests -/

/-- The kinds of a change: WRITE, WRITE_IF and ERASE (R85). -/
def isChange (kind : Byte) : Prop := kind = kindWrite ∨ kind = kindWriteIf ∨ kind = kindErase

/-- The FLUSH record of e's port opens with the entries it marks, and e waits for it (R38). -/
def openFlush (e : Entry) (s : State) : State :=
  updEntry e.id (fun x => { x with state := .waitFlush })
    (updPort e.port (fun x => { x with flush := some ⟨e.tag, originCount e.port s.queue, false⟩ })
      { s with queue := markQueue e.port s.queue })

/-- What dispatch, or the block that owns its kind, does with the request of entry e (R79 to R86, R95 to R107, R120 to
R127, R145). -/
inductive Handled (e : Entry) (s : State) : State → Prop
  | answered (a : Answer) : Handled e s (answer e.id a s)
  | readWaits (hk : e.kind = kindRead) (hrun : s.partState = .run) (hb : s.built = true)
      (ho : readOutcome s e.args.record = none) : Handled e s (joinFetch e s)
  | changeWaits (hk : isChange e.kind) (hw : hasWaiter s e.port = true ∨ decisionOf e s = .wait) :
      Handled e s (joinWaiters e s)
  | changed (hk : isChange e.kind) (hw : hasWaiter s e.port = false) (coalesced : Bool)
      (hd : decisionOf e s = if coalesced then .merge else .append) : Handled e s (acceptChange e coalesced s)
  | flushOpens (hk : e.kind = kindFlush) (hf : (portOf s e.port).flush = none)
      (hn : originCount e.port s.queue ≠ 0) : Handled e s (openFlush e s)
  | claimed (hk : e.kind = kindClaim) (hrun : s.partState = .run)
      (hroom : (∃ c, claimOf s e.args.record = some c) ∨ s.claims.length < Config.claimSlots) :
      Handled e s (answer e.id (.granted e.args.record e.args.lease)
        { s with claims := keyedInsert e.args.record ⟨e.port, e.args.lease⟩ s.claims })
  | released (hk : e.kind = kindRelease) :
      Handled e s (answer e.id (.released e.args.record)
        { s with claims := keyedErase e.args.record s.claims })
  | watched (hk : e.kind = kindWatch) (hnew : isWatching s e.args.record e.port = false)
      (hroom : s.watches.length < Config.watchSlots) :
      Handled e s (answer e.id (.watching e.args.record)
        { s with watches := s.watches ++ [⟨e.args.record, e.port⟩] })
  | unwatched (hk : e.kind = kindUnwatch) :
      Handled e s (answer e.id (.unwatched e.args.record)
        { s with watches := s.watches.filter (fun w => !(w.record == e.args.record && w.port == e.port)) })
  | opened (hk : e.kind = kindOpen) : Handled e s (handleOpen e s)
  | closed (hk : e.kind = kindClose) : Handled e s (handleClose e s)
  | statusTold (hk : e.kind = kindStatus) : Handled e s (handleStatus e s)

theorem refuse_handled (e : Entry) (code : NakCode) (s : State) : Handled e s (refuse e code s) := .answered _

theorem handleRead_handled {e : Entry} (s : State) (hk : e.kind = kindRead) : Handled e s (handleRead e s) := by
  unfold handleRead
  split
  case isTrue hb =>
    split
    case h_1 a _ => exact .answered a
    case h_2 ho =>
      split
      case h_1 hrun => exact .readWaits hk hrun hb ho
      all_goals exact refuse_handled e _ s
  case isFalse => exact refuse_handled e _ s

theorem handleChange_handled {e : Entry} (s : State) (hk : isChange e.kind) : Handled e s (handleChange e s) := by
  unfold handleChange
  split
  case isTrue hw => exact .changeWaits hk (.inl hw)
  case isFalse hw =>
    rw [Bool.not_eq_true] at hw
    split
    case isTrue hd => exact .changeWaits hk (.inr hd)
    case isFalse hd =>
      cases hdec : decisionOf e s with
      | refused code => exact refuse_handled e code s
      | merge => exact .changed hk hw true hdec
      | append => exact .changed hk hw false hdec
      | wait => exact absurd hdec hd

theorem handleInspect_handled (e : Entry) (s : State) : Handled e s (handleInspect e s) := by
  unfold handleInspect
  split
  · exact .answered _
  · exact refuse_handled e _ s

theorem handleFlush_handled {e : Entry} (s : State) (hk : e.kind = kindFlush) : Handled e s (handleFlush e s) := by
  unfold handleFlush
  split
  case isTrue => exact refuse_handled e _ s
  case isFalse hf =>
    split
    case isTrue => exact .answered _
    case isFalse hn => exact .flushOpens hk (by simpa using hf) hn

theorem handleClaim_handled {e : Entry} (s : State) (hk : e.kind = kindClaim) : Handled e s (handleClaim e s) := by
  unfold handleClaim
  dsimp only
  split
  case isTrue => exact refuse_handled e _ s
  case isFalse hrun =>
    rw [not_not] at hrun
    split
    case h_1 c hc =>
      split
      · exact .claimed hk hrun (.inl ⟨c, hc⟩)
      · exact refuse_handled e _ s
    case h_2 =>
      split
      case isTrue => exact refuse_handled e _ s
      case isFalse hroom => exact .claimed hk hrun (.inr (Nat.not_le.1 hroom))

theorem handleRelease_handled {e : Entry} (s : State) (hk : e.kind = kindRelease) :
    Handled e s (handleRelease e s) := by
  unfold handleRelease
  split
  · split
    · exact .released hk
    · exact refuse_handled e _ s
  · exact refuse_handled e _ s

theorem handleWatch_handled {e : Entry} (s : State) (hk : e.kind = kindWatch) : Handled e s (handleWatch e s) := by
  unfold handleWatch
  dsimp only
  split
  case isTrue => exact .answered _
  case isFalse hnew =>
    split
    case isTrue => exact refuse_handled e _ s
    case isFalse hroom => exact .watched hk (by simpa using hnew) (Nat.not_le.1 hroom)

/-- The block that owns the kind of a request handles it. -/
theorem handlerOf_handled {e : Entry} {kind : Byte} (s : State) (hkind : e.kind = kind) :
    Handled e s (handlerOf kind e s) := by
  unfold handlerOf
  refine iteInduction (fun hk => handleRead_handled s (hkind.trans hk)) (fun _ => ?_)
  refine iteInduction (fun _ => handleInspect_handled e s) (fun _ => ?_)
  refine iteInduction (fun hk => handleFlush_handled s (hkind.trans hk)) (fun _ => ?_)
  refine iteInduction (fun hk => handleClaim_handled s (hkind.trans hk)) (fun _ => ?_)
  refine iteInduction (fun hk => handleRelease_handled s (hkind.trans hk)) (fun _ => ?_)
  refine iteInduction (fun hk => handleWatch_handled s (hkind.trans hk)) (fun _ => ?_)
  refine iteInduction (fun hk => .unwatched (hkind.trans hk)) (fun _ => ?_)
  refine iteInduction (fun hk => .opened (hkind.trans hk)) (fun _ => ?_)
  refine iteInduction (fun hk => .closed (hkind.trans hk)) (fun _ => ?_)
  refine iteInduction (fun hk => .statusTold (hkind.trans hk)) (fun _ => ?_)
  refine iteInduction (fun _ => .answered _) (fun _ => ?_)
  refine iteInduction (fun hk => handleChange_handled s (by rw [hkind]; exact hk)) (fun _ => ?_)
  exact refuse_handled e _ s

/-! ### Commands -/

/-- The head frame of p's receive buffer takes entry `id`, which is free and of p's own two or pooled (R72, R76, R77). -/
structure Takes (s : State) (p : PortId) (id : Nat) (f : RxFrame) (rest : List RxFrame) : Prop where
  head   : (portOf s p).rxBuffer = f :: rest
  free   : ∀ e ∈ s.table, e.id ≠ id
  number : id < Config.tableSize ∧ (id < Config.firstPooled → id / 2 = portNumber p)

/-- The command takes p's head frame: the row of its kind, or a grant that serves p; `last` is the port last granted
once it has (R76, R77). -/
def TakenBy (s : State) (p : PortId) (f : RxFrame) (c : Instr) (last : PortId) : Prop :=
  c = rowFor p (bodyKind f.body) ∧ last = s.lastGranted ∨
    c = .poolGrant ∧ (roundRobin s.lastGranted).find? (headWaits s) = some p ∧ last = p

/-- The state once the frame has taken the entry, `last` then being the port last granted. -/
abbrev taken (p : PortId) (id : Nat) (f : RxFrame) (rest : List RxFrame) (last : PortId) (s : State) : State :=
  takeFrame p id f rest { s with lastGranted := last }

/-- The commands that bring p a byte or a frame, or end a frame of its own. -/
def LinkCommand (p : PortId) (c : Instr) : Prop :=
  (∃ frame, c = .frameReceived p frame) ∨ (∃ f, c = .frameError p f) ∨ c = .interByteGapTimeout p ∨
    c = .frameSent p ∨ ∃ b moment order, c = .byteReceived p b moment order

/-- The commands that take a request: the rows of the request kinds and POOL_GRANT (R76, R77). -/
def takesRequest : Instr → Bool
  | .poolGrant | .badKindRequest _ | .read _ | .write _ | .writeIf _ | .erase _ | .inspect _ | .flush _ => true
  | .claim _ | .release _ | .watch _ | .unwatch _ | .openSession _ | .closeSession _ | .status _ | .resync _ => true
  | _ => false

/-- The commands that may report a frame failure (R141). -/
def mayFail : Instr → Bool
  | .frameError _ _ => true
  | .interByteGapTimeout _ => true
  | .byteReceived _ _ _ _ => true
  | _ => false

/-- What a command other than RESET and END_OF_RESET can do to a part that is not held in reset. -/
inductive Does (s : State) : Instr → State → Prop
  | nothing (c : Instr) : Does s c s
  | async {c : Instr} {p : PortId} {t : State} (hc : LinkCommand p c) (hm : (portOf s p).mode = .async)
      (hup : (portOf s p).session ≠ .linkDown) (h : LinkMoves p (mayFail c) s t) : Does s c t
  | clocked {c : Instr} {p : PortId} {u : State} (hc : LinkCommand p c) (hm : (portOf s p).mode = .clocked)
      (hsel : (portOf s p).selected = true) (h : LinkMoves p (mayFail c) s u) : Does s c (updPort p presentNext u)
  | selected (p : PortId) (b : Byte) (order : EdgeOrder) (hm : (portOf s p).mode = .clocked)
      (hsel : (portOf s p).selected = false) : Does s (.byteReceived p b .selection order) (updPort p select s)
  | deselected (p : PortId) (hm : (portOf s p).mode = .clocked) : Does s (.deselection p) (updPort p deselect s)
  | calibrated (p : PortId) (low : Nat) (hm : (portOf s p).mode = .async) (hdown : (portOf s p).session = .linkDown)
      (hlow : Config.calibrationMin ≤ low ∧ low ≤ Config.calibrationMax) :
      Does s (.calibration p low)
        (placeLinkup p (updPort p (fun x => { x with bitPeriod := some low, session := .linkUp }) s))
  | attended (p : PortId) (hup : (portOf s p).session ≠ .linkDown)
      (hsel : (portOf s p).mode = .clocked → (portOf s p).selected = false) : Does s (.attention p) (attend p s)
  | chosen {c : Instr} (hc : takesRequest c = true) : Does s c (settle s)
  | refused {c : Instr} {p last : PortId} {id : Nat} {f : RxFrame} {rest : List RxFrame}
      (hc : TakenBy s p f c last) (ht : Takes s p id f rest) (code : NakCode) :
      Does s c (settle (answer id (.nak (bodyKind f.body) code) (taken p id f rest last s)))
  | handled {c : Instr} {p last : PortId} {id : Nat} {f : RxFrame} {rest : List RxFrame} {u : State}
      (hc : TakenBy s p f c last) (ht : Takes s p id f rest)
      (hpass : dispatchCheck (taken p id f rest last s) p id f = none)
      (hu : Handled (newEntry id p f) (taken p id f rest last s) u) : Does s c (settle u)
  | fetched (got : Cells) {id slot : Nat} {e : Entry} (hop : s.op = some (.fetch id slot))
      (he : entryOf s id = some e) :
      Does s (.fetchCompletion got) (settle (fetchDone e (cellsRead s slot got) s))
  | programmed (got : Cells) {slot : Nat} {e : QueueEntry} (hop : s.op = some (.program slot))
      (he : inProgramming s = some e) : Does s (.programCompletion got) (settle (programDone e slot got s))
  | fetchLost (got : Cells) {id slot : Nat} (hop : s.op = some (.fetch id slot)) (he : entryOf s id = none) :
      Does s (.fetchCompletion got) (settle { s with op := none })
  | programLost (got : Cells) {slot : Nat} (hop : s.op = some (.program slot)) (he : inProgramming s = none) :
      Does s (.programCompletion got) (settle { s with op := none })
  | marked (got : Cells) {v : MarkerValue} (hop : s.op = some (.markerProgram v)) :
      Does s (.markerProgramCompletion got)
        (settle (markerDone (verifyOk (markerImage v) got)
          (writeSlot Config.markerSlot (cellsLeft (markerImage v) got) { s with op := none })))
  | scanned (got : Cells) {slot : Nat} {withdrawn : Bool} (hop : s.op = some (.scanFetch slot withdrawn)) :
      Does s (.scanFetchCompletion got) (settle (scanFetchDone slot withdrawn got s))
  | ticked {c : Instr} (hc : c = .claimClockTick ∨ ∃ r, c = .leaseExpiry r) : Does s c (tick s)
  | asserted : Does s .pfwAssertion (settle (assertPfw s))
  | deasserted : Does s .pfwDeassertion (settle (deassertPfw s))

theorem takesRequest_rowFor (p : PortId) (kind : Byte) : takesRequest (rowFor p kind) = true := by
  unfold rowFor
  repeat refine iteInduction (motive := fun c => takesRequest c = true) (fun _ => rfl) (fun _ => ?_)
  rfl

theorem TakenBy.takesRequest {s : State} {p last : PortId} {f : RxFrame} {c : Instr} (h : TakenBy s p f c last) :
    takesRequest c = true := by
  obtain ⟨rfl, -⟩ | ⟨rfl, -⟩ := h
  · exact takesRequest_rowFor p _
  · rfl

section
variable {s : State} {p : PortId}

theorem Takes.of_reserved {id : Nat} {f : RxFrame} {rest : List RxFrame} (hrx : (portOf s p).rxBuffer = f :: rest)
    (hid : freeReserved s p = some id) : Takes s p id f rest := by
  obtain ⟨hnumber, hfree⟩ := freeReserved_some hid
  refine ⟨hrx, hfree, ?_⟩
  simp only [Config.tableSize, Config.firstPooled]
  have hp : portNumber p < 4 := by cases p <;> decide
  omega

theorem Takes.of_pooled {id : Nat} {f : RxFrame} {rest : List RxFrame} (hrx : (portOf s p).rxBuffer = f :: rest)
    (hid : freePooled s = some id) : Takes s p id f rest := by
  obtain ⟨hlow, hhigh, hfree⟩ := freePooled_some hid
  refine ⟨hrx, hfree, ?_⟩
  simp only [Config.tableSize, Config.firstPooled]
  omega

/-- A taken frame is refused, or handled by its block. -/
theorem dispatch_does {c : Instr} {last : PortId} {handler : Entry → State → State} {id : Nat} {f : RxFrame}
    {rest : List RxFrame} (hc : TakenBy s p f c last) (ht : Takes s p id f rest)
    (hh : ∀ u, Handled (newEntry id p f) u (handler (newEntry id p f) u)) :
    Does s c (settle (dispatch handler p id f rest { s with lastGranted := last })) := by
  obtain ⟨code, -, e⟩ | ⟨hpass, e⟩ := dispatch_cases handler p id f rest { s with lastGranted := last } <;> rw [e]
  · exact .refused hc ht code
  · exact .handled hc ht hpass (hh _)

theorem serve_does {c : Instr} {rowKind : Byte → Bool} {handler : Entry → State → State}
    (htakes : takesRequest c = true) (hc : ∀ kind, rowKind kind = true → c = rowFor p kind)
    (hh : ∀ e u, rowKind e.kind = true → Handled e u (handler e u)) : Does s c (serve rowKind handler p s) := by
  rw [serve]
  obtain e | ⟨f, rest, id, hrx, hk, hid, e⟩ := request_cases rowKind handler p s <;> rw [e]
  · exact .chosen htakes
  · exact dispatch_does (.inl ⟨hc _ hk, rfl⟩) (.of_reserved hrx hid) (fun u => hh _ u hk)

/-- The rows of the requests whose kind is one of the fourteen. -/
theorem serve_kind_does {c : Instr} {kind : Byte} {handler : Entry → State → State} (hc : c = rowFor p kind)
    (hh : ∀ e u, e.kind = kind → Handled e u (handler e u)) : Does s c (serve (· == kind) handler p s) :=
  serve_does (hc ▸ takesRequest_rowFor p kind) (fun k hk => by rw [eq_of_beq hk, hc]) (fun e u hk => hh e u (eq_of_beq hk))

theorem rowFor_unknown {kind : Byte} (hk : requestKinds.contains kind = false) :
    rowFor p kind = .badKindRequest p := by
  simp only [requestKinds, List.contains_eq_mem, List.mem_cons, List.not_mem_nil, or_false, decide_eq_false_iff_not,
    not_or] at hk
  simp only [rowFor, hk, if_false]

theorem grant_does : Does s .poolGrant (settle (grant s)) := by
  unfold grant
  split
  case h_1 id q hid hq =>
    split
    case h_1 => exact .chosen rfl
    case h_2 f rest hrx =>
      exact dispatch_does (.inr ⟨rfl, hq, rfl⟩) (.of_pooled hrx hid) (fun u => handlerOf_handled u rfl)
  case h_2 => exact .chosen rfl

theorem frameReceived_does {frame : WholeFrame} {t : State} (hs : s.resetHold = none)
    (h : exec (.frameReceived p frame) s = .next t) : Does s (.frameReceived p frame) t := by
  have hc : LinkCommand p (.frameReceived p frame) := .inl ⟨_, rfl⟩
  rw [exec, execFrameReceived, whileRunning_out _ _ hs] at h
  cases h
  split
  case isFalse => exact .nothing _
  case isTrue hfits =>
    simp only [Bool.and_eq_true] at hfits
    obtain ⟨⟨⟨hcan, -⟩, -⟩, -⟩ := hfits
    cases hm : (portOf s p).mode with
    | async =>
      simp only [canReceive, hm, linkIsUp, bne_iff_ne] at hcan
      exact .async hc hm hcan (goodFrame_moves _ s)
    | clocked =>
      simp only [canReceive, hm] at hcan
      have hout := exchangeOut_moves (fails := mayFail (.frameReceived p frame))
        (bytesToCome frame.body.length (portOf s p).receiver - 1) hm
      obtain ⟨u, hu, e⟩ := exchange_moves (p := p) frame.order (goodFrame_moves frame.body) (hout.mode_eq.trans hm)
      dsimp only
      rw [e]
      exact .clocked hc hm hcan (hout.trans hu)

theorem frameError_does {failure : FrameFailure} {t : State} (hs : s.resetHold = none)
    (h : exec (.frameError p failure) s = .next t) : Does s (.frameError p failure) t := by
  have hc : LinkCommand p (.frameError p failure) := .inr (.inl ⟨_, rfl⟩)
  have hfail : ∀ u, LinkMoves p (mayFail (.frameError p failure)) u (updPort p (failFrame (afterFailure failure)) u) :=
    fun u => (LinkMove.failure rfl _).moves
  rw [exec, execFrameError, whileRunning_out _ _ hs] at h
  cases h
  split
  case isFalse => exact .nothing _
  case isTrue hfits =>
    simp only [Bool.and_eq_true] at hfits
    obtain ⟨hcan, -⟩ := hfits
    cases hm : (portOf s p).mode with
    | async =>
      simp only [canReceive, hm, linkIsUp, bne_iff_ne] at hcan
      exact .async hc hm hcan (hfail s)
    | clocked =>
      simp only [canReceive, hm] at hcan
      have hout := exchangeOut_moves (fails := mayFail (.frameError p failure))
        (bytesToFailure failure (portOf s p).receiver - 1) hm
      obtain ⟨u, hu, e⟩ := exchange_moves (p := p) .incomingFirst hfail (hout.mode_eq.trans hm)
      dsimp only
      rw [e]
      exact .clocked hc hm hcan (hout.trans hu)

theorem interByteGapTimeout_does {t : State} (hs : s.resetHold = none)
    (h : exec (.interByteGapTimeout p) s = .next t) : Does s (.interByteGapTimeout p) t := by
  rw [exec, execInterByteGapTimeout, whileRunning_out _ _ hs] at h
  cases h
  split
  case isFalse => exact .nothing _
  case isTrue hgap =>
    simp only [Bool.and_eq_true, linkIsUp, bne_iff_ne, beq_iff_eq] at hgap
    obtain ⟨⟨hup, hm⟩, -⟩ := hgap
    exact .async (.inr (.inr (.inl rfl))) hm hup (LinkMove.failure rfl _).moves

theorem frameSent_does {t : State} (hs : s.resetHold = none) (h : exec (.frameSent p) s = .next t) :
    Does s (.frameSent p) t := by
  have hc : LinkCommand p (.frameSent p) := .inr (.inr (.inr (.inl rfl)))
  rw [exec, execFrameSent, whileRunning_out _ _ hs] at h
  cases h
  split
  case isFalse => exact .nothing _
  case isTrue hcan =>
    simp only [Bool.and_eq_true, Bool.not_eq_true', List.isEmpty_eq_false_iff_exists_mem] at hcan
    obtain ⟨hcan, htx⟩ := hcan
    obtain ⟨f, rest, htx⟩ := List.exists_cons_of_ne_nil (List.ne_nil_of_mem htx.choose_spec)
    have hleaves : LinkMoves p (mayFail (.frameSent p)) s (frameLeaves p s) := (LinkMove.frameSent f rest htx).moves
    cases hm : (portOf s p).mode with
    | async =>
      simp only [canReceive, hm, linkIsUp, bne_iff_ne] at hcan
      exact .async hc hm hcan hleaves
    | clocked =>
      simp only [canReceive, hm] at hcan
      dsimp only
      split
      · exact .clocked hc hm hcan hleaves
      · exact .nothing _

theorem byteReceived_does {b : Byte} {moment : ByteMoment} {order : EdgeOrder} {t : State} (hs : s.resetHold = none)
    (h : exec (.byteReceived p b moment order) s = .next t) : Does s (.byteReceived p b moment order) t := by
  have hc : LinkCommand p (.byteReceived p b moment order) := .inr (.inr (.inr (.inr ⟨_, _, _, rfl⟩)))
  rw [exec, execByteReceived, whileRunning_out _ _ hs] at h
  cases h
  split
  case h_1 good hm =>
    split
    case isTrue hcan =>
      simp only [canReceive, hm, linkIsUp, bne_iff_ne] at hcan
      exact .async hc hm hcan (takeByte_moves b good s)
    case isFalse => exact .nothing _
  case h_2 hm =>
    split
    case isTrue hcan =>
      simp only [canReceive, hm] at hcan
      obtain ⟨u, hu, e⟩ := exchange_moves order (takeByte_moves b true) hm
      rw [e]
      exact .clocked hc hm hcan hu
    case isFalse => exact .nothing _
  case h_3 hm =>
    split
    case isTrue => exact .nothing _
    case isFalse hsel => exact .selected p b order hm (by simpa using hsel)
  case h_4 => exact .nothing _

end

/-- What a command other than RESET and END_OF_RESET does to a part that is not held in reset. -/
theorem exec_does {c : Instr} {s t : State} (hs : s.resetHold = none) (hr : isReset c = false)
    (h : exec c s = .next t) : Does s c t := by
  have hrun : ∀ {f : State → State}, whileRunning f s = .next t → t = f s := by
    intro f hf; rw [whileRunning_out _ _ hs] at hf; exact (Host.Outcome.next.inj hf).symm
  cases c with
  | reset cause torn => cases hr
  | endOfReset straps pfw => cases hr
  | frameReceived p frame => exact frameReceived_does hs h
  | frameError p failure => exact frameError_does hs h
  | interByteGapTimeout p => exact interByteGapTimeout_does hs h
  | frameSent p => exact frameSent_does hs h
  | byteReceived p b moment order => exact byteReceived_does hs h
  | deselection p =>
    rw [hrun h]
    split
    case isTrue hm => exact .deselected p (eq_of_beq hm)
    case isFalse => exact .nothing _
  | calibration p low =>
    rw [hrun h]
    split
    case isTrue hcal =>
      simp only [Bool.and_eq_true, beq_iff_eq, decide_eq_true_eq] at hcal
      obtain ⟨⟨⟨hm, hdown⟩, hmin⟩, hmax⟩ := hcal
      exact .calibrated p low hm hdown ⟨hmin, hmax⟩
    case isFalse => exact .nothing _
  | attention p =>
    rw [hrun h]
    split
    case isTrue hatt =>
      simp only [linkIsUp, Bool.and_eq_true, bne_iff_ne, Bool.not_eq_true', Bool.and_eq_false_iff] at hatt
      exact .attended p hatt.1 (fun hm => hatt.2.resolve_left (by simp [hm]))
    case isFalse => exact .nothing _
  | poolGrant => rw [exec, execPoolGrant] at h; rw [hrun h]; exact grant_does
  | badKindRequest p =>
    rw [hrun h]
    exact serve_does rfl (fun kind hk => (rowFor_unknown (by simpa using hk)).symm)
      (fun e u _ => refuse_handled e _ u)
  | read p => rw [hrun h]; exact serve_kind_does rfl (fun _ u hk => handleRead_handled u hk)
  | write p => rw [hrun h]; exact serve_kind_does rfl (fun _ u hk => handleChange_handled u (.inl hk))
  | writeIf p => rw [hrun h]; exact serve_kind_does rfl (fun _ u hk => handleChange_handled u (.inr (.inl hk)))
  | erase p => rw [hrun h]; exact serve_kind_does rfl (fun _ u hk => handleChange_handled u (.inr (.inr hk)))
  | inspect p => rw [hrun h]; exact serve_kind_does rfl (fun e u _ => handleInspect_handled e u)
  | flush p => rw [hrun h]; exact serve_kind_does rfl (fun _ u hk => handleFlush_handled u hk)
  | claim p => rw [hrun h]; exact serve_kind_does rfl (fun _ u hk => handleClaim_handled u hk)
  | release p => rw [hrun h]; exact serve_kind_does rfl (fun _ u hk => handleRelease_handled u hk)
  | watch p => rw [hrun h]; exact serve_kind_does rfl (fun _ u hk => handleWatch_handled u hk)
  | unwatch p => rw [hrun h]; exact serve_kind_does rfl (fun _ _ hk => .unwatched hk)
  | openSession p => rw [hrun h]; exact serve_kind_does rfl (fun _ _ hk => .opened hk)
  | closeSession p => rw [hrun h]; exact serve_kind_does rfl (fun _ _ hk => .closed hk)
  | status p => rw [hrun h]; exact serve_kind_does rfl (fun _ _ hk => .statusTold hk)
  | resync p => rw [hrun h]; exact serve_kind_does rfl (fun _ _ _ => .answered _)
  | fetchCompletion got =>
    rw [exec, execFetchCompletion] at h
    rw [hrun h]
    split
    case h_1 id slot hop =>
      split
      case h_1 e he => exact .fetched got hop he
      case h_2 he => exact .fetchLost got hop he
    case h_2 => exact .nothing _
  | programCompletion got =>
    rw [exec, execProgramCompletion] at h
    rw [hrun h]
    split
    case h_1 slot hop =>
      split
      case h_1 e he => exact .programmed got hop he
      case h_2 he => exact .programLost got hop he
    case h_2 => exact .nothing _
  | markerProgramCompletion got =>
    obtain ⟨rfl, -⟩ | ⟨v, hop, rfl⟩ := markerProgramCompletion_cases h
    · exact .nothing _
    · exact .marked got hop
  | scanFetchCompletion got =>
    rw [exec, execScanFetchCompletion] at h
    rw [hrun h]
    split
    case h_1 slot withdrawn hop => exact .scanned got hop
    case h_2 => exact .nothing _
  | claimClockTick => rw [hrun h]; exact .ticked (.inl rfl)
  | leaseExpiry r =>
    rw [hrun h]
    split
    · exact .ticked (.inr ⟨r, rfl⟩)
    · exact .nothing _
  | pfwAssertion =>
    rw [exec, execPfwAssertion] at h
    rw [hrun h]
    exact .asserted
  | pfwDeassertion =>
    rw [exec, execPfwDeassertion] at h
    rw [hrun h]
    exact .deasserted

/-! ### Resets and steps -/

/-- A part held in reset takes no command but the two of a reset (R150). -/
theorem exec_held {c : Instr} {s : State} (hs : s.resetHold ≠ none) (hr : isReset c = false) :
    exec c s = .next s := by
  cases c with
  | reset cause torn => cases hr
  | endOfReset straps pfw => cases hr
  | poolGrant => rw [exec, execPoolGrant, whileRunning_held _ s hs]
  | fetchCompletion got => rw [exec, execFetchCompletion, whileRunning_held _ s hs]
  | programCompletion got => rw [exec, execProgramCompletion, whileRunning_held _ s hs]
  | markerProgramCompletion got => rw [exec, execMarkerProgramCompletion, whileRunning_held _ s hs]
  | scanFetchCompletion got => rw [exec, execScanFetchCompletion, whileRunning_held _ s hs]
  | pfwAssertion => rw [exec, execPfwAssertion, whileRunning_held _ s hs]
  | pfwDeassertion => rw [exec, execPfwDeassertion, whileRunning_held _ s hs]
  | byteReceived p b moment order => rw [exec, execByteReceived, whileRunning_held _ s hs]
  | _ => exact whileRunning_held _ s hs

/-- What any command does. -/
theorem exec_cases {c : Instr} {s t : State} (h : exec c s = .next t) :
    s.resetHold = none ∧ isReset c = false ∧ Does s c t ∨ t = s ∨
      (∃ cause torn, c = .reset cause torn ∧ t = beginReset cause torn s) ∨
      ∃ straps pfw r, c = .endOfReset straps pfw ∧ s.resetHold = some r ∧ t = endReset straps pfw r s := by
  cases hr : isReset c with
  | false =>
    by_cases hs : s.resetHold = none
    · exact .inl ⟨hs, rfl, exec_does hs hr h⟩
    · rw [exec_held hs hr] at h
      exact .inr (.inl (Host.Outcome.next.inj h).symm)
  | true =>
    right
    cases c with
    | reset cause torn => cases h; exact .inr (.inl ⟨cause, torn, rfl, rfl⟩)
    | endOfReset straps pfw =>
      rw [exec, execEndOfReset] at h
      cases hs : s.resetHold with
      | none => rw [hs] at h; cases h; exact .inl rfl
      | some r => rw [hs] at h; cases h; exact .inr (.inr ⟨straps, pfw, r, rfl, rfl, rfl⟩)
    | _ => cases hr

/-- A law of the whole part holds after every step if it heeds no command that waits, the four ways of a command keep
it, and the part that idles does. -/
theorem step_keeps {P : State → Prop} (hpending : ∀ s l, P s → P { s with pending := l })
    (hdoes : ∀ c s t, P s → s.resetHold = none → Does s c t → P t)
    (hreset : ∀ cause torn s, P s → P (beginReset cause torn s))
    (hend : ∀ straps pfw r s, P s → s.resetHold = some r → P (endReset straps pfw r s))
    {s t : State} (hs : P s) (h : step s = .next t) : P t := by
  unfold step at h
  split at h
  · cases h; exact hs
  · rename_i c rest _
    have hs' := hpending s rest hs
    obtain ⟨hr, -, hd⟩ | rfl | ⟨cause, torn, -, rfl⟩ | ⟨straps, pfw, r, -, hr, rfl⟩ := exec_cases h
    · exact hdoes c _ t hs' hr hd
    · exact hs'
    · exact hreset cause torn _ hs'
    · exact hend straps pfw r _ hs' hr

end Sys2Proof.Machine

/-! SUPPORT. The controller's choice (R47, R55) as moves, one after another: the one inversion of `settle`. -/

namespace Sys2Proof.Machine

/-- The controller is idle with no marker program requested and no entry in PROGRAMMING: the choice is the mode's (R55). -/
structure ChoiceOfMode (s : State) : Prop where
  idle        : s.op = none
  request     : s.markerRequest = none
  programming : inProgramming s = none

/-- One move of an idle controller, or of the power manager on an idle array (R51, R55 to R60, R163). -/
inductive ChoiceMove (s : State) : State → Prop
  | readLost {id : Nat} {rest : List Nat} (hs : ChoiceOfMode s) (hw : s.fetchWait = id :: rest)
      (he : entryOf s id = none) : ChoiceMove s (setFetchWait rest s)
  | readAnswered {id : Nat} {rest : List Nat} {e : Entry} (hs : ChoiceOfMode s) (hw : s.fetchWait = id :: rest)
      (he : entryOf s id = some e) (a : Answer) : ChoiceMove s (answer id a (setFetchWait rest s))
  | fetchStarts {id : Nat} {rest : List Nat} {e : Entry} (hs : ChoiceOfMode s) (hw : s.fetchWait = id :: rest)
      (he : entryOf s id = some e) (hmode : s.mode = .fetchFirst ∨ s.mode = .drainFirst) :
      ChoiceMove s (startFetch e (setFetchWait rest s))
  | programStarts {e : QueueEntry} (hs : ChoiceOfMode s) (he : oldestPending s = some e) (hmode : s.mode ≠ .scan) :
      ChoiceMove s (startProgram s)
  | scanStarts (hs : ChoiceOfMode s) (hmode : s.mode = .scan) (ho : s.scanOrder = true)
      (hn : s.scanNext < Config.slots) :
      ChoiceMove s { s with op := some (.scanFetch (scanSlot s.scanNext) false), scanNext := s.scanNext + 1 }
  | markerStarts {v : MarkerValue} (hop : s.op = none) (hr : s.markerRequest = some v) :
      ChoiceMove s { s with markerRequest := none, op := some (.markerProgram v) }
  | programAgain {e : QueueEntry} (hop : s.op = none) (hr : s.markerRequest = none) (he : inProgramming s = some e) :
      ChoiceMove s { s with op := some (.program (slotOf e.record (e.target.getD (rowOf s e.record).location))) }
  | cleanBegins (hpart : s.partState = .holdup) (hq : s.queue = []) (hop : s.op = none) (hseq : s.markerSeq = none) :
      ChoiceMove s (beginSequence .clean s)

/-- Moves of the choice, one after another. -/
abbrev ChoiceMoves : State → State → Prop := Relation.ReflTransGen ChoiceMove

theorem ChoiceMove.moves {s t : State} (h : ChoiceMove s t) : ChoiceMoves s t := .single h

/-- The READs that leave the waiting list leave the choice with the mode. -/
theorem ChoiceOfMode.after_setFetchWait {s : State} (h : ChoiceOfMode s) (l : List Nat) :
    ChoiceOfMode (setFetchWait l s) := ⟨h.idle, h.request, h.programming⟩

theorem ChoiceOfMode.after_answer {s : State} (h : ChoiceOfMode s) (id : Nat) (a : Answer) :
    ChoiceOfMode (answer id a s) :=
  ⟨by simp [h.idle], by simp [h.request], by simpa [inProgramming] using h.programming⟩

/-- The walk over the READs is moves; if it starts no fetch, the choice is still the mode's. -/
theorem takeReads_moves {s : State} (l : List Nat) (hs : ChoiceOfMode s) (hw : s.fetchWait = l)
    (hmode : s.mode = .fetchFirst ∨ s.mode = .drainFirst) :
    ChoiceMoves s (takeReads l s) ∧ ((takeReads l s).op.isSome = true ∨ ChoiceOfMode (takeReads l s)) := by
  induction l generalizing s with
  | nil => exact ⟨.refl, .inr hs⟩
  | cons id l ih =>
    rw [takeReads]
    split
    case h_1 he =>
      obtain ⟨hmoves, hend⟩ := ih (hs.after_setFetchWait l) rfl hmode
      exact ⟨.head (.readLost hs hw he) hmoves, hend⟩
    case h_2 e he =>
      split
      case h_1 a _ =>
        obtain ⟨hmoves, hend⟩ := ih ((hs.after_setFetchWait l).after_answer id a) (by simp) (by simpa using hmode)
        exact ⟨.head (.readAnswered hs hw he a) hmoves, hend⟩
      case h_2 => exact ⟨(ChoiceMove.fetchStarts hs hw he hmode).moves, .inl rfl⟩

theorem chooseRead_moves {s : State} (hs : ChoiceOfMode s) (hmode : s.mode = .fetchFirst ∨ s.mode = .drainFirst) :
    ChoiceMoves s (chooseRead s) ∧ ((chooseRead s).op.isSome = true ∨ ChoiceOfMode (chooseRead s)) :=
  takeReads_moves _ hs rfl hmode

theorem startProgram_moves {s : State} (hs : ChoiceOfMode s) (hmode : s.mode ≠ .scan) :
    ChoiceMoves s (startProgram s) ∧ ((startProgram s).op.isSome = true ∨ startProgram s = s) := by
  cases he : oldestPending s with
  | none =>
    have hnone : startProgram s = s := by simp [startProgram, he]
    exact ⟨by rw [hnone], .inr hnone⟩
  | some e => exact ⟨(ChoiceMove.programStarts hs he hmode).moves, .inl (by simp [startProgram, he])⟩

@[simp] theorem chooseRead_mode (s : State) : (chooseRead s).mode = s.mode := mode_of_lessChoice (chooseRead_frame s)

theorem chooseByMode_moves {s : State} (hs : ChoiceOfMode s) : ChoiceMoves s (chooseByMode s) := by
  have hreadFirst : s.mode = .fetchFirst ∨ s.mode = .drainFirst → ChoiceMoves s (orElse chooseRead startProgram s) := by
    intro hmode
    obtain ⟨hread, hop | hnext⟩ := chooseRead_moves hs hmode
    · rwa [orElse, if_pos hop]
    · unfold orElse
      split
      · exact hread
      · exact hread.trans (startProgram_moves hnext (by obtain h | h := hmode <;> simp [h])).1
  unfold chooseByMode
  split
  case h_1 hmode => exact hreadFirst (.inl hmode)
  case h_2 hmode =>
    split
    · exact hreadFirst (.inr hmode)
    · obtain ⟨hprogram, hop | heq⟩ := startProgram_moves hs (by simp [hmode])
      · rwa [orElse, if_pos hop]
      · unfold orElse
        split
        · exact hprogram
        · rw [heq]; exact (chooseRead_moves hs (.inr hmode)).1
  case h_3 hmode => exact (startProgram_moves hs (by simp [hmode])).1
  case h_4 hmode =>
    unfold startScan
    split
    case isTrue ho =>
      split
      case isTrue hn => exact (ChoiceMove.scanStarts hs hmode ho hn).moves
      case isFalse => exact .refl
    case isFalse => exact .refl

theorem chooseIfIdle_moves (s : State) : ChoiceMoves s (chooseIfIdle s) := by
  unfold chooseIfIdle choose
  split
  case isTrue hop =>
    split
    case h_1 v hr => exact (ChoiceMove.markerStarts hop hr).moves
    case h_2 hr =>
      split
      case h_1 e he => exact (ChoiceMove.programAgain hop hr he).moves
      case h_2 he => exact chooseByMode_moves ⟨hop, hr, he⟩
  case isFalse => exact .refl

/-- What follows each event at the controller is moves of its choice. -/
theorem settle_moves (s : State) : ChoiceMoves s (settle s) := by
  refine (chooseIfIdle_moves s).trans ?_
  unfold settle cleanIfDrained
  split
  case isTrue h =>
    obtain ⟨hpart, hq, hop, hseq⟩ := h
    exact .head (.cleanBegins hpart hq hop hseq) (chooseIfIdle_moves _)
  case isFalse => exact .refl

/-- A law that every move of the choice keeps stands after `settle`. -/
theorem settle_keeps {P : State → Prop} (hmove : ∀ s t, P s → ChoiceMove s t → P t) {s : State} (hs : P s) :
    P (settle s) := by
  obtain ⟨t, ht⟩ : ∃ t, t = settle s := ⟨_, rfl⟩
  have h : ChoiceMoves s t := ht ▸ settle_moves s
  rw [← ht]
  clear ht
  induction h with
  | refl => exact hs
  | tail _ hm ih => exact hmove _ _ ih hm

/-- A law that every move of a link keeps stands after any number of them. -/
theorem LinkMoves.keeps {p : PortId} {fails : Bool} {P : State → Prop}
    (hmove : ∀ s t, P s → LinkMove p fails s t → P t) {s t : State} (h : LinkMoves p fails s t) (hs : P s) : P t := by
  induction h with
  | refl => exact hs
  | tail _ hm ih => exact hmove _ _ ih hm

end Sys2Proof.Machine

/-! SUPPORT. What requests, links, completions and the power manager leave as it was. -/

namespace Sys2Proof.Machine

/-! ### Requests -/

/-- The state with all blotted out that a request may touch. -/
def State.lessRequest (s : State) : State :=
  { s with
    ports := State.reset.ports, table := [], queue := [], mode := .scan, spaceWait := [], fetchWait := []
    starvation := 0, claims := [], watches := [] }

theorem lessRequest_of_lessTraffic {s t : State} (h : t.lessTraffic = s.lessTraffic) :
    t.lessRequest = s.lessRequest := (congrArg State.lessRequest h :)

theorem lessRequest_of_lessQueueing {s t : State} (h : t.lessQueueing = s.lessQueueing) :
    t.lessRequest = s.lessRequest := (congrArg State.lessRequest h :)

@[simp] theorem lessRequest_answer (id : Nat) (a : Answer) (s : State) :
    (answer id a s).lessRequest = s.lessRequest := lessRequest_of_lessTraffic (answer_frame id a s)

theorem lessRequest_handleOpen (e : Entry) (s : State) : (handleOpen e s).lessRequest = s.lessRequest := by
  unfold handleOpen
  dsimp only
  rw [lessRequest_answer]
  split <;> rfl

/-- A request leaves the directory, the array, the spares, the controller's operation and the power manager. -/
theorem Handled.frame {e : Entry} {s u : State} (h : Handled e s u) : u.lessRequest = s.lessRequest := by
  cases h with
  | answered a => exact lessRequest_answer _ _ _
  | readWaits => rfl
  | changeWaits => rfl
  | changed _ _ b _ => exact lessRequest_of_lessQueueing (acceptChange_frame e b s)
  | flushOpens => rfl
  | claimed => exact lessRequest_answer _ _ _
  | released => exact lessRequest_answer _ _ _
  | watched => exact lessRequest_answer _ _ _
  | unwatched => exact lessRequest_answer _ _ _
  | opened => exact lessRequest_handleOpen e s
  | closed => exact lessRequest_answer e.id (.closed (portOf s e.port).epoch) s
  | statusTold => exact lessRequest_answer e.id (.statusInfo (statusInfoOf s e.port)) s

/-! ### Links -/

/-- A move of a link leaves all but the ports and the request table. -/
theorem LinkMove.frame {p : PortId} {fails : Bool} {s t : State} (h : LinkMove p fails s t) :
    t.lessTraffic = s.lessTraffic := by
  cases h <;> first | rfl | exact frameLeaves_frame p s

theorem LinkMoves.frame {p : PortId} {fails : Bool} {s t : State} (h : LinkMoves p fails s t) :
    t.lessTraffic = s.lessTraffic :=
  h.keeps (P := fun u => u.lessTraffic = s.lessTraffic) (fun _ _ hs hm => hm.frame.trans hs) rfl

/-- Attention leaves all but what a request may touch. -/
theorem attend_frame (p : PortId) (s : State) : (attend p s).lessRequest = s.lessRequest := by
  unfold attend
  dsimp only
  (repeat' split) <;> rfl

/-! ### Completions and the power manager -/

@[simp] theorem retire_spare (n : Nat) (s : State) : retire (.spare n) s = setSpare n .retired s := rfl

theorem afterRemoval_frame (removed : List QueueEntry) (fault : Bool) (s : State) :
    (retryPass (dropAllMarks removed fault s)).lessQueueing = s.lessQueueing := by
  rw [retryPass_frame, lessQueueing_of_lessTraffic (dropAllMarks_frame _ _ _)]

/-- A commit retires the spare left and sets the row; beyond that it decides changes (R31, R64). -/
theorem commit_frame (e : QueueEntry) (s : State) :
    (commit e s).lessQueueing =
      (setRow e.record (rowAfter e (e.target.getD (rowOf s e.record).location))
        (if e.target.getD (rowOf s e.record).location = (rowOf s e.record).location then s
          else retire (rowOf s e.record).location s)).lessQueueing := by
  unfold commit
  dsimp only
  rw [afterRemoval_frame, modeAfterRemoval_frame]
  rfl

/-- A fault sets the row; beyond that it decides changes (R9, R32). -/
theorem faultRecord_frame (e : QueueEntry) (s : State) :
    (faultRecord e s).lessQueueing =
      (setRow e.record ⟨.faulted, visibleVersion s e.record, 0, (rowOf s e.record).location⟩ s).lessQueueing := by
  unfold faultRecord
  dsimp only
  rw [afterRemoval_frame, lessQueueing_of_lessTraffic (lessTraffic_of_lessPorts (reportFault_frame _ _ _ _)),
    modeAfterRemoval_frame]
  rfl

/-- The state before a failed attempt of e is given up or remapped: a newly reserved target retired (R66, R67). -/
def dropTarget (e : QueueEntry) (s : State) : State :=
  match e.target with
  | some t => retireReserved e.record t s
  | none => s

theorem giveUp_eq (e : QueueEntry) (s : State) : giveUp e s = faultRecord e (dropTarget e s) := rfl

theorem remap_eq (e : QueueEntry) (n : Nat) (s : State) :
    remap e n s = updProgramming (fun x => { x with attempts := 1, target := some (.spare n) })
      (setSpare n (.inUse e.record) (dropTarget e s)) := rfl

/-- A reconciliation of a slot: the verdict, a row, or a spare and its row (R155 to R158). -/
def State.lessScan (s : State) : State :=
  { s with
    directory := [], spares := [], built := false, verdict := .unknown, scanOrder := false, markerSeq := none
    markerRequest := none }

theorem reconcileSpare_frame (n : Nat) (image : List Byte) (s : State) :
    (reconcileSpare n image s).lessScan = s.lessScan := by
  unfold reconcileSpare
  (repeat' split) <;> rfl

theorem reconcile_frame (slot : Nat) (image : List Byte) (s : State) :
    (reconcile slot image s).lessScan = s.lessScan := by
  unfold reconcile
  split
  · rfl
  · split
    · unfold reconcilePrimary; split <;> rfl
    · split
      · exact reconcileSpare_frame _ _ s
      · exact reconcileSpare_frame _ _ s

theorem scanFetchDone_frame (slot : Nat) (withdrawn : Bool) (got : Cells) (s : State) :
    (scanFetchDone slot withdrawn got s).lessScan = { s with op := none }.lessScan := by
  unfold scanFetchDone
  dsimp only
  split
  · rfl
  · exact reconcile_frame _ _ _

end Sys2Proof.Machine

/-! SUPPORT. The canonical form of the stores (log 24): O53 is settled here. -/

namespace Sys2Proof.Machine

theorem StoresCanonical.of_eq {s t : State} (hs : StoresCanonical s) (hcells : t.cells = s.cells)
    (hdir : t.directory = s.directory) (hspares : t.spares = s.spares) (hclaims : t.claims = s.claims) :
    StoresCanonical t := by
  obtain ⟨h1, h2, h3, h4⟩ := hs
  exact ⟨by rwa [hcells], by rwa [hdir], by rwa [hspares], by rwa [hclaims]⟩

theorem StoresCanonical.of_lessQueueing {s t : State} (hs : StoresCanonical s)
    (h : t.lessQueueing = s.lessQueueing) : StoresCanonical t :=
  hs.of_eq (cells_of_lessQueueing h) (directory_of_lessQueueing h) (spares_of_lessQueueing h)
    (claims_of_lessQueueing h)

theorem StoresCanonical.of_lessTraffic {s t : State} (hs : StoresCanonical s)
    (h : t.lessTraffic = s.lessTraffic) : StoresCanonical t := hs.of_lessQueueing (lessQueueing_of_lessTraffic h)

/-- A request changes of the stores the claim table alone. -/
theorem StoresCanonical.of_lessRequest {s t : State} (hs : StoresCanonical s)
    (h : t.lessRequest = s.lessRequest) (hclaims : KeysRise t.claims) : StoresCanonical t :=
  (⟨hs.cells, hs.directory, hs.spares, hclaims⟩ : StoresCanonical { s with claims := t.claims }).of_eq
    (congrArg State.cells h :) (congrArg State.directory h :) (congrArg State.spares h :) rfl

theorem StoresCanonical.settle {s : State} (hs : StoresCanonical s) : StoresCanonical (settle s) :=
  hs.of_eq (by simp) (by simp) (by simp) (by simp)

theorem StoresCanonical.writeSlot {s : State} (hs : StoresCanonical s) (slot : Nat) (bytes : List Byte) :
    StoresCanonical (writeSlot slot bytes s) :=
  ⟨cellsCanonical_writeSlot slot bytes s hs.cells, hs.directory, hs.spares, hs.claims⟩

theorem StoresCanonical.setRow {s : State} (hs : StoresCanonical s) (r : Nat) (row : Row) :
    StoresCanonical (setRow r row s) := ⟨hs.cells, canonical_keyedSet _ _ _ _ hs.directory, hs.spares, hs.claims⟩

theorem StoresCanonical.setSpare {s : State} (hs : StoresCanonical s) (n : Nat) (x : SpareState) :
    StoresCanonical (setSpare n x s) := ⟨hs.cells, hs.directory, canonical_keyedSet _ _ _ _ hs.spares, hs.claims⟩

theorem StoresCanonical.retire {s : State} (hs : StoresCanonical s) (l : Location) : StoresCanonical (retire l s) := by
  cases l with
  | primary => exact hs
  | spare n => exact hs.setSpare n .retired

theorem StoresCanonical.dropTarget {s : State} (hs : StoresCanonical s) (e : QueueEntry) :
    StoresCanonical (dropTarget e s) := by
  unfold Machine.dropTarget retireReserved
  split
  · split
    · exact hs
    · exact hs.retire _
  · exact hs

/-- The claim table keeps its rising order through every request (R92). -/
theorem Handled.keysRise {e : Entry} {s u : State} (h : Handled e s u) (hs : KeysRise s.claims) :
    KeysRise u.claims := by
  cases h with
  | answered a => simpa using hs
  | readWaits => exact hs
  | changeWaits => exact hs
  | changed _ _ b _ => rwa [claims_of_lessQueueing (acceptChange_frame e b s)]
  | flushOpens => exact hs
  | claimed => rw [answer_claims]; exact keysRise_keyedInsert _ _ _ hs
  | released => rw [answer_claims]; exact keysRise_filter _ _ hs
  | watched => rwa [answer_claims]
  | unwatched => rwa [answer_claims]
  | opened =>
    unfold handleOpen
    dsimp only
    rw [answer_claims]
    split
    · exact keysRise_filter _ _ hs
    · exact hs
  | closed => exact keysRise_filter _ _ (by simpa using hs)
  | statusTold => exact (answer_claims e.id (.statusInfo (statusInfoOf s e.port)) s).symm ▸ hs

theorem StoresCanonical.attend {s : State} (hs : StoresCanonical s) (p : PortId) : StoresCanonical (attend p s) := by
  refine hs.of_lessRequest (attend_frame p s) ?_
  unfold Machine.attend
  dsimp only
  split <;> split <;> first | exact hs.claims | exact keysRise_filter _ _ hs.claims

theorem keysRise_ticked {claims : List (Nat × Claim)} (h : KeysRise claims) : KeysRise (ticked claims) :=
  List.pairwise_map.2 (keysRise_filter _ _ h)

theorem StoresCanonical.tick {s : State} (hs : StoresCanonical s) : StoresCanonical (tick s) :=
  { (⟨hs.cells, hs.directory, hs.spares, keysRise_ticked hs.claims⟩ :
      StoresCanonical { s with claims := ticked s.claims }).of_lessTraffic
      (lessTraffic_of_lessPorts (notifyExpired_frame (expiring s.claims) _)) with }

theorem StoresCanonical.fetchDone {s : State} (hs : StoresCanonical s) (e : Entry) (image : List Byte) :
    StoresCanonical (fetchDone e image s) := by
  have hidle : StoresCanonical { s with op := none } := { hs with }
  have hcheck : ∀ r good, StoresCanonical (applyCheck r good { s with op := none }) := by
    intro r good
    unfold applyCheck
    split
    · exact hidle
    · exact hidle.setRow _ _
  unfold Machine.fetchDone
  dsimp only
  split
  · exact { hcheck _ _ with }
  · exact (hcheck _ _).of_lessTraffic (answer_frame _ _ _)

theorem StoresCanonical.programDone {s : State} (hs : StoresCanonical s) (e : QueueEntry) (slot : Nat) (got : Cells) :
    StoresCanonical (programDone e slot got s) := by
  have hwritten : StoresCanonical (Machine.writeSlot slot (cellsLeft (entryImage e) got) { s with op := none }) :=
    StoresCanonical.writeSlot (s := { s with op := none }) { hs with } _ _
  unfold Machine.programDone
  dsimp only
  split
  · refine StoresCanonical.of_lessQueueing ?_ (commit_frame e _)
    split
    · exact hwritten.setRow _ _
    · exact (hwritten.retire _).setRow _ _
  · unfold programFailed
    split
    · exact { hwritten with }
    · split
      · rename_i n _
        have hspare := (hwritten.dropTarget e).setSpare n (.inUse e.record)
        rw [remap_eq]
        exact { hspare with }
      · rw [giveUp_eq]; exact ((hwritten.dropTarget e).setRow _ _).of_lessQueueing (faultRecord_frame e _)

theorem StoresCanonical.reconcileSpare {s : State} (hs : StoresCanonical s) (n : Nat) (image : List Byte) :
    StoresCanonical (reconcileSpare n image s) := by
  have hearlier : ∀ r, StoresCanonical (retireEarlier n r s) :=
    fun r => ⟨hs.cells, hs.directory, canonical_filter _ _ _ hs.spares, hs.claims⟩
  unfold Machine.reconcileSpare
  split
  · split
    · exact hs.setSpare _ _
    · exact ((hearlier _).setSpare _ _).setRow _ _
  · exact hs.setSpare _ _

theorem StoresCanonical.scanFetchDone {s : State} (hs : StoresCanonical s) (slot : Nat) (withdrawn : Bool)
    (got : Cells) : StoresCanonical (scanFetchDone slot withdrawn got s) := by
  have hidle : StoresCanonical { s with op := none } := { hs with }
  unfold Machine.scanFetchDone
  dsimp only
  split
  · exact hidle
  · unfold reconcile
    split
    · exact { hidle with }
    · split
      · unfold reconcilePrimary
        split
        · exact hidle.setRow _ _
        · exact hidle.setRow _ _
      · split
        · exact { hidle.reconcileSpare _ _ with }
        · exact hidle.reconcileSpare _ _

/-- The outcome of a marker program leaves the stores and the tables of requests and claims (R159 to R168). -/
theorem markerDone_stores (ok : Bool) (s : State) :
    (markerDone ok s).cells = s.cells ∧ (markerDone ok s).directory = s.directory ∧
      (markerDone ok s).spares = s.spares ∧ (markerDone ok s).claims = s.claims := by
  unfold markerDone dirtyDone cleanDone
  (repeat' split) <;> simp [enterHoldup, enterRun, enterParked, enterResuming, nextAttempt]

theorem StoresCanonical.markerDone {s : State} (hs : StoresCanonical s) (ok : Bool) :
    StoresCanonical (markerDone ok s) := by
  obtain ⟨hcells, hdir, hspares, hclaims⟩ := markerDone_stores ok s
  exact hs.of_eq hcells hdir hspares hclaims

/-- A recognised assertion leaves the stores (R160, R162). -/
theorem assertPfw_stores (s : State) :
    (assertPfw s).cells = s.cells ∧ (assertPfw s).directory = s.directory ∧
      (assertPfw s).spares = s.spares ∧ (assertPfw s).claims = s.claims := by
  unfold assertPfw
  dsimp only
  (repeat' split) <;> simp [holdupFromRun, refuseReads, refuseWaiters, enterHoldup, enterParked]

theorem StoresCanonical.cleared {s t : State} (hs : StoresCanonical s) (hcells : t.cells = s.cells)
    (hdir : t.directory = []) (hspares : t.spares = []) (hclaims : t.claims = [] ∨ t.claims = s.claims) :
    StoresCanonical t := by
  refine ⟨hcells ▸ hs.cells, hdir ▸ ⟨.nil, by simp⟩, hspares ▸ ⟨.nil, by simp⟩, ?_⟩
  obtain h | h := hclaims <;> rw [h]
  · exact List.Pairwise.nil
  · exact hs.claims

theorem StoresCanonical.deassertPfw {s : State} (hs : StoresCanonical s) : StoresCanonical (deassertPfw s) := by
  unfold Machine.deassertPfw
  dsimp only
  split
  case h_1 =>
    split
    · exact hs.of_eq (by simp [enterRun]) (by simp [enterRun]) (by simp [enterRun]) (by simp [enterRun])
    · exact { hs with }
  case h_2 =>
    split
    · exact { hs with }
    · exact hs.cleared rfl rfl rfl (.inr rfl)
  all_goals exact { hs with }

theorem StoresCanonical.tear {s : State} (hs : StoresCanonical s) (torn : Torn) : StoresCanonical (tear torn s) := by
  have hinto : ∀ slot image, StoresCanonical (tearInto slot image torn s) := by
    intro slot image
    cases torn with
    | oldImage => exact hs
    | newImage => exact hs.writeSlot _ _
    | other bytes => exact hs.writeSlot _ _
  unfold Machine.tear
  split
  · split
    · exact hinto _ _
    · exact hs
  · exact hinto _ _
  all_goals exact hs

theorem StoresCanonical.endReset {s : State} (hs : StoresCanonical s) (straps : Straps) (pfw : Level)
    (r : ResetRecord) : StoresCanonical (endReset straps pfw r s) := by
  have hlinkup : ∀ p u, (linkupIfClocked p u).lessPorts = u.lessPorts := by
    intro p u; unfold linkupIfClocked; split <;> rfl
  unfold Machine.endReset
  dsimp only
  refine (StoresCanonical.of_lessTraffic ?_ (lessTraffic_of_lessPorts (forPorts_frame _ _ hlinkup _))).settle
  split <;> exact hs.cleared rfl rfl rfl (.inl rfl)

theorem Does.storesCanonical {c : Instr} {s t : State} (hs : StoresCanonical s) (h : Does s c t) :
    StoresCanonical t := by
  cases h with
  | nothing => exact hs
  | async _ _ _ h => exact hs.of_lessTraffic h.frame
  | clocked _ _ _ h => exact { hs.of_lessTraffic h.frame with }
  | selected => exact { hs with }
  | deselected => exact { hs with }
  | calibrated => exact { hs with }
  | attended p => exact hs.attend p
  | chosen => exact hs.settle
  | @refused _ p last id f rest =>
    have htaken : StoresCanonical (taken p id f rest last s) := { hs with }
    exact (htaken.of_lessTraffic (answer_frame _ _ _)).settle
  | @handled _ p last id f rest _ _ _ _ hu =>
    have htaken : StoresCanonical (taken p id f rest last s) := { hs with }
    exact (htaken.of_lessRequest hu.frame (hu.keysRise hs.claims)).settle
  | fetched got _ _ => exact (hs.fetchDone _ _).settle
  | programmed got _ _ => exact (hs.programDone _ _ _).settle
  | fetchLost => exact StoresCanonical.settle { hs with }
  | programLost => exact StoresCanonical.settle { hs with }
  | marked => exact ((StoresCanonical.writeSlot (s := { s with op := none }) { hs with } _ _).markerDone _).settle
  | scanned => exact (hs.scanFetchDone _ _ _).settle
  | ticked => exact hs.tick
  | asserted =>
    obtain ⟨hcells, hdir, hspares, hclaims⟩ := assertPfw_stores s
    exact (hs.of_eq hcells hdir hspares hclaims).settle
  | deasserted => exact hs.deassertPfw.settle

theorem StoresCanonical.beginReset {s : State} (hs : StoresCanonical s) (cause : ResetEvent) (torn : Torn) :
    StoresCanonical (beginReset cause torn s) := by
  unfold Machine.beginReset
  split
  · exact { hs with }
  · exact (hs.tear torn).cleared rfl rfl rfl (.inl rfl)

/-- Settles O53: every write of a store goes through `keyedSet`, `keyedInsert` or a filter, which keep the form, and
every other operation leaves the stores. -/
theorem storesStayCanonical : Obligations.StoresStayCanonical := fun _ _ hs h =>
  step_keeps (P := StoresCanonical) (fun _ _ hs => { hs with }) (fun _ _ _ hs _ hd => hd.storesCanonical hs)
    (fun cause torn _ hs => hs.beginReset cause torn) (fun straps pfw r _ hs _ => hs.endReset straps pfw r) hs h

end Sys2Proof.Machine

/-! SUPPORT. What answers and notices do to a port: one relation of ports, and the operations that keep to it. -/

namespace Sys2Proof.Machine

theorem forall_allPorts {P : PortId → Prop} : (∀ p ∈ allPorts, P p) ↔ ∀ p, P p :=
  ⟨fun h p => h p (by cases p <;> decide), fun h p _ => h p⟩

/-! ### Moves of a port -/

/-- What the placing of answers and notices and the closing of a FLUSH record do to a port (R41, R87, R114). -/
inductive PortMove (x : Port) : Port → Prop
  | placed (r : Response) (h : canPlace x = true) : PortMove x (pushTx (.response r) x)
  | held (id : Nat) : PortMove x { x with held := x.held ++ [id] }
  | noticed (n : Notice) (h : x.session = .session) : PortMove x (offerNotice n x)
  | flushChanged (f : Option FlushRecord) : PortMove x { x with flush := f }

/-- Moves of a port, one after another. -/
abbrev PortMoves : Port → Port → Prop := Relation.ReflTransGen PortMove

theorem PortMoves.keeps {P : Port → Prop} (hmove : ∀ x y, P x → PortMove x y → P y) {x y : Port}
    (h : PortMoves x y) (hx : P x) : P y := by
  induction h with
  | refl => exact hx
  | tail _ hm ih => exact hmove _ _ ih hm

/-- A field that pushing a frame, joining the held ones and changing the flags and the FLUSH record leave. -/
theorem PortMoves.field {β : Type} (g : Port → β) (hpush : ∀ f x, g (pushTx f x) = g x)
    (hheld : ∀ l x, g { x with held := l } = g x) (hgap : ∀ b x, g { x with noticeGap := b } = g x)
    (hflush : ∀ f x, g { x with flush := f } = g x) {x y : Port} (h : PortMoves x y) : g y = g x := by
  refine h.keeps (P := fun z => g z = g x) (fun z w hz hm => ?_) rfl
  rw [← hz]
  cases hm with
  | placed r _ => exact hpush _ _
  | held id => exact hheld _ _
  | noticed n _ =>
    unfold offerNotice
    split
    · rw [hgap, hpush]
    · exact hgap _ _
  | flushChanged f => exact hflush _ _

section
variable {x y : Port} (h : PortMoves x y)
include h

theorem PortMoves.mode : y.mode = x.mode :=
  h.field Port.mode (fun _ _ => rfl) (fun _ _ => rfl) (fun _ _ => rfl) (fun _ _ => rfl)
theorem PortMoves.session : y.session = x.session :=
  h.field Port.session (fun _ _ => rfl) (fun _ _ => rfl) (fun _ _ => rfl) (fun _ _ => rfl)
theorem PortMoves.bitPeriod : y.bitPeriod = x.bitPeriod :=
  h.field Port.bitPeriod (fun _ _ => rfl) (fun _ _ => rfl) (fun _ _ => rfl) (fun _ _ => rfl)
theorem PortMoves.receiver : y.receiver = x.receiver :=
  h.field Port.receiver (fun _ _ => rfl) (fun _ _ => rfl) (fun _ _ => rfl) (fun _ _ => rfl)
theorem PortMoves.rxBuffer : y.rxBuffer = x.rxBuffer :=
  h.field Port.rxBuffer (fun _ _ => rfl) (fun _ _ => rfl) (fun _ _ => rfl) (fun _ _ => rfl)
theorem PortMoves.outByte : y.outByte = x.outByte :=
  h.field Port.outByte (fun _ _ => rfl) (fun _ _ => rfl) (fun _ _ => rfl) (fun _ _ => rfl)
theorem PortMoves.selected : y.selected = x.selected :=
  h.field Port.selected (fun _ _ => rfl) (fun _ _ => rfl) (fun _ _ => rfl) (fun _ _ => rfl)
theorem PortMoves.frameErr : y.frameErr = x.frameErr :=
  h.field Port.frameErr (fun _ _ => rfl) (fun _ _ => rfl) (fun _ _ => rfl) (fun _ _ => rfl)
theorem PortMoves.overrun : y.overrun = x.overrun :=
  h.field Port.overrun (fun _ _ => rfl) (fun _ _ => rfl) (fun _ _ => rfl) (fun _ _ => rfl)

end

/-! ### The request table: entries that go or remain -/

/-- An entry that remains keeps its number, port, tag, kind and arguments, and takes up no session (R73). -/
structure Remains (e x : Entry) : Prop where
  id      : x.id = e.id
  port    : x.port = e.port
  tag     : x.tag = e.tag
  kind    : x.kind = e.kind
  args    : x.args = e.args
  current : x.current = true → e.current = true

theorem Remains.refl (e : Entry) : Remains e e := ⟨rfl, rfl, rfl, rfl, rfl, fun h => h⟩

theorem Remains.trans {e x y : Entry} (h : Remains e x) (k : Remains x y) : Remains e y :=
  ⟨k.id.trans h.id, k.port.trans h.port, k.tag.trans h.tag, k.kind.trans h.kind, k.args.trans h.args,
    fun hy => h.current (k.current hy)⟩

/-- Every entry of the second table is what remains of one of the first, in the order of the first. -/
def Shrinks (l m : List Entry) : Prop :=
  ∃ g : Entry → Option Entry, m = l.filterMap g ∧ ∀ e x, g e = some x → Remains e x

theorem Shrinks.refl (l : List Entry) : Shrinks l l :=
  ⟨some, List.filterMap_some.symm, fun e _ h => Option.some.inj h ▸ Remains.refl e⟩

theorem Shrinks.trans {l m n : List Entry} (h : Shrinks l m) (k : Shrinks m n) : Shrinks l n := by
  obtain ⟨g, rfl, hg⟩ := h
  obtain ⟨g', rfl, hg'⟩ := k
  refine ⟨fun e => (g e).bind g', List.filterMap_filterMap, fun e y hy => ?_⟩
  obtain ⟨x, hx, hxy⟩ := Option.bind_eq_some_iff.1 hy
  exact (hg e x hx).trans (hg' x y hxy)

theorem Shrinks.filter (l : List Entry) (f : Entry → Bool) : Shrinks l (l.filter f) := by
  refine ⟨Option.guard f, congrFun List.filterMap_eq_filter.symm l, fun e x h => ?_⟩
  rw [Option.guard_eq_some_iff] at h
  exact h.1 ▸ Remains.refl e

theorem Shrinks.map (l : List Entry) {f : Entry → Entry} (hf : ∀ e, Remains e (f e)) : Shrinks l (l.map f) :=
  ⟨fun e => some (f e), (congrFun List.filterMap_eq_map l).symm, fun e _ h => Option.some.inj h ▸ hf e⟩

theorem Shrinks.updEntry {f : Entry → Entry} (hf : ∀ e, Remains e (f e)) (id : Nat) (s : State) :
    Shrinks s.table (updEntry id f s).table := by
  refine .map s.table (fun e => ?_)
  split
  · exact hf e
  · exact .refl e

theorem Shrinks.mem {l m : List Entry} (h : Shrinks l m) {x : Entry} (hx : x ∈ m) : ∃ e ∈ l, Remains e x := by
  obtain ⟨g, rfl, hg⟩ := h
  obtain ⟨e, he, hex⟩ := List.mem_filterMap.1 hx
  exact ⟨e, he, hg e x hex⟩

/-! ### Traffic: every port by such moves, and the table by such answers -/

/-- From s to t every port changes by answers, notices and FLUSH records alone, and entries go or remain. -/
structure Traffic (s t : State) : Prop where
  ports : ∀ p, PortMoves (portOf s p) (portOf t p)
  table : Shrinks s.table t.table

theorem Traffic.refl (s : State) : Traffic s s := ⟨fun _ => .refl, .refl _⟩

theorem Traffic.of_eq {s t : State} (hp : t.ports = s.ports) (ht : t.table = s.table) : Traffic s t :=
  ⟨fun p => by rw [portOf_congr hp], by rw [ht]; exact .refl _⟩

theorem Traffic.of_table {s t : State} (hp : t.ports = s.ports) (ht : Shrinks s.table t.table) : Traffic s t :=
  ⟨fun p => by rw [portOf_congr hp], ht⟩

theorem Traffic.trans {s t u : State} (h : Traffic s t) (k : Traffic t u) : Traffic s u :=
  ⟨fun p => (h.ports p).trans (k.ports p), h.table.trans k.table⟩

/-- What led to the ports and the table as they were goes before. -/
theorem Traffic.after {s t u : State} (h : Traffic u t) (hp : u.ports = s.ports) (ht : u.table = s.table) :
    Traffic s t := (Traffic.of_eq hp ht).trans h

theorem Traffic.updPort {p : PortId} {f : Port → Port} {s : State}
    (h : PortMoves (portOf s p) (f (portOf s p))) : Traffic s (updPort p f s) := by
  refine ⟨fun q => ?_, .refl _⟩
  rw [portOf_updPort]
  split
  case isTrue hq => rw [hq]; exact h
  case isFalse => exact .refl

theorem Traffic.forPorts {f : PortId → State → State} (h : ∀ p s, Traffic s (f p s)) (s : State) :
    Traffic s (forPorts f s) :=
  (((h .p0 s).trans (h .p1 _)).trans (h .p2 _)).trans (h .p3 _)

theorem freeEntry_traffic (id : Nat) (s : State) : Traffic s (freeEntry id s) := .of_table rfl (.filter _ _)

theorem updEntry_traffic {f : Entry → Entry} (hf : ∀ e, Remains e (f e)) (id : Nat) (s : State) :
    Traffic s (updEntry id f s) := .of_table rfl (.updEntry hf id s)

theorem answer_traffic (id : Nat) (a : Answer) (s : State) : Traffic s (answer id a s) := by
  unfold answer
  split
  · exact .refl s
  · rename_i e _
    split
    case isTrue hc => exact (Traffic.updPort (.single (.placed _ hc))).trans (freeEntry_traffic id _)
    case isFalse =>
      refine (Traffic.updPort (p := e.port) (f := fun x => { x with held := x.held ++ [id] }) (.single (.held id))).trans ?_
      exact updEntry_traffic (f := fun x => { x with state := .dispatched, response := some ⟨x.tag, a⟩ })
        (fun _ => ⟨rfl, rfl, rfl, rfl, rfl, fun h => h⟩) id _

theorem refuse_traffic (e : Entry) (code : NakCode) (s : State) : Traffic s (refuse e code s) := answer_traffic _ _ _

theorem notify_traffic (n : Notice) (p : PortId) (s : State) : Traffic s (notify n p s) := by
  unfold notify
  split
  case isTrue hs => exact Traffic.updPort (.single (.noticed n hs))
  case isFalse => exact .refl s

theorem reportChange_traffic (p : PortId) (r : Nat) (v : Half) (kind : ChangeKind) (s : State) :
    Traffic s (reportChange p r v kind s) :=
  Traffic.forPorts (fun _ s => by split; exacts [notify_traffic _ _ s, .refl s]) s

theorem reportFault_traffic (r : Nat) (v : Half) (origins : PortSet) (s : State) :
    Traffic s (reportFault r v origins s) :=
  Traffic.forPorts (fun _ s => by split; exacts [notify_traffic _ _ s, .refl s]) s

theorem announce_traffic (s : State) : Traffic s (announce s) := Traffic.forPorts (fun _ s => notify_traffic _ _ s) s

theorem notifyExpired_traffic (l : List (Nat × Claim)) (s : State) : Traffic s (notifyExpired l s) := by
  induction l generalizing s with
  | nil => exact .refl s
  | cons c l ih => exact (notify_traffic _ _ s).trans (ih _)

theorem dropMarks_traffic (p : PortId) (n : Nat) (fault : Bool) (s : State) : Traffic s (dropMarks p n fault s) := by
  have hflush : ∀ f, Traffic s (updPort p (fun x => { x with flush := f }) s) :=
    fun f => Traffic.updPort (.single (.flushChanged f))
  unfold dropMarks
  split
  · exact .refl s
  · split
    · exact .refl s
    · split
      · split
        · exact (hflush none).trans (answer_traffic _ _ _)
        · exact hflush none
      · exact hflush _

theorem dropAllMarks_traffic (removed : List QueueEntry) (fault : Bool) (s : State) :
    Traffic s (dropAllMarks removed fault s) := Traffic.forPorts (fun _ s => dropMarks_traffic _ _ _ s) s

theorem refuseAll_traffic (l : List Nat) (s : State) : Traffic s (refuseAll l s) := by
  induction l generalizing s with
  | nil => exact .refl s
  | cons id l ih =>
    rw [refuseAll]
    split
    · exact (refuse_traffic _ _ s).trans (ih _)
    · exact ih s

@[simp] theorem retire_table (l : Location) (s : State) : (retire l s).table = s.table := by cases l <;> rfl

@[simp] theorem retireReserved_table (r : Nat) (l : Location) (s : State) : (retireReserved r l s).table = s.table := by
  unfold retireReserved; split <;> simp

@[simp] theorem modeAfterRemoval_table (s : State) : (modeAfterRemoval s).table = s.table := by
  unfold modeAfterRemoval; split <;> rfl

@[simp] theorem modeAfterAcceptance_table (s : State) : (modeAfterAcceptance s).table = s.table := by
  unfold modeAfterAcceptance; split <;> rfl

@[simp] theorem applyCheck_table (r : Nat) (good : Bool) (s : State) : (applyCheck r good s).table = s.table := by
  unfold applyCheck; split <;> simp

@[simp] theorem dropTarget_ports (e : QueueEntry) (s : State) : (dropTarget e s).ports = s.ports := by
  unfold dropTarget; split <;> simp

@[simp] theorem dropTarget_table (e : QueueEntry) (s : State) : (dropTarget e s).table = s.table := by
  unfold dropTarget; split <;> simp

@[simp] theorem remap_table (e : QueueEntry) (k : Nat) (s : State) : (remap e k s).table = s.table := by
  unfold remap updProgramming; dsimp only; split <;> simp

theorem acceptChange_traffic (e : Entry) (coalesced : Bool) (s : State) : Traffic s (acceptChange e coalesced s) := by
  unfold acceptChange
  dsimp only
  refine ((answer_traffic _ _ _).trans (reportChange_traffic _ _ _ _ _)).after ?_ ?_ <;> simp [placeChange]

theorem settleChange_traffic (e : Entry) (d : Decision) (s : State) : Traffic s (settleChange e d s) := by
  cases d with
  | refused code => exact refuse_traffic _ _ s
  | merge => exact acceptChange_traffic _ _ s
  | append => exact acceptChange_traffic _ _ s
  | wait => exact .refl s

theorem retryWalk_traffic (l : List Nat) (blocked : PortSet) (s : State) : Traffic s (retryWalk l blocked s) := by
  induction l generalizing blocked s with
  | nil => exact .refl s
  | cons id l ih =>
    rw [retryWalk]
    split
    · exact ih _ s
    · rename_i e _
      split
      · exact ih _ s
      · split
        · exact ih _ s
        · exact Traffic.trans (Traffic.after (s := s) (settleChange_traffic e (decisionOf e s) (leaveWaiters id s)) rfl rfl) (ih _ _)

theorem afterRemoval_traffic (removed : List QueueEntry) (fault : Bool) (s : State) :
    Traffic s (retryPass (dropAllMarks removed fault s)) :=
  (dropAllMarks_traffic _ _ s).trans (retryWalk_traffic _ _ _)

theorem ChoiceMove.traffic {s t : State} (h : ChoiceMove s t) : Traffic s t := by
  cases h with
  | @readAnswered id rest e _ _ _ a => exact (answer_traffic id a (setFetchWait rest s)).after rfl rfl
  | fetchStarts => exact .of_table rfl (Shrinks.updEntry (f := fun x => { x with state := .fetching }) (fun e => ⟨rfl, rfl, rfl, rfl, rfl, fun h => h⟩) _ s)
  | programStarts _ he => exact .of_eq (by simp [startProgram, he]) (by simp [startProgram, he])
  | _ => exact .of_eq rfl rfl

theorem settle_traffic (s : State) : Traffic s (settle s) :=
  settle_keeps (P := Traffic s) (fun _ _ hs hm => hs.trans hm.traffic) (.refl s)

theorem tick_traffic (s : State) : Traffic s (tick s) :=
  (notifyExpired_traffic (expiring s.claims) { s with claims := ticked s.claims }).after rfl rfl

theorem fetchDone_traffic (e : Entry) (image : List Byte) (s : State) : Traffic s (fetchDone e image s) := by
  unfold fetchDone
  dsimp only
  split
  · exact (freeEntry_traffic _ _).after (by simp) (by simp)
  · exact (answer_traffic _ _ _).after (by simp) (by simp)

theorem commit_traffic (e : QueueEntry) (s : State) : Traffic s (commit e s) := by
  unfold commit
  dsimp only
  refine (afterRemoval_traffic _ _ _).after ?_ ?_ <;> split <;> simp

theorem faultRecord_traffic (e : QueueEntry) (s : State) : Traffic s (faultRecord e s) := by
  unfold faultRecord
  dsimp only
  refine ((reportFault_traffic _ _ _ _).trans (afterRemoval_traffic _ _ _)).after ?_ ?_ <;> simp

theorem programDone_traffic (e : QueueEntry) (slot : Nat) (got : Cells) (s : State) :
    Traffic s (programDone e slot got s) := by
  unfold programDone
  dsimp only
  have hwritten : Traffic s (writeSlot slot (cellsLeft (entryImage e) got) { s with op := none }) := .of_eq rfl rfl
  refine hwritten.trans ?_
  split
  · exact commit_traffic _ _
  · unfold programFailed
    split
    · exact .of_eq rfl rfl
    · split
      · exact .of_eq (by simp) (by simp)
      · exact (faultRecord_traffic e _).after (dropTarget_ports e _) (dropTarget_table e _)

theorem enterRun_traffic (s : State) : Traffic s (enterRun s) := (announce_traffic _).after rfl rfl
theorem enterHoldup_traffic (s : State) : Traffic s (enterHoldup s) :=
  (announce_traffic _).after rfl rfl
theorem enterParked_traffic (s : State) : Traffic s (enterParked s) :=
  (announce_traffic _).after rfl rfl

theorem markerDone_traffic (ok : Bool) (s : State) : Traffic s (markerDone ok s) := by
  unfold markerDone
  split
  · unfold dirtyDone
    split
    · exact (enterHoldup_traffic _).after rfl rfl
    · split
      · exact (enterRun_traffic _).after rfl rfl
      · split
        · exact .of_eq rfl rfl
        · exact (enterRun_traffic _).after rfl rfl
  · unfold cleanDone
    split
    · split
      · exact (enterParked_traffic _).after rfl rfl
      · split
        · exact .of_eq rfl rfl
        · exact (enterParked_traffic _).after rfl rfl
    · exact .of_eq rfl rfl
  · exact .refl s

theorem refuseWaiters_traffic (s : State) : Traffic s (refuseWaiters s) :=
  (refuseAll_traffic s.spaceWait { s with spaceWait := [] }).after rfl rfl

theorem refuseReads_traffic (s : State) : Traffic s (refuseReads s) :=
  (refuseAll_traffic s.fetchWait (setFetchWait [] s)).after rfl rfl

theorem holdupFromRun_traffic (s : State) : Traffic s (holdupFromRun s) :=
  ((enterHoldup_traffic s).trans (refuseWaiters_traffic _)).trans (refuseReads_traffic _)

theorem assertPfw_traffic (s : State) : Traffic s (assertPfw s) := by
  unfold assertPfw
  dsimp only
  split
  · exact (holdupFromRun_traffic _).after rfl rfl
  · split
    · exact (enterParked_traffic _).after rfl rfl
    · exact .of_eq rfl rfl
  all_goals exact .of_eq rfl rfl

theorem deassertPfw_traffic (s : State) : Traffic s (deassertPfw s) := by
  unfold deassertPfw
  dsimp only
  split
  · split
    · exact (enterRun_traffic _).after rfl rfl
    · exact .of_eq rfl rfl
  · split <;> exact .of_eq rfl rfl
  all_goals exact .of_eq rfl rfl

end Sys2Proof.Machine

/-! SUPPORT. The requests: each command hands its frame to its block, and what the block answers. -/

namespace Sys2Proof.Machine

/-! ### The command of a kind -/

theorem bodyKind_eq (body : List Byte) : bodyKind body = byteAt body 0 := rfl

section
variable {s : State} {p : PortId} {id : Nat} {f : RxFrame} {rest : List RxFrame}

/-- The command of a kind, on a frame of that kind that passes dispatch, hands the entry taken to the block. -/
theorem request_next {kind : Byte} (handler : Entry → State → State) (h : Passes s p id f rest)
    (hk : byteAt f.body 0 = kind) :
    whileRunning (serve (· == kind) handler p) s =
      .next (settle (handler (newEntry id p f) (takeFrame p id f rest s))) := by
  rw [whileRunning_out _ _ h.1, serve_of_passes handler h (by simp [hk])]

/-- The same, with what the block makes of it. -/
theorem request_next_eq {kind : Byte} {handler : Entry → State → State} {u : State} (h : Passes s p id f rest)
    (hk : byteAt f.body 0 = kind) (hu : handler (newEntry id p f) (takeFrame p id f rest s) = u) :
    whileRunning (serve (· == kind) handler p) s = .next (settle u) := by
  rw [request_next handler h hk, hu]

theorem Passes.free (h : Passes s p id f rest) : ∀ e ∈ s.table, e.id ≠ id := (freeReserved_some h.2.2.1).2

/-- The entry taken is refused with the NAK of its frame's kind. -/
theorem refuse_newEntry {kind : Byte} (hk : byteAt f.body 0 = kind) (code : NakCode) (u : State) :
    refuse (newEntry id p f) code u = answer id (.nak kind code) u := by subst hk; rfl

/-! ### What takes a frame leaves the lookups as they were -/

@[simp] theorem visibleVersion_takeFrame (r : Nat) : visibleVersion (takeFrame p id f rest s) r = visibleVersion s r :=
  rfl

theorem session_takeFrame (q : PortId) : (portOf (takeFrame p id f rest s) q).session = (portOf s q).session := by
  by_cases hq : q = p
  · rw [hq, takeFrame_portOf_same]
  · rw [takeFrame_portOf_other _ _ _ _ _ _ hq]

end

/-! ### READ and INSPECT -/

section
variable {s : State} {r : Nat}

theorem readOutcome_write {e : QueueEntry} {payload : List Byte} (h : newestEntry s r = some e)
    (hc : e.change = .write payload) : readOutcome s r = some (.data r e.version payload) := by
  simp [readOutcome, h, hc]

theorem readOutcome_erase {e : QueueEntry} (h : newestEntry s r = some e) (hc : e.change = .erase) :
    readOutcome s r = some (.nak kindRead (.empty e.version)) := by
  simp [readOutcome, h, hc]

theorem readOutcome_empty (h : newestEntry s r = none) (hrow : (rowOf s r).state = .empty) :
    readOutcome s r = some (.nak kindRead (.empty (rowOf s r).version)) := by simp [readOutcome, h, hrow]

theorem readOutcome_corrupt (h : newestEntry s r = none) (hrow : (rowOf s r).state = .corrupt) :
    readOutcome s r = some (.nak kindRead .corrupt) := by simp [readOutcome, h, hrow]

theorem readOutcome_faulted (h : newestEntry s r = none) (hrow : (rowOf s r).state = .faulted) :
    readOutcome s r = some (.nak kindRead .faulted) := by simp [readOutcome, h, hrow]

theorem readOutcome_valid (h : newestEntry s r = none) (hrow : (rowOf s r).state = .valid) :
    readOutcome s r = none := by simp [readOutcome, h, hrow]

end

section
variable {e : Entry} {s : State}

theorem handleRead_of_some {a : Answer} (hb : s.built = true) (h : readOutcome s e.args.record = some a) :
    handleRead e s = answer e.id a s := by simp [handleRead, hb, h]

theorem handleRead_of_run (hb : s.built = true) (h : readOutcome s e.args.record = none) (hp : s.partState = .run) :
    handleRead e s = joinFetch e s := by simp [handleRead, hb, h, hp]

theorem handleRead_of_holdup (hb : s.built = true) (h : readOutcome s e.args.record = none)
    (hp : s.partState = .holdup) : handleRead e s = refuse e .holdup s := by simp [handleRead, hb, h, hp]

theorem handleRead_of_parked (hb : s.built = true) (h : readOutcome s e.args.record = none)
    (hp : s.partState = .parked ∨ s.partState = .resuming) : handleRead e s = refuse e .parked s := by
  obtain hp | hp := hp <;> simp [handleRead, hb, h, hp]

theorem handleRead_of_not_built (hb : s.built = false) : handleRead e s = refuse e .parked s := by
  simp [handleRead, hb]

theorem handleInspect_of_not_built (hb : s.built = false) : handleInspect e s = refuse e .parked s := by
  simp [handleInspect, hb]

end

/-- Settles O17: the outcome of the lookup is what the READ is answered. -/
theorem readIsAnsweredAtOnce : Obligations.ReadIsAnsweredAtOnce := by
  rintro s u p id f rest h hk hb rfl
  have answered : ∀ a, readOutcome s (recordOf f) = some a →
      exec (.read p) s = .next (settle (answer id a (takeFrame p id f rest s))) := fun a ha =>
    request_next_eq h hk (handleRead_of_some (e := newEntry id p f) (s := takeFrame p id f rest s) hb ha)
  exact ⟨fun e payload he hc => answered _ (readOutcome_write he hc),
    fun e he hc => answered _ (readOutcome_erase he hc), fun hn hrow => answered _ (readOutcome_empty hn hrow),
    fun hn hrow => answered _ (readOutcome_corrupt hn hrow), fun hn hrow => answered _ (readOutcome_faulted hn hrow)⟩

/-- Settles O18, by the part state. -/
theorem readThatNeedsAFetch : Obligations.ReadThatNeedsAFetch := by
  rintro s u p id f rest h rfl
  refine ⟨fun hk hb hn hrow => ⟨fun hp => ?_, fun hp => ?_, fun hp => ?_⟩, fun hk hb => ?_, fun hk hb => ?_⟩
  all_goals refine request_next_eq h hk ?_
  all_goals have hb' : (takeFrame p id f rest s).built = _ := hb
  · refine (handleRead_of_run (e := newEntry id p f) hb' (readOutcome_valid hn hrow) hp).trans ?_
    exact congrArg (fun x : State => { x with fetchWait := s.fetchWait ++ [id] })
      (updEntry_takeFrame (fun x => { x with state := .waitFetch }) h.free)
  · exact (handleRead_of_holdup (e := newEntry id p f) hb' (readOutcome_valid hn hrow) hp).trans (refuse_newEntry hk _ _)
  · exact (handleRead_of_parked (e := newEntry id p f) hb' (readOutcome_valid hn hrow) hp).trans (refuse_newEntry hk _ _)
  · exact (handleRead_of_not_built hb').trans (refuse_newEntry hk _ _)
  · exact (handleInspect_of_not_built hb').trans (refuse_newEntry hk _ _)

/-- Settles O22: the block reports what it finds. -/
theorem inspectReportsTheRecord : Obligations.InspectReportsTheRecord := by
  intro s p id f rest h hk hb
  have hbuilt : (takeFrame p id f rest s).built = true := hb
  refine (request_next handleInspect h hk).trans ?_
  rw [handleInspect, if_pos hbuilt]
  rfl

/-! ### Claims -/

section
variable {e : Entry} {s : State} {c : Claim}

theorem handleRelease_of_holder (hc : claimOf s e.args.record = some c) (hh : c.holder = e.port) :
    handleRelease e s =
      answer e.id (.released e.args.record) { s with claims := keyedErase e.args.record s.claims } := by
  simp [handleRelease, hc, hh]

theorem handleRelease_of_other (h : ∀ c, claimOf s e.args.record = some c → c.holder ≠ e.port) :
    handleRelease e s = refuse e .notHeld s := by
  unfold handleRelease
  split
  · rename_i c hc; rw [if_neg (h c hc)]
  · rfl

theorem handleClaim_outside_run (hp : s.partState ≠ .run) : handleClaim e s = refuse e (notRunCode s.partState) s := by
  simp [handleClaim, hp]

theorem handleClaim_of_other (hp : s.partState = .run) (hc : claimOf s e.args.record = some c)
    (hh : c.holder ≠ e.port) : handleClaim e s = refuse e (.claimed c.holder) s := by
  simp [handleClaim, hp, hc, hh]

theorem handleClaim_of_full (hp : s.partState = .run) (hc : claimOf s e.args.record = none)
    (hfull : Config.claimSlots ≤ s.claims.length) : handleClaim e s = refuse e .claimFull s := by
  simp [handleClaim, hp, hc, hfull]

theorem handleClaim_granted (hp : s.partState = .run)
    (hroom : (∃ c, claimOf s e.args.record = some c ∧ c.holder = e.port) ∨
      claimOf s e.args.record = none ∧ s.claims.length < Config.claimSlots) :
    handleClaim e s = answer e.id (.granted e.args.record e.args.lease)
      { s with claims := keyedInsert e.args.record ⟨e.port, e.args.lease⟩ s.claims } := by
  obtain ⟨c, hc, hh⟩ | ⟨hc, hroom⟩ := hroom
  · simp [handleClaim, hp, hc, hh]
  · simp [handleClaim, hp, hc, Nat.not_le.2 hroom]

end

/-- Settles O25, by who holds the claim. -/
theorem releaseIsTheHolders : Obligations.ReleaseIsTheHolders := by
  rintro s u p id f rest h hk rfl
  refine ⟨fun c hc hh => request_next_eq h hk ?_, fun hno => request_next_eq h hk ?_⟩
  · exact handleRelease_of_holder (e := newEntry id p f) (s := takeFrame p id f rest s) hc hh
  · exact (handleRelease_of_other (e := newEntry id p f) (s := takeFrame p id f rest s) hno).trans (refuse_newEntry hk _ _)

theorem keyedFind_none_of_lt {α : Type} {k j : Nat} {w : α} {l : List (Nat × α)} (h : KeysRise ((j, w) :: l))
    (hlt : k < j) : keyedFind ((j, w) :: l) k = none := by
  refine Option.eq_none_iff_forall_ne_some.2 fun v hv => ?_
  obtain e | hm := List.mem_cons.1 (mem_of_keyedFind hv)
  · exact absurd (congrArg Prod.fst e) hlt.ne
  · exact absurd ((List.pairwise_cons.1 h).1 _ hm) hlt.asymm

/-- The table with a claim set holds one more where the record had none. -/
theorem length_keyedInsert {α : Type} (k : Nat) (v : α) {l : List (Nat × α)} (h : KeysRise l) :
    (keyedInsert k v l).length = l.length + (if (keyedFind l k).isSome then 0 else 1) := by
  induction l with
  | nil => rfl
  | cons a l ih =>
    obtain ⟨j, w⟩ := a
    simp only [keyedInsert]
    split
    case isTrue hlt => simp [keyedFind_none_of_lt h hlt]
    case isFalse =>
      split
      case isTrue hk => subst hk; simp [keyedFind]
      case isFalse hk => simp [keyedFind, Ne.symm hk, ih (List.pairwise_cons.1 h).2]; omega

/-- Settles O24: the steps of R95 in order, then the table laws. -/
theorem claimIsDecided : Obligations.ClaimIsDecided := by
  constructor
  · rintro s u p id f rest h hk rfl
    have outside : ∀ code, notRunCode s.partState = code → s.partState ≠ .run →
        exec (.claim p) s = .next (settle (answer id (.nak kindClaim code) (takeFrame p id f rest s))) := by
      rintro code rfl hp
      exact request_next_eq h hk ((handleClaim_outside_run (s := takeFrame p id f rest s) hp).trans
        (refuse_newEntry hk _ _))
    have hlease : (newEntry id p f).args.lease = (halfAt f.body 4).toNat := by
      simp only [newEntry, argsOf, bodyKind_eq, hk, if_true]
    refine ⟨fun hp => outside _ (by rw [hp]; rfl) (by simp [hp]), fun hp => outside _ (by rw [hp]; rfl) (by simp [hp]),
      fun c hp hc hh => ?_, fun hp hc hfull => ?_, fun hp hroom => ?_⟩
    · exact request_next_eq h hk ((handleClaim_of_other (e := newEntry id p f) (s := takeFrame p id f rest s) hp hc hh).trans (refuse_newEntry hk _ _))
    · exact request_next_eq h hk ((handleClaim_of_full (e := newEntry id p f) (s := takeFrame p id f rest s) hp hc hfull).trans (refuse_newEntry hk _ _))
    · rw [← hlease]
      exact request_next_eq h hk (handleClaim_granted (e := newEntry id p f) (s := takeFrame p id f rest s) hp hroom)
  · exact fun s r c hk => ⟨keyedFind_keyedInsert r c s.claims, keysRise_keyedInsert r c _ hk,
      length_keyedInsert r c hk⟩

/-! ### Watches -/

theorem isWatching_iff (s : State) (r : Nat) (p : PortId) : isWatching s r p = true ↔ (⟨r, p⟩ : Watch) ∈ s.watches := by
  simp only [isWatching, List.any_eq_true, Bool.and_eq_true, beq_iff_eq]
  constructor
  · rintro ⟨⟨r', p'⟩, hw, rfl, rfl⟩; exact hw
  · exact fun h => ⟨_, h, rfl, rfl⟩

section
variable {e : Entry} {s : State}

theorem handleWatch_of_held (h : (⟨e.args.record, e.port⟩ : Watch) ∈ s.watches) :
    handleWatch e s = answer e.id (.watching e.args.record) s := by
  simp only [handleWatch, (isWatching_iff _ _ _).2 h, if_true]

theorem handleWatch_of_new (h : (⟨e.args.record, e.port⟩ : Watch) ∉ s.watches) :
    handleWatch e s = if Config.watchSlots ≤ s.watches.length then refuse e .watchFull s
      else answer e.id (.watching e.args.record) { s with watches := s.watches ++ [⟨e.args.record, e.port⟩] } := by
  have hnot : isWatching s e.args.record e.port = false := by
    rw [← Bool.not_eq_true, isWatching_iff]; exact h
  simp only [handleWatch, hnot, Bool.false_eq_true, if_false]

theorem handleUnwatch_eq : handleUnwatch e s = answer e.id (.unwatched e.args.record)
    { s with watches := s.watches.filter (fun w => w != ⟨e.args.record, e.port⟩) } := by
  have hfilter : ∀ w : Watch, (!(w.record == e.args.record && w.port == e.port)) = (w != ⟨e.args.record, e.port⟩) := by
    rintro ⟨r, q⟩
    rw [Bool.eq_iff_iff]
    simp [Watch.mk.injEq, imp_iff_not_or]
  simp only [handleUnwatch, hfilter]

end

/-- Settles O27, by the steps of R106 and R107. -/
theorem watchAndUnwatch : Obligations.WatchAndUnwatch := by
  rintro s u p id f rest h rfl
  refine ⟨fun hk hw => ?_, fun hk hw hfull => ?_, fun hk hw hroom => ?_, fun hk => ?_⟩ <;>
    refine request_next_eq h hk ?_
  · exact handleWatch_of_held (e := newEntry id p f) (s := takeFrame p id f rest s) hw
  · exact ((handleWatch_of_new (s := takeFrame p id f rest s) hw).trans (if_pos hfull)).trans (refuse_newEntry hk _ _)
  · exact (handleWatch_of_new (s := takeFrame p id f rest s) hw).trans (if_neg (Nat.not_le.2 hroom))
  · exact handleUnwatch_eq

/-! ### Sessions -/

section
variable {e : Entry} {s : State}

theorem handleOpen_of_session (h : (portOf s e.port).session = .session) :
    handleOpen e s = answer e.id (.opened (nextEpoch (portOf s e.port).epoch) s.partState)
      (updPort e.port beginSession (teardown e.port (some e.id) s)) := by
  simp only [handleOpen, h, if_true, portOf_teardown_same]
  rfl

theorem handleOpen_of_no_session (h : (portOf s e.port).session ≠ .session) :
    handleOpen e s = answer e.id (.opened (nextEpoch (portOf s e.port).epoch) s.partState)
      (updPort e.port beginSession (endSessionless e.port e.id s)) := by
  simp only [handleOpen, h, if_false]
  rfl

theorem endSessionless_eq (p : PortId) (keep : Nat) (s : State) : endSessionless p keep s =
    { s with table := s.table.map (fun e =>
      if e.port = p ∧ e.current = true ∧ e.id ≠ keep then { e with current := false } else e) } := by
  have hends : ∀ e, (endsWith p (some keep) e = true) = (e.port = p ∧ e.current = true ∧ e.id ≠ keep) := fun e => by
    simp only [endsWith, Bool.and_eq_true, beq_iff_eq, bne_iff_ne, ne_eq, Option.some.injEq, and_assoc,
      eq_comm (a := keep)]
  simp only [endSessionless, hends]

end

theorem epoch_takeFrame (p q : PortId) (id : Nat) (f : RxFrame) (rest : List RxFrame) (s : State) :
    (portOf (takeFrame p id f rest s) q).epoch = (portOf s q).epoch := by
  rw [portOf_epoch, epochs_takeFrame, portOf_epoch]

/-- Settles O28, by the session the OPEN finds. -/
theorem openAndClose : Obligations.OpenAndClose := by
  constructor
  · rintro s u p id f rest h hk rfl
    rw [← epoch_takeFrame p p id f rest s]
    refine ⟨fun hs => request_next_eq h hk ?_, fun hs => request_next_eq h hk ?_⟩ <;>
      rw [← session_takeFrame (p := p) (id := id) (f := f) (rest := rest)] at hs
    · refine (handleOpen_of_no_session (e := newEntry id p f) hs).trans ?_
      rw [endSessionless_eq]
      rfl
    · exact handleOpen_of_session (e := newEntry id p f) hs
  · intro s p id f rest h hk
    rw [← epoch_takeFrame p p id f rest s]
    exact request_next handleClose h hk

/-- Settles O30. -/
theorem statusReportsAndClearsFrameErr : Obligations.StatusReportsAndClearsFrameErr := by
  intro s p id f rest h hk
  have hinfo : statusInfoOf (takeFrame p id f rest s) p = statusInfoOf s p := by
    simp only [statusInfoOf, takeFrame_portOf_same]
    rfl
  refine request_next_eq h hk ?_
  simp only [handleStatus, newEntry, hinfo]
  rfl

/-- A RESYNC meets the body length check alone (R79 to R82, R145). -/
theorem dispatchCheck_resync (s : State) (p : PortId) (id : Nat) {f : RxFrame} (hk : byteAt f.body 0 = kindResync) :
    dispatchCheck s p id f = if f.body.length = 3 then none else some .badArg := by
  have hready : notReady s.partState kindResync = false := by cases s.partState <;> rfl
  have hknown : requestKinds.contains kindResync = true := by decide
  have hsession : sessionless kindResync = true := by decide
  have hargs : checkArgs f = if f.body.length = 3 then none else some .badArg := by
    have hlength : bodyLengthGood kindResync f.body.length = (f.body.length == 3) := rfl
    have hrecord : carriesRecord kindResync = false := by decide
    have hkinds : kindResync ≠ kindWrite ∧ kindResync ≠ kindWriteIf ∧ kindResync ≠ kindClaim := by decide
    simp only [checkArgs, bodyKind_eq, hk, hlength, hrecord]
    by_cases h3 : f.body.length = 3 <;> simp [hkinds, h3]
  simp only [dispatchCheck, bodyKind_eq, hk, hknown, hsession, tagInUse, hready, hargs]
  simp

/-- Settles O31. -/
theorem resyncTellsOfOverrun : Obligations.ResyncTellsOfOverrun := by
  refine ⟨fun s p id f hk => dispatchCheck_resync s p id hk, fun s p id f rest hs hrx hid hk hlen => ?_⟩
  have h : Passes s p id f rest := ⟨hs, hrx, hid, by rw [dispatchCheck_resync _ _ _ hk, if_pos hlen]⟩
  exact request_next handleResync h hk

end Sys2Proof.Machine

/-! SUPPORT. Dispatch: the checks in their order, the command of a kind, and the ring of POOL_GRANT. -/

namespace Sys2Proof.Machine

/-- Settles O1. -/
theorem stepRunsTheFrontCommand : Obligations.StepRunsTheFrontCommand :=
  ⟨fun c rest s h => by rw [step, h], fun s h => by rw [step, h]⟩

/-! ### The checks -/

theorem notReady_iff {kind : Byte} (hk : kind ∈ requestKinds) (part : PartState) : notReady part kind = true ↔
    part = .startup ∧ kind ∉ [kindOpen, kindClose, kindStatus, kindResync] ∨
      part = .resuming ∧ kind ∉ [kindRead, kindInspect, kindOpen, kindClose, kindStatus, kindResync] := by
  fin_cases hk <;> cases part <;> decide

/-- The body lengths of a kind are those from its shortest to its longest (R170). -/
theorem bodyLengthGood_iff {kind : Byte} (hk : kind ∈ requestKinds) (n : Nat) : bodyLengthGood kind n = true ↔
    shortestBody kind ≤ n ∧ n ≤ longestBody kind := by
  fin_cases hk <;>
    simp [bodyLengthGood, shortestBody, longestBody, carriesRecord, kindRead, kindWrite, kindWriteIf, kindErase,
      kindInspect, kindFlush, kindClaim, kindRelease, kindWatch, kindUnwatch, kindOpen, kindClose, kindStatus,
      kindResync] <;>
    omega

theorem carriesRecord_iff (kind : Byte) : carriesRecord kind = true ↔
    kind ∈ [kindRead, kindWrite, kindWriteIf, kindErase, kindInspect, kindClaim, kindRelease, kindWatch, kindUnwatch] :=
  List.contains_iff_mem

theorem kindWriteIf_ne_kindWrite : kindWriteIf ≠ kindWrite := by decide

theorem payloadBad_write {body : List Byte} (hk : byteAt body 0 = kindWrite) : payloadBad body = true ↔
    (byteAt body 4).toNat = 0 ∨ 48 < (byteAt body 4).toNat ∨ body.length ≠ 5 + (byteAt body 4).toNat := by
  have hat : payloadLengthAt (bodyKind body) = 4 := by rw [bodyKind_eq, hk]; decide
  simp [payloadBad, hat, Config.maxPayload]
  omega

theorem payloadBad_writeIf {body : List Byte} (hk : byteAt body 0 = kindWriteIf) : payloadBad body = true ↔
    (byteAt body 6).toNat = 0 ∨ 48 < (byteAt body 6).toNat ∨ body.length ≠ 7 + (byteAt body 6).toNat := by
  have hat : payloadLengthAt (bodyKind body) = 6 := by rw [bodyKind_eq, hk]; decide
  simp [payloadBad, hat, Config.maxPayload]
  omega

theorem record_argsOf (f : RxFrame) :
    (argsOf f).record = if carriesRecord (byteAt f.body 0) then (halfAt f.body 2).toNat else 0 := rfl

theorem lease_argsOf (f : RxFrame) :
    (argsOf f).lease = if byteAt f.body 0 = kindClaim then (halfAt f.body 4).toNat else 0 := rfl

/-- Settles O12: each test of the model is the one stated, in the same order. -/
theorem dispatchChecksInOrder : Obligations.DispatchChecksInOrder := by
  constructor
  · intro s p id f
    refine ite_congr (propext (by simp [bodyKind_eq])) (fun _ => rfl) (fun hk => ?_)
    have hk : byteAt f.body 0 ∈ requestKinds := not_not.1 hk
    refine ite_congr (propext (by simp [bodyKind_eq, sessionless, and_assoc])) (fun _ => rfl) (fun _ => ?_)
    refine ite_congr (propext ?_) (fun _ => rfl) (fun _ => ?_)
    · simp only [tagInUse, bodyKind_eq, bodyTag, Bool.and_eq_true, bne_iff_ne, List.any_eq_true, beq_iff_eq, and_assoc]
    · exact ite_congr (propext (notReady_iff hk _)) (fun _ => rfl) (fun _ => rfl)
  · intro f hk
    have hlength : (!bodyLengthGood (byteAt f.body 0) f.body.length) = true ↔
        f.body.length < shortestBody (byteAt f.body 0) ∨ longestBody (byteAt f.body 0) < f.body.length := by
      rw [Bool.not_eq_true', ← Bool.not_eq_true, bodyLengthGood_iff hk]
      omega
    have hrecord : (carriesRecord (byteAt f.body 0) && Config.records ≤ (argsOf f).record) = true ↔
        byteAt f.body 0 ∈ [kindRead, kindWrite, kindWriteIf, kindErase, kindInspect, kindClaim, kindRelease, kindWatch,
          kindUnwatch] ∧ 1023 < (halfAt f.body 2).toNat := by
      rw [Bool.and_eq_true, decide_eq_true_eq, ← carriesRecord_iff]
      refine and_congr_right fun hc => ?_
      rw [record_argsOf, if_pos hc]
      exact Nat.succ_le_iff
    have hpayload : ((byteAt f.body 0 == kindWrite || byteAt f.body 0 == kindWriteIf) && payloadBad f.body) = true ↔
        byteAt f.body 0 = kindWrite ∧ ((byteAt f.body 4).toNat = 0 ∨ 48 < (byteAt f.body 4).toNat ∨
          f.body.length ≠ 5 + (byteAt f.body 4).toNat) ∨
        byteAt f.body 0 = kindWriteIf ∧ ((byteAt f.body 6).toNat = 0 ∨ 48 < (byteAt f.body 6).toNat ∨
          f.body.length ≠ 7 + (byteAt f.body 6).toNat) := by
      rw [Bool.and_eq_true, Bool.or_eq_true, beq_iff_eq, beq_iff_eq, or_and_right]
      exact or_congr (and_congr_right payloadBad_write) (and_congr_right payloadBad_writeIf)
    have hlease : (byteAt f.body 0 == kindClaim && ((argsOf f).lease == 0 || Config.maxLease < (argsOf f).lease)) = true ↔
        byteAt f.body 0 = kindClaim ∧ ((halfAt f.body 4).toNat = 0 ∨ 3000 < (halfAt f.body 4).toNat) := by
      rw [Bool.and_eq_true, beq_iff_eq]
      refine and_congr_right fun hc => ?_
      rw [lease_argsOf, if_pos hc, Bool.or_eq_true, beq_iff_eq, decide_eq_true_eq]
      rfl
    exact if_congr hlength rfl (if_congr hrecord rfl
      ((if_congr hpayload rfl (if_congr hlease rfl rfl)).trans (ite_or _ _ _ _)))

/-! ### The command of a kind -/

section
variable {s : State} {p : PortId} {id : Nat} {f : RxFrame} {rest : List RxFrame}

/-- A command that admits the kind of a frame that is due dispatches it. -/
theorem serve_due {rowKind : Byte → Bool} {handler : Entry → State → State} (hs : s.resetHold = none)
    (hrx : (portOf s p).rxBuffer = f :: rest) (hid : freeReserved s p = some id) (hk : rowKind (byteAt f.body 0) = true) :
    whileRunning (serve rowKind handler p) s = .next (settle (dispatch handler p id f rest s)) := by
  rw [whileRunning_out _ _ hs, serve, request_due hrx hk hid]

/-- The command of the kind of a frame that is due dispatches it to the block that owns the kind. -/
theorem exec_rowFor (hs : s.resetHold = none) (hrx : (portOf s p).rxBuffer = f :: rest)
    (hid : freeReserved s p = some id) :
    exec (rowFor p (byteAt f.body 0)) s = .next (settle (dispatch (handlerOf (byteAt f.body 0)) p id f rest s)) := by
  by_cases hknown : byteAt f.body 0 ∈ requestKinds
  · have due : ∀ {kind : Byte} {handler : Entry → State → State}, byteAt f.body 0 = kind →
        whileRunning (serve (· == kind) handler p) s = .next (settle (dispatch handler p id f rest s)) :=
      fun hk => serve_due hs hrx hid (by simp [hk])
    simp only [requestKinds, List.mem_cons, List.not_mem_nil, or_false] at hknown
    rcases hknown with hk | hk | hk | hk | hk | hk | hk | hk | hk | hk | hk | hk | hk | hk <;> rw [hk] <;> exact due hk
  · have hrow : rowFor p (byteAt f.body 0) = .badKindRequest p := rowFor_unknown (by simpa using hknown)
    have hblock : handlerOf (byteAt f.body 0) = fun e s => refuse e .badKind s := by
      simp only [requestKinds, List.mem_cons, List.not_mem_nil, or_false, not_or] at hknown
      funext e u
      simp [handlerOf, hknown]
    rw [hrow, hblock]
    exact serve_due hs hrx hid (by simpa using hknown)

theorem dispatch_of_refused {handler : Entry → State → State} {code : NakCode}
    (h : dispatchCheck (takeFrame p id f rest s) p id f = some code) :
    dispatch handler p id f rest s = answer id (.nak (byteAt f.body 0) code) (takeFrame p id f rest s) := by
  rw [dispatch, h]; rfl

theorem dispatch_of_passed {handler : Entry → State → State}
    (h : dispatchCheck (takeFrame p id f rest s) p id f = none) :
    dispatch handler p id f rest s = handler (newEntry id p f) (takeFrame p id f rest s) := by
  rw [dispatch, h]

end

/-- Settles O13. -/
theorem refusedRequestIsAnswered : Obligations.RefusedRequestIsAnswered := by
  refine ⟨fun s p id f rest code hs hrx hid hcode => ?_, fun s p id f rest hs hrx hid hk => ?_, fun s p id f rest => rfl⟩
  · rw [exec_rowFor hs hrx hid, dispatch_of_refused hcode]
  · have hunknown : requestKinds.contains (byteAt f.body 0) = false := by
      rw [← Bool.not_eq_true, List.contains_iff_mem]; exact hk
    have hcode : dispatchCheck (takeFrame p id f rest s) p id f = some .badKind := by
      simp only [dispatchCheck, bodyKind_eq, hunknown]; rfl
    rw [← rowFor_unknown hunknown, exec_rowFor hs hrx hid, dispatch_of_refused hcode]
    rfl

/-! ### The ring -/

/-- The ring up to p, p, and the ports further round. -/
theorem roundRobin_split (last p : PortId) : roundRobin last =
    (roundRobin last).take (ringDistance last p) ++ p :: (roundRobin last).drop (ringDistance last p + 1) := by
  cases last <;> cases p <;> rfl

theorem ringDistance_lt (last p : PortId) :
    ∀ q ∈ (roundRobin last).take (ringDistance last p), ringDistance last q < ringDistance last p := by
  cases last <;> cases p <;> decide

/-- The nearest port of the ring that waits is the one found first. -/
theorem find_roundRobin {waits : PortId → Bool} {last p : PortId} (hp : waits p = true)
    (hnearest : ∀ q, waits q = true → ringDistance last p ≤ ringDistance last q) :
    (roundRobin last).find? waits = some p := by
  rw [List.find?_eq_some_iff_append]
  refine ⟨hp, _, _, roundRobin_split last p, fun q hq => ?_⟩
  rw [Bool.not_eq_true', ← Bool.not_eq_true]
  exact fun hw => Nat.not_lt.2 (hnearest q hw) (ringDistance_lt last p q hq)

theorem headWaits_iff (s : State) (q : PortId) :
    headWaits s q = true ↔ (portOf s q).rxBuffer ≠ [] ∧ freeReserved s q = none := by
  simp [headWaits]

theorem entryFree_eq_false (s : State) (id : Nat) : entryFree s id = false ↔ ∃ e ∈ s.table, e.id = id := by
  rw [← Bool.not_eq_true, entryFree_iff]; simp

/-- A grant dispatches the head frame of the port it finds. -/
theorem grant_due {s : State} {p : PortId} {id : Nat} {f : RxFrame} {rest : List RxFrame}
    (hid : freePooled s = some id) (hp : (roundRobin s.lastGranted).find? (headWaits s) = some p)
    (hrx : (portOf s p).rxBuffer = f :: rest) :
    grant s = dispatch (handlerOf (byteAt f.body 0)) p id f rest { s with lastGranted := p } := by
  simp only [grant, hid, hp, hrx]
  rfl

/-- Settles O14: the same dispatch by either way, the ring by its distances, and the free entries by the search. -/
theorem poolGrantServesTheRing : Obligations.PoolGrantServesTheRing := by
  refine ⟨?_, ?_, fun s p => ⟨fun id hid => freeReserved_some hid, fun hnone => ?_⟩,
    fun s => ⟨fun id hid => freePooled_some hid, fun hnone id hlow hhigh => ?_⟩⟩
  · rintro s p id f rest ⟨hs, hrx, hid, hcheck⟩
    rw [exec_rowFor hs hrx hid, dispatch_of_passed hcheck]
  · rintro s u p id f rest hs hid hrx hres hnearest rfl
    have hp : (roundRobin s.lastGranted).find? (headWaits s) = some p :=
      find_roundRobin ((headWaits_iff s p).2 ⟨by simp [hrx], hres⟩) fun q hq =>
        hnearest q ((headWaits_iff s q).1 hq).1 ((headWaits_iff s q).1 hq).2
    have granted : exec .poolGrant s =
        .next (settle (dispatch (handlerOf (byteAt f.body 0)) p id f rest { s with lastGranted := p })) := by
      rw [exec, execPoolGrant, whileRunning_out _ _ hs, grant_due hid hp hrx]
    rw [granted]
    exact ⟨fun hcheck => by rw [dispatch_of_passed hcheck], fun code hcode => by rw [dispatch_of_refused hcode]⟩
  · simp only [freeReserved, List.find?_eq_none, List.mem_cons, List.not_mem_nil, or_false, forall_eq_or_imp,
      forall_eq, Bool.not_eq_true, entryFree_eq_false] at hnone
    exact hnone
  · simp only [freePooled, List.find?_eq_none, Bool.not_eq_true, entryFree_eq_false] at hnone
    refine hnone id ?_
    rw [Config.tableSize, Config.firstPooled, List.mem_iff_getElem]
    exact ⟨id - 8, by simp; omega, by simp; omega⟩

end Sys2Proof.Machine

/-! SUPPORT. Bytes: a 16-bit field read back, and the bodies of requests. O16 is settled here. -/

namespace Sys2Proof.Machine

/-! ### Fields -/

theorem halfOf_toNat (hi lo : Byte) : (halfOf hi lo).toNat = 256 * hi.toNat + lo.toNat := by
  have hlo := lo.isLt
  have hhi := hi.isLt
  have hshift : (hi.setWidth 16 <<< 8).toNat = hi.toNat <<< 8 := by
    simp only [BitVec.toNat_shiftLeft, BitVec.toNat_setWidth, Nat.shiftLeft_eq]
    omega
  rw [halfOf, BitVec.toNat_or, hshift, BitVec.toNat_setWidth, Nat.mod_eq_of_lt (by omega),
    ← Nat.shiftLeft_add_eq_or_of_lt hlo, Nat.shiftLeft_eq]
  omega

/-- A 16-bit field is the field of its two bytes. -/
theorem halfOf_halfBytes (h : Half) : halfOf ((h >>> 8).setWidth 8) (h.setWidth 8) = h := by
  have hlt := h.isLt
  refine BitVec.eq_of_toNat_eq ?_
  simp only [halfOf_toNat, BitVec.toNat_setWidth, BitVec.toNat_ushiftRight, Nat.shiftRight_eq_div_pow]
  omega

theorem halfAt_two (x y : Byte) (h : Half) (l : List Byte) : halfAt (x :: y :: (halfBytes h ++ l)) 2 = h :=
  halfOf_halfBytes h

theorem halfAt_four (x y : Byte) (g h : Half) (l : List Byte) :
    halfAt (x :: y :: (halfBytes g ++ (halfBytes h ++ l))) 4 = h := halfOf_halfBytes h

theorem toNat_ofNat_half {n : Nat} (h : n < 65536) : (BitVec.ofNat 16 n).toNat = n := by
  rw [BitVec.toNat_ofNat, Nat.mod_eq_of_lt h]

theorem toNat_ofNat_byte {n : Nat} (h : n < 256) : (BitVec.ofNat 8 n).toNat = n := by
  rw [BitVec.toNat_ofNat, Nat.mod_eq_of_lt h]

/-! ### The body of a request -/

section
variable {kind tag : Byte} {a : Args}

theorem bodyOf_kind : byteAt (bodyOf kind tag a) 0 = kind := by
  rw [bodyOf, byteAt, List.cons_append, List.getD_cons_zero]

theorem bodyOf_write : bodyOf kindWrite tag a =
    kindWrite :: tag :: (natBytes a.record ++ (BitVec.ofNat 8 a.payload.length :: a.payload)) := by
  simp [bodyOf]

theorem bodyOf_writeIf : bodyOf kindWriteIf tag a =
    kindWriteIf :: tag :: (natBytes a.record ++ (halfBytes a.expected ++
      (BitVec.ofNat 8 a.payload.length :: a.payload))) := by
  simp [bodyOf, kindWriteIf_ne_kindWrite]

theorem bodyOf_claim : bodyOf kindClaim tag a =
    kindClaim :: tag :: (natBytes a.record ++ (natBytes a.lease ++ [])) := by
  have hne : kindClaim ≠ kindWrite ∧ kindClaim ≠ kindWriteIf := by decide
  simp [bodyOf, hne]

/-- The record field follows the tag in every kind that carries one. -/
theorem bodyOf_record (h : carriesRecord kind = true) :
    ∃ l, bodyOf kind tag a = kind :: tag :: (natBytes a.record ++ l) := by
  by_cases hw : kind = kindWrite
  · subst hw; exact ⟨_, bodyOf_write⟩
  by_cases hi : kind = kindWriteIf
  · subst hi; exact ⟨_, bodyOf_writeIf⟩
  by_cases hc : kind = kindClaim
  · subst hc; exact ⟨_, bodyOf_claim⟩
  · exact ⟨[], by simp [bodyOf, hw, hi, hc, h]⟩

theorem length_bodyOf_other (hk : kind ∈ requestKinds) (hw : kind ≠ kindWrite) (hi : kind ≠ kindWriteIf) :
    (bodyOf kind tag a).length = shortestBody kind ∧ longestBody kind = shortestBody kind := by
  refine ⟨?_, by simp [longestBody, hw, hi]⟩
  fin_cases hk <;> first | rfl | exact absurd rfl hw | exact absurd rfl hi

/-- The record is read back (R170). -/
theorem record_bodyOf (fit : ArgsFit kind a) : (argsOf ⟨bodyOf kind tag a, a.overrun⟩).record = a.record := by
  have hrecord := fit.record
  rw [record_argsOf]
  simp only [bodyOf_kind]
  split at hrecord
  case isTrue hc =>
    obtain ⟨l, hl⟩ := bodyOf_record (tag := tag) (a := a) hc
    rw [if_pos hc, hl, natBytes, halfAt_two, toNat_ofNat_half (by simp only [Config.records] at hrecord; omega)]
  case isFalse hc => rw [if_neg hc, hrecord]

theorem expected_bodyOf (fit : ArgsFit kind a) : (argsOf ⟨bodyOf kind tag a, a.overrun⟩).expected = a.expected := by
  simp only [argsOf, bodyKind_eq, bodyOf_kind]
  split
  case isTrue hi => subst hi; rw [bodyOf_writeIf, natBytes, halfAt_four]
  case isFalse hi => exact (fit.expected hi).symm

theorem payload_bodyOf (fit : ArgsFit kind a) : (argsOf ⟨bodyOf kind tag a, a.overrun⟩).payload = a.payload := by
  have hpayload := fit.payload
  simp only [argsOf, bodyKind_eq, bodyOf_kind]
  split
  case isTrue h =>
    obtain rfl | rfl := h
    · rw [bodyOf_write]; rfl
    · rw [bodyOf_writeIf]; rfl
  case isFalse h => rw [if_neg h] at hpayload; exact hpayload.symm

theorem lease_bodyOf (fit : ArgsFit kind a) : (argsOf ⟨bodyOf kind tag a, a.overrun⟩).lease = a.lease := by
  have hlease := fit.lease
  rw [lease_argsOf]
  simp only [bodyOf_kind]
  split at hlease
  case isTrue hc =>
    subst hc
    rw [if_pos rfl, bodyOf_claim, natBytes, natBytes, halfAt_four,
      toNat_ofNat_half (by simp only [Config.maxLease] at hlease; omega)]
  case isFalse hc => rw [if_neg hc, hlease]

theorem argsOf_bodyOf (fit : ArgsFit kind a) : argsOf ⟨bodyOf kind tag a, a.overrun⟩ = a := by
  have hrecord := record_bodyOf (tag := tag) fit
  have hexpected := expected_bodyOf (tag := tag) fit
  have hpayload := payload_bodyOf (tag := tag) fit
  have hlease := lease_bodyOf (tag := tag) fit
  obtain ⟨record, expected, payload, lease, overrun⟩ := a
  exact Args.mk.injEq .. ▸ ⟨hrecord, hexpected, hpayload, hlease, rfl⟩

/-- The length byte of a WRITE is that of its payload, and the body holds no more. -/
theorem write_bodyOf (h : a.payload.length ≤ 48) :
    (byteAt (bodyOf kindWrite tag a) 4).toNat = a.payload.length ∧
      (bodyOf kindWrite tag a).length = 5 + a.payload.length := by
  rw [bodyOf_write]
  refine ⟨toNat_ofNat_byte (by omega), ?_⟩
  simp [natBytes, halfBytes]
  omega

theorem writeIf_bodyOf (h : a.payload.length ≤ 48) :
    (byteAt (bodyOf kindWriteIf tag a) 6).toNat = a.payload.length ∧
      (bodyOf kindWriteIf tag a).length = 7 + a.payload.length := by
  rw [bodyOf_writeIf]
  refine ⟨toNat_ofNat_byte (by omega), ?_⟩
  simp [natBytes, halfBytes]
  omega

/-- The body of a request within range passes check 5 (R82). -/
theorem checkArgs_bodyOf (hk : kind ∈ requestKinds) (fit : ArgsFit kind a) :
    checkArgs ⟨bodyOf kind tag a, a.overrun⟩ = none := by
  have hpayload := fit.payload
  have hfits : shortestBody kind ≤ (bodyOf kind tag a).length ∧ (bodyOf kind tag a).length ≤ longestBody kind := by
    by_cases hw : kind = kindWrite
    · subst hw
      rw [if_pos (.inl rfl)] at hpayload
      rw [(write_bodyOf hpayload.2).2]
      simp only [Config.maxPayload, shortestBody, longestBody, if_true] at hpayload ⊢
      omega
    by_cases hi : kind = kindWriteIf
    · subst hi
      rw [if_pos (.inr rfl)] at hpayload
      rw [(writeIf_bodyOf hpayload.2).2]
      simp only [Config.maxPayload, shortestBody, longestBody, kindWriteIf_ne_kindWrite, if_true, if_false] at hpayload ⊢
      omega
    · obtain ⟨hlen, hlong⟩ := length_bodyOf_other (tag := tag) (a := a) hk hw hi
      omega
  have hlength : (!bodyLengthGood kind (bodyOf kind tag a).length) = false := by
    rw [Bool.not_eq_false', bodyLengthGood_iff hk]; exact hfits
  have hrecord : (carriesRecord kind && Config.records ≤ a.record) = false := by
    have hr := fit.record
    cases hc : carriesRecord kind with
    | false => rfl
    | true => rw [hc, if_pos rfl] at hr; simpa using hr
  have hlease : (kind == kindClaim && (a.lease == 0 || Config.maxLease < a.lease)) = false := by
    have hl := fit.lease
    by_cases hc : kind = kindClaim
    · rw [if_pos hc] at hl
      simp only [Bool.and_eq_false_iff, Bool.or_eq_false_iff, beq_eq_false_iff_ne, decide_eq_false_iff_not]
      exact .inr ⟨by omega, by omega⟩
    · simp [hc]
  have hbad : ((kind == kindWrite || kind == kindWriteIf) && payloadBad (bodyOf kind tag a)) = false := by
    by_cases hw : kind = kindWrite
    · subst hw
      rw [if_pos (.inl rfl)] at hpayload
      obtain ⟨hn, hlen⟩ := write_bodyOf (tag := tag) hpayload.2
      rw [Bool.and_eq_false_iff, ← Bool.not_eq_true (payloadBad _), payloadBad_write rfl]
      simp only [Config.maxPayload] at hpayload
      omega
    by_cases hi : kind = kindWriteIf
    · subst hi
      rw [if_pos (.inr rfl)] at hpayload
      obtain ⟨hn, hlen⟩ := writeIf_bodyOf (tag := tag) hpayload.2
      rw [Bool.and_eq_false_iff, ← Bool.not_eq_true (payloadBad _), payloadBad_writeIf rfl]
      simp only [Config.maxPayload] at hpayload
      omega
    · simp [hw, hi]
  simp only [checkArgs, argsOf_bodyOf fit, bodyKind_eq, bodyOf_kind, hlength, hrecord, hbad, hlease, Bool.false_eq_true,
    if_false]

end

/-- Settles O16: field by field, then the tests of check 5. -/
theorem requestBodiesRoundTrip : Obligations.RequestBodiesRoundTrip := fun _ _ _ hk fit =>
  ⟨rfl, rfl, argsOf_bodyOf fit, checkArgs_bodyOf hk fit⟩

end Sys2Proof.Machine

/-! SUPPORT. Answers, notices, and changes: placing, acceptance, waiting, FLUSH. -/

namespace Sys2Proof.Machine

/-! ### Answers and notices -/

theorem TableGood.eq_of_id {s : State} (h : TableGood s) {d e : Entry} (hd : d ∈ s.table) (he : e ∈ s.table)
    (hid : d.id = e.id) : d = e := List.inj_on_of_nodup_map h.1 hd he hid

/-- Settles O15, by whether a response slot is free. -/
theorem answersAndNoticesArePlaced : Obligations.AnswersAndNoticesArePlaced := by
  refine ⟨?_, fun s p n => ⟨fun h => if_neg h, fun h => if_pos h⟩, fun x n => ⟨fun h => if_pos h, fun h => ?_⟩⟩
  · rintro s t id e a hgood he rfl
    obtain ⟨hmem, hid⟩ := entryOf_some he
    refine ⟨fun hfree => ?_, fun hfull => ?_, eq_of_lessTraffic (answer_frame id a s), fun q hq => ?_⟩
    · rw [answer_of_canPlace a he ((canPlace_iff _).2 hfree)]
      exact ⟨by rw [freeEntry_portOf, portOf_updPort_same]; rfl, rfl⟩
    · have hc : canPlace (portOf s e.port) = false := by
        rw [← Bool.not_eq_true, canPlace_iff, not_and, Nat.not_lt]
        exact fun hheld => hfull.resolve_left (not_not.2 hheld)
      rw [answer_of_not_canPlace a he hc]
      refine ⟨by rw [updEntry_portOf, portOf_updPort_same], List.map_congr_left fun d hd => ?_⟩
      by_cases hde : d.id = id
      · rw [hgood.eq_of_id hd hmem (hde.trans hid.symm)]
      · rw [if_neg hde, if_neg hde]
    · cases hc : canPlace (portOf s e.port) with
      | true => rw [answer_of_canPlace a he hc, freeEntry_portOf, portOf_updPort_other _ _ _ _ hq]
      | false => rw [answer_of_not_canPlace a he hc, updEntry_portOf, portOf_updPort_other _ _ _ _ hq]
  · exact if_neg (Nat.not_lt.2 h)

/-- A port to which a notice is produced: one without a session is passed over (R110). -/
def told (n : Notice) (x : Port) : Port := if x.session = .session then offerNotice n x else x

theorem portOf_notify (n : Notice) (p : PortId) (s : State) (q : PortId) :
    portOf (notify n p s) q = if q = p then told n (portOf s p) else portOf s q := by
  unfold notify told
  split
  · exact portOf_updPort ..
  · split
    case isTrue hq => rw [hq]
    case isFalse => rfl

/-- What is done for each port in turn to that port alone, by a rule that a law of the rest of the part gives. -/
theorem portOf_forPorts {f : PortId → State → State} {g : PortId → Port → Port} {I : State → Prop}
    (hkeep : ∀ p s, I s → I (f p s))
    (hf : ∀ p s, I s → ∀ q, portOf (f p s) q = if q = p then g p (portOf s p) else portOf s q)
    {s : State} (hs : I s) (q : PortId) : portOf (forPorts f s) q = g q (portOf s q) := by
  have h0 := hkeep .p0 s hs
  have h1 := hkeep .p1 _ h0
  have h2 := hkeep .p2 _ h1
  rw [forPorts, hf _ _ h2, hf _ _ h1, hf _ _ h0, hf _ _ hs, hf _ _ h1, hf _ _ h0, hf _ _ hs]
  cases q <;> simp [hf _ _ h0, hf _ _ hs]

/-- A notice to each port that watches the record and meets a further test, or meets another (R111, R112). -/
theorem portOf_forPorts_notify {offered : Bool → PortId → Bool} (r : Nat) (n : Notice) (s : State) (q : PortId) :
    portOf (forPorts (fun q s => if offered (isWatching s r q) q then notify n q s else s) s) q =
      if offered (isWatching s r q) q then told n (portOf s q) else portOf s q := by
  refine portOf_forPorts (g := fun q x => if offered (isWatching s r q) q then told n x else x)
    (I := fun u => u.watches = s.watches) (fun p u hu => ?_) (fun p u hu q => ?_) rfl q
  · split
    · rw [notify_watches, hu]
    · exact hu
  · have hw : isWatching u r p = isWatching s r p := by simp only [isWatching, hu]
    simp only [hw]
    split
    · exact portOf_notify ..
    · split
      case isTrue hq => rw [hq]
      case isFalse => rfl

/-! ### Changes -/

theorem portOf_reportChange (p : PortId) (r : Nat) (v : Half) (kind : ChangeKind) (s : State) (q : PortId) :
    portOf (reportChange p r v kind s) q =
      if (⟨r, q⟩ : Watch) ∈ s.watches ∧ q ≠ p ∧ (portOf s q).session = .session then
        offerNotice (.changed r v p kind) (portOf s q)
      else portOf s q := by
  refine (portOf_forPorts_notify (offered := fun w q => w && q != p) r _ s q).trans ?_
  simp only [Bool.and_eq_true, isWatching_iff, bne_iff_ne, told]
  by_cases hw : (⟨r, q⟩ : Watch) ∈ s.watches <;> by_cases hq : q = p <;> simp [hw, hq]

theorem portOf_reportFault (r : Nat) (v : Half) (origins : PortSet) (s : State) (q : PortId) :
    portOf (reportFault r v origins s) q =
      if ((⟨r, q⟩ : Watch) ∈ s.watches ∨ inPorts origins q = true) ∧ (portOf s q).session = .session then
        offerNotice (.fault r v) (portOf s q)
      else portOf s q := by
  refine (portOf_forPorts_notify (offered := fun w q => w || inPorts origins q) r _ s q).trans ?_
  simp only [Bool.or_eq_true, isWatching_iff, told]
  by_cases hw : (⟨r, q⟩ : Watch) ∈ s.watches ∨ inPorts origins q = true <;> simp [hw]

theorem portOf_announce (s : State) (q : PortId) :
    portOf (announce s) q = told (.power s.partState) (portOf s q) := by
  refine portOf_forPorts (g := fun _ => told (.power s.partState)) (I := fun u => u.partState = s.partState)
    (fun p u hu => ?_) (fun p u hu q => ?_) rfl q
  · rw [notify_partState, hu]
  · rw [hu]; exact portOf_notify ..

section
variable {s : State} {p : PortId} {r : Nat} {expected : Option Half}

theorem otherHolder_none (hc : ∀ c, claimOf s r = some c → c.holder = p) : otherHolder s p r = none := by
  unfold otherHolder
  split
  · rename_i c h; exact if_pos (hc c h)
  · rfl

/-- A decision past the claim, the row and the expected version: by the PENDING entry and the room of the queue. -/
theorem acceptance_of_run (hp : s.partState = .run) (hc : ∀ c, claimOf s r = some c → c.holder = p)
    (hrow : (rowOf s r).state ≠ .faulted) (hv : ∀ v, expected = some v → v = visibleVersion s r) :
    acceptance s p r expected = if (pendingEntry s r).isSome then .merge
      else if s.queue.length < Config.queueSize then .append else .wait := by
  have hexpected : ¬expected.any (fun v => v != visibleVersion s r) = true := by
    cases expected with
    | none => simp
    | some v => simp [hv v rfl]
  simp only [acceptance, hp, otherHolder_none hc, hrow, hexpected, ne_eq, not_true_eq_false, if_false]
  rfl

section
variable (hp : s.partState = .run) (hc : ∀ c, claimOf s r = some c → c.holder = p)
  (hrow : (rowOf s r).state ≠ .faulted) (hv : ∀ v, expected = some v → v = visibleVersion s r)
include hp hc hrow hv

theorem acceptance_merge (hm : pendingEntry s r ≠ none) : acceptance s p r expected = .merge :=
  (acceptance_of_run hp hc hrow hv).trans (if_pos (Option.isSome_iff_ne_none.2 hm))

theorem acceptance_append (hn : pendingEntry s r = none) (hq : s.queue.length < Config.queueSize) :
    acceptance s p r expected = .append :=
  (acceptance_of_run hp hc hrow hv).trans ((if_neg (by simp [hn])).trans (if_pos hq))

theorem acceptance_wait (hn : pendingEntry s r = none) (hq : Config.queueSize ≤ s.queue.length) :
    acceptance s p r expected = .wait :=
  (acceptance_of_run hp hc hrow hv).trans ((if_neg (by simp [hn])).trans (if_neg (Nat.not_lt.2 hq)))

end

theorem acceptance_not_run (hp : s.partState ≠ .run) :
    acceptance s p r expected = .refused (notRunCode s.partState) := if_pos hp

theorem acceptance_claimed {c : Claim} (hp : s.partState = .run) (hc : claimOf s r = some c) (hh : c.holder ≠ p) :
    acceptance s p r expected = .refused (.claimed c.holder) := by
  simp [acceptance, hp, otherHolder, hc, hh]

theorem acceptance_faulted (hp : s.partState = .run) (hc : ∀ c, claimOf s r = some c → c.holder = p)
    (hrow : (rowOf s r).state = .faulted) : acceptance s p r expected = .refused .faulted := by
  simp [acceptance, hp, otherHolder_none hc, hrow]

theorem acceptance_mismatch {v : Half} (hp : s.partState = .run) (hc : ∀ c, claimOf s r = some c → c.holder = p)
    (hrow : (rowOf s r).state ≠ .faulted) (hv : v ≠ visibleVersion s r) :
    acceptance s p r (some v) = .refused (.versionMismatch (visibleVersion s r)) := by
  simp [acceptance, hp, otherHolder_none hc, hrow, hv]

end

/-- The change of an entry taken: ERASE, or WRITE with what follows the length byte (R19, R170). -/
theorem changeOf_newEntry (p : PortId) (id : Nat) {f : RxFrame} {kind : Byte} (hk : byteAt f.body 0 = kind) :
    (kind = kindWrite → changeOf (newEntry id p f) = .write (f.body.drop 5)) ∧
      (kind = kindWriteIf → changeOf (newEntry id p f) = .write (f.body.drop 7)) ∧
      (kind = kindErase → changeOf (newEntry id p f) = .erase) := by
  have hkind : (newEntry id p f).kind = kind := hk
  have hne : kindWrite ≠ kindErase ∧ kindWriteIf ≠ kindErase := by decide
  refine ⟨?_, ?_, ?_⟩ <;> rintro rfl
  · simp [changeOf, hne, newEntry, argsOf, bodyKind_eq, hk, payloadLengthAt, kindWriteIf_ne_kindWrite.symm]
  · simp [changeOf, hne, newEntry, argsOf, bodyKind_eq, hk, payloadLengthAt]
  · simp [changeOf, hkind]

/-- The version that an entry taken expects: that of a WRITE_IF alone (R20). -/
theorem expectedOf_newEntry (p : PortId) (id : Nat) {f : RxFrame} {kind : Byte} (hk : byteAt f.body 0 = kind) :
    expectedOf (newEntry id p f) = if kind = kindWriteIf then some (halfAt f.body 4) else none := by
  have hkind : (newEntry id p f).kind = kind := hk
  simp only [expectedOf, hkind]
  split
  case isTrue h => subst h; simp [newEntry, argsOf, bodyKind_eq, hk]
  case isFalse => rfl

section
variable {e : Entry} {s : State}

theorem settleChange_merge : settleChange e .merge s =
    reportChange e.port e.args.record (nextVersion (visibleVersion s e.args.record)) (kindOf (changeOf e))
      (answer e.id (.accepted e.args.record (nextVersion (visibleVersion s e.args.record)) true)
        (modeAfterAcceptance { s with
          queue := mergeChange e.port e.args.record (changeOf e) (nextVersion (visibleVersion s e.args.record))
            s.queue })) := rfl

theorem settleChange_append : settleChange e .append s =
    reportChange e.port e.args.record (nextVersion (visibleVersion s e.args.record)) (kindOf (changeOf e))
      (answer e.id (.accepted e.args.record (nextVersion (visibleVersion s e.args.record)) false)
        (modeAfterAcceptance { s with queue := s.queue ++
          [freshEntry e.port e.args.record (changeOf e) (nextVersion (visibleVersion s e.args.record))] })) := rfl

theorem handleChange_waits (h : hasWaiter s e.port = true ∨ decisionOf e s = .wait) :
    handleChange e s = joinWaiters e s := by
  unfold handleChange
  split
  · rfl
  · rename_i hw; exact if_pos (h.resolve_left hw)

theorem handleChange_decided {d : Decision} (hw : hasWaiter s e.port = false) (hd : decisionOf e s = d)
    (hwait : d ≠ .wait) : handleChange e s = settleChange e d s := by
  subst hd; simp [handleChange, hw, hwait]

end

section
variable {s : State} {p : PortId} {id : Nat} {f : RxFrame} {rest : List RxFrame} {c : Instr} {kind : Byte}

/-- The three change commands hand the entry taken to the block (R85). -/
theorem change_next (h : Passes s p id f rest) (hk : byteAt f.body 0 = kind)
    (hc : c = .write p ∧ kind = kindWrite ∨ c = .writeIf p ∧ kind = kindWriteIf ∨ c = .erase p ∧ kind = kindErase) :
    exec c s = .next (settle (handleChange (newEntry id p f) (takeFrame p id f rest s))) := by
  obtain ⟨rfl, rfl⟩ | ⟨rfl, rfl⟩ | ⟨rfl, rfl⟩ := hc <;> exact request_next handleChange h hk

/-- A decided change of the entry taken. -/
theorem change_decided {d : Decision} (h : Passes s p id f rest) (hk : byteAt f.body 0 = kind)
    (hc : c = .write p ∧ kind = kindWrite ∨ c = .writeIf p ∧ kind = kindWriteIf ∨ c = .erase p ∧ kind = kindErase)
    (hw : hasWaiter (takeFrame p id f rest s) p = false)
    (hd : acceptance s p (recordOf f) (if kind = kindWriteIf then some (halfAt f.body 4) else none) = d)
    (hwait : d ≠ .wait) :
    exec c s = .next (settle (settleChange (newEntry id p f) d (takeFrame p id f rest s))) := by
  rw [change_next h hk hc, handleChange_decided (e := newEntry id p f) hw _ hwait]
  rw [← hd, decisionOf, expectedOf_newEntry p id hk]
  rfl

/-- The change that the premises of an acceptance name, and the version they expect. -/
theorem accepted_of_kind {change : Change} (hk : byteAt f.body 0 = kind)
    (hc : c = .write p ∧ kind = kindWrite ∧ change = .write (f.body.drop 5) ∨
      c = .writeIf p ∧ kind = kindWriteIf ∧ change = .write (f.body.drop 7) ∧
        halfAt f.body 4 = visibleVersion s (recordOf f) ∨
      c = .erase p ∧ kind = kindErase ∧ change = .erase) :
    (c = .write p ∧ kind = kindWrite ∨ c = .writeIf p ∧ kind = kindWriteIf ∨ c = .erase p ∧ kind = kindErase) ∧
      changeOf (newEntry id p f) = change ∧
      ∀ v, (if kind = kindWriteIf then some (halfAt f.body 4) else none) = some v →
        v = visibleVersion s (recordOf f) := by
  obtain ⟨hwrite, hwriteIf, herase⟩ := changeOf_newEntry p id hk
  obtain ⟨rfl, rfl, rfl⟩ | ⟨rfl, rfl, rfl, hv⟩ | ⟨rfl, rfl, rfl⟩ := hc
  · refine ⟨.inl ⟨rfl, rfl⟩, hwrite rfl, fun v hv => ?_⟩
    rw [if_neg kindWriteIf_ne_kindWrite.symm] at hv; cases hv
  · refine ⟨.inr (.inl ⟨rfl, rfl⟩), hwriteIf rfl, fun v hv' => ?_⟩
    rw [if_pos rfl] at hv'; cases hv'; exact hv
  · refine ⟨.inr (.inr ⟨rfl, rfl⟩), herase rfl, fun v hv => ?_⟩
    rw [if_neg (by decide)] at hv; cases hv

end

/-- Settles O19: the decision of R20, then what an acceptance does. -/
theorem changeIsAccepted : Obligations.ChangeIsAccepted := by
  refine ⟨?_, fun s => rfl, ?_⟩
  · rintro s u p id f rest c kind change v h hk hc rfl hp hw hclaim hrow rfl
    obtain ⟨hrequest, rfl, hversion⟩ := accepted_of_kind (id := id) hk hc
    refine ⟨fun hpending => ?_, fun hpending hroom => ?_⟩
    · rw [change_decided h hk hrequest hw (acceptance_merge hp hclaim hrow hversion hpending) (by simp),
        settleChange_merge, visibleVersion_takeFrame]
      rfl
    · rw [change_decided h hk hrequest hw (acceptance_append hp hclaim hrow hversion hpending hroom) (by simp),
        settleChange_append, visibleVersion_takeFrame]
      rfl
  · rintro s t p r v kind rfl
    exact ⟨eq_of_lessPorts (reportChange_frame p r v kind s), portOf_reportChange p r v kind s⟩

end Sys2Proof.Machine

/-! SUPPORT. The space-waiter list: changes that are refused or wait, and the retry pass. O21 is settled here. -/

namespace Sys2Proof.Machine

/-! ### Entries that an answer leaves -/

theorem entryOf_freeEntry_other {id j : Nat} (h : j ≠ id) (s : State) : entryOf (freeEntry id s) j = entryOf s j := by
  simp only [entryOf, freeEntry, List.find?_filter]
  congr 1
  funext e
  by_cases he : e.id = j
  · simp [he, h]
  · simp [he]

theorem entryOf_updEntry_other {id j : Nat} {g : Entry → Entry} (hg : ∀ e, (g e).id = e.id) (h : j ≠ id) (s : State) :
    entryOf (updEntry id g s) j = entryOf s j := by
  simp only [entryOf, updEntry, List.find?_map]
  have hpred : ((fun e : Entry => e.id == j) ∘ fun e => if e.id = id then g e else e) = fun e => e.id == j := by
    funext e
    simp only [Function.comp_apply]
    split <;> simp [hg]
  rw [hpred]
  cases hf : s.table.find? (fun e => e.id == j) with
  | none => rfl
  | some e =>
    have he : e.id = j := by simpa using List.find?_some hf
    simp [he, h]

theorem entryOf_answer_other {id j : Nat} (a : Answer) (h : j ≠ id) (s : State) :
    entryOf (answer id a s) j = entryOf s j := by
  cases he : entryOf s id with
  | none => rw [answer_of_free a he]
  | some e =>
    cases hc : canPlace (portOf s e.port) with
    | true => rw [answer_of_canPlace a he hc, entryOf_freeEntry_other h]; rfl
    | false =>
      rw [answer_of_not_canPlace a he hc]
      exact entryOf_updEntry_other (g := fun x => { x with state := .dispatched, response := some ⟨x.tag, a⟩ })
        (fun _ => rfl) h _

theorem entryOf_congr {s t : State} (h : t.table = s.table) (id : Nat) : entryOf t id = entryOf s id := by
  simp only [entryOf, h]

theorem entryOf_acceptChange_other {e : Entry} {j : Nat} (coalesced : Bool) (h : j ≠ e.id) (s : State) :
    entryOf (acceptChange e coalesced s) j = entryOf s j := by
  unfold acceptChange
  dsimp only
  rw [entryOf_congr (table_of_lessPorts (reportChange_frame _ _ _ _ _)), entryOf_answer_other _ h]
  exact entryOf_congr (by simp [placeChange]) j

theorem entryOf_settleChange_other {e : Entry} {j : Nat} (d : Decision) (h : j ≠ e.id) (s : State) :
    entryOf (settleChange e d s) j = entryOf s j := by
  cases d with
  | refused code => exact entryOf_answer_other _ h s
  | merge => exact entryOf_acceptChange_other _ h s
  | append => exact entryOf_acceptChange_other _ h s
  | wait => rfl

/-! ### What a decided change does to the queue -/

theorem modeAfterAcceptance_eq (s : State) : ∃ m, modeAfterAcceptance s = { s with mode := m } := by
  unfold modeAfterAcceptance
  split
  · exact ⟨_, rfl⟩
  · exact ⟨s.mode, rfl⟩

theorem modeAfterRemoval_eq (s : State) : ∃ m, modeAfterRemoval s = { s with mode := m } := by
  unfold modeAfterRemoval
  split
  · exact ⟨_, rfl⟩
  · exact ⟨s.mode, rfl⟩

section
variable (s : State)

@[simp] theorem modeAfterAcceptance_queue : (modeAfterAcceptance s).queue = s.queue := by
  obtain ⟨m, e⟩ := modeAfterAcceptance_eq s; rw [e]
@[simp] theorem modeAfterAcceptance_spaceWait : (modeAfterAcceptance s).spaceWait = s.spaceWait := by
  obtain ⟨m, e⟩ := modeAfterAcceptance_eq s; rw [e]
@[simp] theorem modeAfterRemoval_queue : (modeAfterRemoval s).queue = s.queue := by
  obtain ⟨m, e⟩ := modeAfterRemoval_eq s; rw [e]
@[simp] theorem modeAfterRemoval_spaceWait : (modeAfterRemoval s).spaceWait = s.spaceWait := by
  obtain ⟨m, e⟩ := modeAfterRemoval_eq s; rw [e]

end

/-- The queue after an acceptance: the PENDING entry merged, or a new entry at the back (R24, R25). -/
theorem acceptChange_queue (e : Entry) (coalesced : Bool) (s : State) :
    (acceptChange e coalesced s).queue =
      if coalesced then
        mergeChange e.port e.args.record (changeOf e) (nextVersion (visibleVersion s e.args.record)) s.queue
      else
        s.queue ++ [freshEntry e.port e.args.record (changeOf e) (nextVersion (visibleVersion s e.args.record))] := by
  simp [acceptChange, placeChange]

@[simp] theorem acceptChange_spaceWait (e : Entry) (coalesced : Bool) (s : State) :
    (acceptChange e coalesced s).spaceWait = s.spaceWait := by
  simp [acceptChange, placeChange]

@[simp] theorem settleChange_spaceWait (e : Entry) (d : Decision) (s : State) :
    (settleChange e d s).spaceWait = s.spaceWait := by
  cases d with
  | refused code => exact spaceWait_of_lessTraffic (refuse_frame _ _ _)
  | merge => exact acceptChange_spaceWait _ _ _
  | append => exact acceptChange_spaceWait _ _ _
  | wait => rfl

@[simp] theorem mergeChange_length (p : PortId) (r : Nat) (change : Change) (v : Half) (q : List QueueEntry) :
    (mergeChange p r change v q).length = q.length := List.length_map _

/-- A merge changes neither the record nor the phase of any entry. -/
theorem find_mergeChange {test : QueueEntry → Bool} (p : PortId) (r : Nat) (change : Change) (v : Half)
    (q : List QueueEntry) (h : ∀ x y : QueueEntry, y.record = x.record → y.phase = x.phase → test y = test x) :
    (mergeChange p r change v q).find? test = (q.find? test).map (fun e =>
      if e.record = r ∧ e.phase = .pending then
        { e with change := change, version := v, origins := addPort e.origins p }
      else e) := by
  rw [mergeChange, List.find?_map]
  congr 2
  funext e
  refine h e _ ?_ ?_ <;> simp only [] <;> split <;> rfl

/-! ### Waiting for space -/

/-- What keeps a change waiting for space, the expected version apart (R20). -/
structure FullFor (s : State) (e : Entry) : Prop where
  run     : s.partState = .run
  claim   : ∀ c, claimOf s e.args.record = some c → c.holder = e.port
  row     : (rowOf s e.args.record).state ≠ .faulted
  pending : pendingEntry s e.args.record = none
  full    : Config.queueSize ≤ s.queue.length

theorem FullFor.of_wait {s : State} {e : Entry} (h : decisionOf e s = .wait) : FullFor s e := by
  obtain ⟨-, d⟩ | ⟨hp, ⟨c, -, -, d⟩ | ⟨hc, ⟨-, d⟩ | ⟨hrow, ⟨v, -, -, d⟩ | ⟨-, ⟨-, d⟩ | ⟨hn, ⟨-, d⟩ | ⟨hq, -⟩⟩⟩⟩⟩⟩ :=
    acceptance_cases s e.port e.args.record (expectedOf e)
  case inr.inr.inr.inr.inr.inr => exact ⟨hp, hc, hrow, hn, hq⟩
  all_goals exact absurd (d.symm.trans h) (by simp)

theorem room_of_append {s : State} {x : Entry} (h : decisionOf x s = .append) :
    s.queue.length < Config.queueSize := by
  obtain ⟨-, d⟩ | ⟨-, ⟨c, -, -, d⟩ | ⟨-, ⟨-, d⟩ | ⟨-, ⟨v, -, -, d⟩ | ⟨-, ⟨-, d⟩ | ⟨-, ⟨hq, -⟩ | ⟨-, d⟩⟩⟩⟩⟩⟩ :=
    acceptance_cases s x.port x.args.record (expectedOf x)
  case inr.inr.inr.inr.inr.inl => exact hq
  all_goals exact absurd (d.symm.trans h) (by simp)

theorem FullFor.of_queue {s t : State} {e : Entry} (h : FullFor s e) (hrest : t.lessQueueing = s.lessQueueing)
    (hpending : pendingEntry t e.args.record = none) (hlength : t.queue.length = s.queue.length) : FullFor t e where
  run     := (partState_of_lessQueueing hrest).trans h.run
  claim   := by rw [claimOf, claims_of_lessQueueing hrest]; exact h.claim
  row     := by rw [rowOf, directory_of_lessQueueing hrest]; exact h.row
  pending := hpending
  full    := hlength ▸ h.full

/-- A decided change leaves a change that the full queue keeps waiting as it is: it can only merge. -/
theorem FullFor.settleChange {s : State} {e x : Entry} (h : FullFor s e) (id : Nat) :
    FullFor (settleChange x (decisionOf x s) (leaveWaiters id s)) e := by
  have hrest := settleChange_frame x (decisionOf x s) (leaveWaiters id s)
  cases hd : decisionOf x s with
  | refused code =>
    rw [hd] at hrest
    have hqueue : (Machine.settleChange x (.refused code) (leaveWaiters id s)).queue =
        (leaveWaiters id s).queue := queue_of_lessTraffic (refuse_frame _ _ _)
    exact h.of_queue hrest (by rw [pendingEntry, hqueue]; exact h.pending) (by rw [hqueue]; rfl)
  | merge =>
    rw [hd] at hrest
    have hqueue : (Machine.settleChange x .merge (leaveWaiters id s)).queue = _ := acceptChange_queue x true _
    refine h.of_queue hrest ?_ (by rw [hqueue, if_pos rfl, mergeChange_length]; rfl)
    have hnone : s.queue.find? (fun y => y.record == e.args.record && y.phase == .pending) = none := h.pending
    rw [pendingEntry, hqueue, if_pos rfl, find_mergeChange, leaveWaiters, hnone]
    · rfl
    · intro y z hrecord hphase; rw [hrecord, hphase]
  | append => exact absurd (room_of_append hd) (Nat.not_lt.2 h.full)
  | wait => exact h.of_queue rfl h.pending rfl

/-! ### The retry pass -/

theorem inPorts_addPort (ps : PortSet) (p q : PortId) :
    inPorts (addPort ps p) q = true ↔ q = p ∨ inPorts ps q = true := by
  cases p <;> cases q <;> simp [inPorts, addPort, putPort]

/-- The oldest waiter of each port among these numbers is one that the full queue keeps waiting. -/
def OldestFull (s : State) (ids : List Nat) : Prop :=
  ∀ older id newer e, ids = older ++ id :: newer → entryOf s id = some e →
    (∀ j ∈ older, ∀ d, entryOf s j = some d → d.port ≠ e.port) → FullFor s e

/-- The waiters passed so far and those still to come, with the ports that an earlier waiter blocks. -/
structure Walking (s : State) (passed later : List Nat) (blocked : PortSet) : Prop where
  list    : s.spaceWait = passed ++ later
  once    : (passed ++ later).Nodup
  blocked : ∀ q, inPorts blocked q = true ↔ ∃ j ∈ passed, ∃ d, entryOf s j = some d ∧ d.port = q
  oldest  : OldestFull s passed

/-- A waiter that is not the oldest of its port, or is kept waiting by the full queue, is passed. -/
theorem OldestFull.append {s : State} {passed : List Nat} (h : OldestFull s passed) {id : Nat}
    (hid : ∀ e, entryOf s id = some e →
      (∃ j ∈ passed, ∃ d, entryOf s j = some d ∧ d.port = e.port) ∨ FullFor s e) :
    OldestFull s (passed ++ [id]) := by
  intro older i newer e hsplit he holder
  obtain ⟨m, rfl, hm⟩ | ⟨m, rfl, hm⟩ := List.append_eq_append_iff.1 hsplit
  · cases m with
    | nil =>
      obtain ⟨rfl, -⟩ := List.cons_eq_cons.1 hm
      rw [List.append_nil] at holder
      obtain ⟨j, hj, d, hd, hport⟩ | hfull := hid e he
      · exact absurd hport (holder j hj d hd)
      · exact hfull
    | cons x m => simp at hm
  · cases m with
    | nil =>
      obtain ⟨rfl, -⟩ := List.cons_eq_cons.1 hm
      obtain ⟨j, hj, d, hd, hport⟩ | hfull := hid e he
      · exact absurd hport (holder j (by simpa using hj) d hd)
      · exact hfull
    | cons x m =>
      obtain ⟨rfl, rfl⟩ := List.cons_eq_cons.1 hm
      exact h older i m e rfl he holder

theorem retryWalk_oldestFull {later : List Nat} {s : State} {passed : List Nat} {blocked : PortSet}
    (h : Walking s passed later blocked) :
    OldestFull (retryWalk later blocked s) (retryWalk later blocked s).spaceWait := by
  induction later generalizing s passed blocked with
  | nil =>
    rw [retryWalk, h.list, List.append_nil]
    exact h.oldest
  | cons id later ih =>
    have hlist : s.spaceWait = (passed ++ [id]) ++ later := by rw [h.list, List.append_assoc]; rfl
    have honce : ((passed ++ [id]) ++ later).Nodup := by rw [List.append_assoc]; exact h.once
    rw [retryWalk]
    split
    case h_1 hnone =>
      refine ih ⟨hlist, honce, fun q => ?_, h.oldest.append fun e he => ?_⟩
      · rw [h.blocked]; simp [hnone, or_and_right, exists_or]
      · rw [hnone] at he; cases he
    case h_2 e he =>
      split
      case isTrue hb =>
        have hearlier := (h.blocked e.port).1 hb
        refine ih ⟨hlist, honce, fun q => ?_, h.oldest.append fun d hd => ?_⟩
        · rw [h.blocked]; simp only [List.mem_append, List.mem_singleton, or_and_right, exists_or]
          refine ⟨.inl, fun hq => hq.elim (fun x => x) ?_⟩
          rintro ⟨j, rfl, d, hd, rfl⟩
          rw [he] at hd; cases hd; exact hearlier
        · rw [he] at hd; cases hd; exact .inl hearlier
      case isFalse hb =>
        split
        case isTrue hwait =>
          refine ih ⟨hlist, honce, fun q => ?_, h.oldest.append fun d hd => ?_⟩
          · rw [inPorts_addPort, h.blocked]
            simp only [List.mem_append, List.mem_singleton, or_and_right, exists_or]
            refine or_comm.trans (or_congr_right ?_)
            constructor
            · rintro rfl; exact ⟨id, rfl, e, he, rfl⟩
            · rintro ⟨j, rfl, d, hd, rfl⟩; rw [he] at hd; cases hd; rfl
          · rw [he] at hd; cases hd; exact .inr (.of_wait hwait)
        case isFalse =>
          obtain ⟨-, hid⟩ := entryOf_some he
          have hnotin : id ∉ passed ∧ id ∉ later := by
            have := List.nodup_middle.1 h.once
            simpa using (List.nodup_cons.1 this).1
          have hother : ∀ j ∈ passed, entryOf (settleChange e (decisionOf e s) (leaveWaiters id s)) j = entryOf s j :=
            fun j hj => entryOf_settleChange_other _ (fun heq => hnotin.1 (by rw [← hid, ← heq]; exact hj)) _
          refine ih (passed := passed) ⟨?_, ?_, fun q => ?_, ?_⟩
          · rw [settleChange_spaceWait]
            show s.spaceWait.filter (fun j => j != id) = _
            rw [h.list, List.filter_append, List.filter_cons_of_neg (by simp)]
            congr 1 <;> refine List.filter_eq_self.2 fun j hj => ?_ <;> rw [bne_iff_ne] <;> rintro rfl
            · exact hnotin.1 hj
            · exact hnotin.2 hj
          · exact h.once.sublist (List.Sublist.append_left (List.sublist_cons_self _ _) _)
          · rw [h.blocked]
            exact exists_congr fun j => and_congr_right fun hj => by rw [hother j hj]
          · intro older i newer x hsplit hx holder
            have hin : ∀ j ∈ older ++ i :: newer, entryOf (settleChange e (decisionOf e s) (leaveWaiters id s)) j =
                entryOf s j := fun j hj => hother j (hsplit ▸ hj)
            rw [hin i (by simp)] at hx
            refine (h.oldest older i newer x hsplit hx fun j hj d hd => ?_).settleChange id
            exact holder j hj d (by rw [hin j (by simp [hj])]; exact hd)

/-- After the pass the oldest waiter of each port is one that the full queue keeps waiting (R36). -/
theorem retryPass_oldestFull {s : State} (h : s.spaceWait.Nodup) : OldestFull (retryPass s) (retryPass s).spaceWait := by
  refine retryWalk_oldestFull (passed := []) ⟨rfl, h, fun q => ?_, ?_⟩
  · cases q <;> simp [inPorts, noPorts]
  · intro older id newer e hsplit
    simp at hsplit

section
variable {s : State} {id : Nat} {later : List Nat} {blocked : PortSet} {e : Entry}

theorem retryWalk_blocked (he : entryOf s id = some e) (hb : inPorts blocked e.port = true) :
    retryWalk (id :: later) blocked s = retryWalk later blocked s := by
  simp [retryWalk, he, hb]

theorem retryWalk_decided {d : Decision} (he : entryOf s id = some e) (hb : inPorts blocked e.port = false)
    (hd : decisionOf e s = d) (hwait : d ≠ .wait) :
    retryWalk (id :: later) blocked s = retryWalk later blocked (settleChange e d (leaveWaiters id s)) := by
  subst hd; simp [retryWalk, he, hb, hwait]

theorem retryWalk_waits (he : entryOf s id = some e) (hb : inPorts blocked e.port = false)
    (hd : decisionOf e s = .wait) :
    retryWalk (id :: later) blocked s = retryWalk later (addPort blocked e.port) s := by
  simp [retryWalk, he, hb, hd]

end

@[simp] theorem visibleVersion_leaveWaiters (id : Nat) (s : State) (r : Nat) :
    visibleVersion (leaveWaiters id s) r = visibleVersion s r := rfl

/-- Settles O21: the refusals of R20 in order, the two ways of waiting, and the retry pass by its walk. -/
theorem changeIsRefusedOrWaits : Obligations.ChangeIsRefusedOrWaits := by
  refine ⟨?_, ?_, fun s => rfl, fun s blocked => rfl, ?_, ?_⟩
  · rintro s u p id f rest c kind h hk hc rfl hw
    have refused : ∀ code, acceptance s p (recordOf f) (if kind = kindWriteIf then some (halfAt f.body 4) else none) =
        .refused code → exec c s = .next (settle (answer id (.nak kind code) (takeFrame p id f rest s))) :=
      fun code hcode => by
        rw [change_decided h hk hc hw hcode (by simp), ← refuse_newEntry hk]; rfl
    refine ⟨fun hp => refused _ ?_, fun hp => refused _ ?_, fun claim hp hcl hh => refused _ ?_,
      fun hp hcl hrow => refused _ ?_, fun hp hcl hrow hkind hv => refused _ ?_⟩
    · rw [acceptance_not_run (by simp [hp]), hp]; rfl
    · rw [acceptance_not_run (by simp [hp]), hp]; rfl
    · exact acceptance_claimed hp hcl hh
    · exact acceptance_faulted hp hcl hrow
    · rw [if_pos hkind]; exact acceptance_mismatch hp hcl hrow hv
  · rintro s u p id f rest c h hc rfl hwaits
    obtain ⟨kind, hk, hc, hversion⟩ : ∃ kind, byteAt f.body 0 = kind ∧
        (c = .write p ∧ kind = kindWrite ∨ c = .writeIf p ∧ kind = kindWriteIf ∨ c = .erase p ∧ kind = kindErase) ∧
        (hasWaiter (takeFrame p id f rest s) p = true ∨
          ∀ v, (if kind = kindWriteIf then some (halfAt f.body 4) else none) = some v →
            v = visibleVersion s (recordOf f)) := by
      have hne : ¬kindWrite = kindWriteIf ∧ ¬kindErase = kindWriteIf := by decide
      obtain ⟨hc, hk⟩ | ⟨hc, hk, hv⟩ | ⟨hc, hk⟩ := hc
      · exact ⟨_, hk, .inl ⟨hc, rfl⟩, .inr (by simp [hne])⟩
      · exact ⟨_, hk, .inr (.inl ⟨hc, rfl⟩), hv.imp_right fun hv v h => by simpa [hv, eq_comm] using h⟩
      · exact ⟨_, hk, .inr (.inr ⟨hc, rfl⟩), .inr (by simp [hne])⟩
    have hwaits' : hasWaiter (takeFrame p id f rest s) p = true ∨
        decisionOf (newEntry id p f) (takeFrame p id f rest s) = .wait := by
      obtain hw | hv := hversion
      · exact .inl hw
      · refine hwaits.imp_right fun ⟨hp, hcl, hrow, hpending, hfull⟩ => ?_
        rw [decisionOf, expectedOf_newEntry p id hk]
        exact acceptance_wait (s := takeFrame p id f rest s) hp hcl hrow hv hpending hfull
    rw [change_next h hk hc, handleChange_waits (e := newEntry id p f) hwaits']
    refine congrArg (fun x => Host.Outcome.next (settle x)) ?_
    exact congrArg (fun x : State => { x with spaceWait := s.spaceWait ++ [id] })
      (updEntry_takeFrame (fun x => { x with state := .waitSpace }) h.free)
  · rintro s w id r later blocked e v change he rfl rfl rfl rfl
    obtain ⟨-, rfl⟩ := entryOf_some he
    refine ⟨fun hb => retryWalk_blocked he hb, fun hb hp => ⟨fun c hc hh => ?_, fun hcl => ⟨fun hrow => ?_,
      fun hrow hkind hv => ?_, fun hrow hv => ?_⟩⟩⟩
    · exact retryWalk_decided he hb (acceptance_claimed hp hc hh) (by simp)
    · exact retryWalk_decided he hb (acceptance_faulted hp hcl hrow) (by simp)
    · refine retryWalk_decided (d := .refused _) he hb ?_ (by simp)
      rw [decisionOf, expectedOf, if_pos hkind]
      exact acceptance_mismatch hp hcl hrow hv
    · have hexpected : ∀ x, expectedOf e = some x → x = visibleVersion s e.args.record := by
        intro x hx
        rw [expectedOf] at hx
        split at hx
        case isTrue hkind => cases hx; exact hv hkind
        case isFalse => cases hx
      refine ⟨fun hn => ?_, fun hn hq => ?_, fun hn hq => ?_⟩
      · rw [retryWalk_decided he hb (acceptance_merge hp hcl hrow hexpected hn) (by simp), settleChange_merge,
          visibleVersion_leaveWaiters]
        rfl
      · rw [retryWalk_decided he hb (acceptance_append hp hcl hrow hexpected hn hq) (by simp), settleChange_append,
          visibleVersion_leaveWaiters]
        rfl
      · exact retryWalk_waits he hb (acceptance_wait hp hcl hrow hexpected hn hq)
  · rintro s t older newer id e hl rfl hsplit he holder
    have h := retryPass_oldestFull hl.spaceOnce older id newer e hsplit he holder
    exact ⟨h.run, h.claim, h.row, h.pending, h.full⟩

end Sys2Proof.Machine

/-! SUPPORT. The laws of the queue, what each operation does to a record's newest entry, and the visible version. -/

namespace Sys2Proof.Machine

/-! ### Kept by what happens to the queue -/

theorem QueueGood.of_queue {s t : State} (h : QueueGood s) (hq : t.queue = s.queue) : QueueGood t := by
  obtain ⟨bound, apart, entries⟩ := h
  exact ⟨by rwa [hq], by rwa [hq], by rwa [hq]⟩

/-- A queue whose entries are those of the first, in their order, with their records and phases. -/
theorem QueueGood.of_map {s t : State} {g : QueueEntry → QueueEntry} (h : QueueGood s) (hq : t.queue = s.queue.map g)
    (hrecord : ∀ e, (g e).record = e.record) (hphase : ∀ e, (g e).phase = e.phase)
    (hgood : ∀ e ∈ s.queue, EntryGood e → EntryGood (g e)) : QueueGood t where
  bound := by rw [hq, List.length_map]; exact h.bound
  apart := by
    rw [hq, List.pairwise_map]
    exact h.apart.imp fun hab => by simpa only [EntriesApart, hrecord, hphase] using hab
  entries := by
    rw [hq, List.forall_mem_map]
    exact fun e he => hgood e he (h.entries e he)

theorem QueueGood.of_sublist {s t : State} (h : QueueGood s) (hq : t.queue.Sublist s.queue) : QueueGood t :=
  ⟨hq.length_le.trans h.bound, h.apart.sublist hq, fun e he => h.entries e (hq.subset he)⟩

theorem addPort_ne_noPorts (ps : PortSet) (p : PortId) : addPort ps p ≠ noPorts := by
  intro h
  have := (inPorts_addPort ps p p).2 (.inl rfl)
  rw [h] at this
  cases p <;> cases this

theorem inPorts_dropPort (ps : PortSet) (p q : PortId) :
    inPorts (dropPort ps p) q = true ↔ q ≠ p ∧ inPorts ps q = true := by
  cases p <;> cases q <;> simp [inPorts, dropPort, putPort]

theorem not_inPorts_noPorts (p : PortId) : ¬inPorts noPorts p = true := by cases p <;> decide

theorem EntryGood.merged {e : QueueEntry} (h : EntryGood e) (p : PortId) (change : Change) {v : Half} (hv : v ≠ 0) :
    EntryGood { e with change := change, version := v, origins := addPort e.origins p } := by
  obtain ⟨-, -, hmarks, hpending, hprogramming⟩ := h
  exact ⟨hv, addPort_ne_noPorts _ _, fun q hq hm => (inPorts_addPort _ _ _).2 (.inr (hmarks q hq hm)), hpending,
    hprogramming⟩

theorem entryGood_fresh (p : PortId) (r : Nat) (change : Change) {v : Half} (hv : v ≠ 0) :
    EntryGood (freshEntry p r change v) :=
  ⟨hv, addPort_ne_noPorts _ _, fun q _ hm => absurd hm (not_inPorts_noPorts q), fun _ => ⟨rfl, rfl⟩, fun h => by cases h⟩

theorem QueueGood.merge {s t : State} (h : QueueGood s) {p : PortId} {r : Nat} {change : Change} {v : Half}
    (hv : v ≠ 0) (hq : t.queue = mergeChange p r change v s.queue) : QueueGood t := by
  refine h.of_map hq (fun e => by split <;> rfl) (fun e => by split <;> rfl) fun e _ he => ?_
  split
  · exact he.merged p change hv
  · exact he

theorem QueueGood.append {s t : State} (h : QueueGood s) {p : PortId} {r : Nat} {change : Change} {v : Half}
    (hv : v ≠ 0) (hn : pendingEntry s r = none) (hroom : s.queue.length < Config.queueSize)
    (hq : t.queue = s.queue ++ [freshEntry p r change v]) : QueueGood t where
  bound := by rw [hq, List.length_append]; exact hroom
  apart := by
    rw [hq, List.pairwise_append]
    refine ⟨h.apart, List.pairwise_singleton _ _, fun e he x hx => ?_⟩
    rw [List.mem_singleton.1 hx]
    refine ⟨fun ⟨hrecord, hphase⟩ => ?_, fun ⟨_, hphase⟩ => by cases hphase⟩
    rw [pendingEntry, List.find?_eq_none] at hn
    exact hn e he (by simp [hrecord, hphase, freshEntry])
  entries := by
    rw [hq]
    intro e he
    obtain he | he := List.mem_append.1 he
    · exact h.entries e he
    · rw [List.mem_singleton.1 he]; exact entryGood_fresh p r change hv

/-! ### The start of a program -/

/-- With none in PROGRAMMING the oldest PENDING entry is the first of the queue. -/
theorem queue_of_oldestPending {s : State} {e : QueueEntry} (hn : inProgramming s = none)
    (he : oldestPending s = some e) : ∃ l, s.queue = e :: l := by
  rw [oldestPending] at he
  cases hq : s.queue with
  | nil => rw [hq] at he; cases he
  | cons x l =>
    rw [inProgramming, hq, List.find?_eq_none] at hn
    have hx : x.phase = .pending := by
      cases hp : x.phase with
      | pending => rfl
      | programming => exact absurd (by simp [hp]) (hn x (by simp))
    rw [hq, List.find?_cons_of_pos (by simp [hx])] at he
    exact ⟨l, by rw [Option.some.inj he]⟩

/-- The entry as the start of its program leaves it (R63). -/
def started (location : Location) (e : QueueEntry) : QueueEntry :=
  { e with phase := .programming, attempts := 1, target := some location }

theorem startProgram_queue {s : State} {e : QueueEntry} {l : List QueueEntry} (he : oldestPending s = some e)
    (hq : s.queue = e :: l) :
    (startProgram s).queue = started (rowOf s e.record).location e :: l := by
  have hphase := (oldestPending_some he).2
  simp only [startProgram, he, hq, startFirst, hphase, if_true]
  rfl

theorem QueueGood.startProgram {s : State} (h : QueueGood s) {e : QueueEntry} (hn : inProgramming s = none)
    (he : oldestPending s = some e) : QueueGood (startProgram s) := by
  obtain ⟨l, hq⟩ := queue_of_oldestPending hn he
  have hstart := startProgram_queue he hq
  obtain ⟨bound, apart, entries⟩ := h
  rw [inProgramming, List.find?_eq_none] at hn
  rw [hq] at bound apart entries hn
  obtain ⟨happart, hl⟩ := List.pairwise_cons.1 apart
  have hpending : ∀ x ∈ e :: l, x.phase = .pending := fun x hx => by
    cases hp : x.phase with
    | pending => rfl
    | programming => exact absurd (by simp [hp]) (hn x hx)
  refine ⟨by rw [hstart]; exact bound, ?_, ?_⟩
  · rw [hstart]
    refine List.pairwise_cons.2 ⟨fun x hx => ?_, hl⟩
    have hp := hpending x (List.mem_cons_of_mem _ hx)
    have hne : Phase.programming ≠ x.phase := by rw [hp]; decide
    exact ⟨fun h => hne h.2, fun h => hne h.2.symm⟩
  · rw [hstart]
    intro x hx
    obtain rfl | hx := List.mem_cons.1 hx
    · obtain ⟨hversion, horigins, hmarks, -, -⟩ := entries e (List.mem_cons_self ..)
      exact ⟨hversion, horigins, hmarks, (fun h => by cases h), fun _ =>
        ⟨le_refl 1, show 1 ≤ Config.maxAttempts by decide, rfl⟩⟩
    · exact entries x (List.mem_cons_of_mem _ hx)

theorem QueueGood.choiceMove {s t : State} (h : QueueGood s) (hm : ChoiceMove s t) : QueueGood t := by
  cases hm with
  | readAnswered => exact h.of_queue (by simp)
  | programStarts hs he => exact h.startProgram hs.programming he
  | _ => exact h.of_queue rfl

theorem QueueGood.settle {s : State} (h : QueueGood s) : QueueGood (settle s) :=
  settle_keeps (fun _ _ hs hm => hs.choiceMove hm) h

/-! ### The newest entry of a record -/

/-- What the visible state takes from a queue entry (R12). -/
def QueueEntry.shown (e : QueueEntry) : Change × Half × PortSet := (e.change, e.version, e.origins)

/-- What the newest entry of a record shows, if it has one. -/
def newest (s : State) (r : Nat) : Option (Change × Half × PortSet) := (newestEntry s r).map QueueEntry.shown

theorem newest_congr {s t : State} (h : t.queue = s.queue) (r : Nat) : newest t r = newest s r := by
  simp only [newest, newestEntry, pendingEntry, programmingEntry, h]

theorem rowOf_congr {s t : State} (h : t.directory = s.directory) (r : Nat) : rowOf t r = rowOf s r := by
  simp only [rowOf, h]

theorem visibleVersion_of_some {s : State} {r : Nat} {x : Change × Half × PortSet} (h : newest s r = some x) :
    visibleVersion s r = x.2.1 := by
  obtain ⟨e, he, rfl⟩ := Option.map_eq_some_iff.1 h
  simp only [visibleVersion, he]
  rfl

theorem visibleVersion_of_none {s : State} {r : Nat} (h : newest s r = none) :
    visibleVersion s r = (rowOf s r).version := by
  simp only [visibleVersion, Option.map_eq_none_iff.1 h]

theorem visibleVersion_congr {s t : State} {r : Nat} (h : newest t r = newest s r)
    (hd : (rowOf t r).version = (rowOf s r).version) : visibleVersion t r = visibleVersion s r := by
  cases hn : newest s r with
  | none => rw [visibleVersion_of_none hn, visibleVersion_of_none (h.trans hn), hd]
  | some x => rw [visibleVersion_of_some hn, visibleVersion_of_some (h.trans hn)]

/-- Changing entries in what is not shown, their records and phases kept, leaves what each record shows. -/
theorem newest_map {s t : State} {g : QueueEntry → QueueEntry} (hq : t.queue = s.queue.map g)
    (hrecord : ∀ e, (g e).record = e.record) (hphase : ∀ e, (g e).phase = e.phase) (hshown : ∀ e, (g e).shown = e.shown)
    (r : Nat) : newest t r = newest s r := by
  have hfind : ∀ phase : Phase, t.queue.find? (fun e => e.record == r && e.phase == phase) =
      (s.queue.find? (fun e => e.record == r && e.phase == phase)).map g := fun phase => by
    rw [hq, List.find?_map]
    congr 2
    funext e
    simp [hrecord, hphase]
  have hshown' : QueueEntry.shown ∘ g = QueueEntry.shown := funext hshown
  simp only [newest, newestEntry, pendingEntry, programmingEntry, hfind, Option.map_or, Option.map_map, hshown']

/-- The start of a program leaves what each record shows. -/
theorem newest_startProgram {s : State} (h : QueueGood s) {e : QueueEntry} (hn : inProgramming s = none)
    (he : oldestPending s = some e) (r : Nat) : newest (startProgram s) r = newest s r := by
  obtain ⟨l, hq⟩ := queue_of_oldestPending hn he
  have hstart := startProgram_queue he hq
  have hphase := (oldestPending_some he).2
  have hapart := h.apart
  rw [inProgramming, List.find?_eq_none, hq] at hn
  rw [hq] at hapart
  have hnoProgramming : ∀ l' : List QueueEntry, (∀ x ∈ l', x ∈ e :: l) →
      l'.find? (fun x => x.record == r && x.phase == .programming) = none := fun l' hl' =>
    List.find?_eq_none.2 fun x hx hx' => hn x (hl' x hx) (Bool.and_eq_true_iff.1 hx').2
  have hphases : (Phase.programming == Phase.pending) = false := rfl
  simp only [newest, newestEntry, pendingEntry, programmingEntry, hstart, hq, List.find?_cons]
  by_cases hr : e.record = r
  · have hnoPending : l.find? (fun x => x.record == r && x.phase == .pending) = none :=
      List.find?_eq_none.2 fun x hx hx' => by
        obtain ⟨hrecord, hp⟩ := Bool.and_eq_true_iff.1 hx'
        exact ((List.pairwise_cons.1 hapart).1 x hx).1
          ⟨hr.trans (eq_of_beq hrecord).symm, hphase.trans (eq_of_beq hp).symm⟩
    simp [started, hr, hphase, hphases, hnoPending, QueueEntry.shown]
  · have := hnoProgramming l (fun x hx => List.mem_cons_of_mem _ hx)
    have hrecord : (e.record == r) = false := beq_eq_false_iff_ne.2 hr
    simp [started, hrecord, this]

theorem newest_settle {s : State} (h : QueueGood s) (r : Nat) : newest (settle s) r = newest s r := by
  refine (settle_keeps (P := fun t => QueueGood t ∧ newest t r = newest s r) ?_ ⟨h, rfl⟩).2
  rintro t u ⟨ht, hr⟩ hm
  refine ⟨ht.choiceMove hm, Eq.trans ?_ hr⟩
  cases hm with
  | readAnswered => exact newest_congr (by simp) r
  | programStarts hs he => exact newest_startProgram ht hs.programming he r
  | _ => exact newest_congr rfl r

theorem visibleVersion_settle {s : State} (h : QueueGood s) (r : Nat) :
    visibleVersion (settle s) r = visibleVersion s r :=
  visibleVersion_congr (newest_settle h r) (by rw [rowOf_congr (directory_of_lessChoice (settle_frame s))])

/-! ### Acceptance -/

theorem pendingEntry_append_none {s t : State} {r : Nat} {x : QueueEntry} (hq : t.queue = s.queue ++ [x])
    (h : x.record ≠ r) : newest t r = newest s r := by
  simp only [newest, newestEntry, pendingEntry, programmingEntry, hq, List.find?_append]
  simp [h]

/-- An acceptance makes the record show the change, at its version, with the port among the origins; every other record
shows what it did (R24, R25, R29). -/
theorem newest_acceptChange {s : State} {e : Entry} {coalesced : Bool}
    (hm : coalesced = true ↔ pendingEntry s e.args.record ≠ none) :
    (∃ origins, inPorts origins e.port = true ∧ newest (acceptChange e coalesced s) e.args.record =
      some (changeOf e, nextVersion (visibleVersion s e.args.record), origins)) ∧
      ∀ r, r ≠ e.args.record → newest (acceptChange e coalesced s) r = newest s r := by
  have hqueue := acceptChange_queue e coalesced s
  cases coalesced with
  | true =>
    rw [if_pos rfl] at hqueue
    obtain ⟨x, hx⟩ := Option.ne_none_iff_exists'.1 (hm.1 rfl)
    obtain ⟨-, hrecord, hphase⟩ := pendingEntry_some hx
    have htest : ∀ (r : Nat) (phase : Phase) (y z : QueueEntry), z.record = y.record → z.phase = y.phase →
        (z.record == r && z.phase == phase) = (y.record == r && y.phase == phase) :=
      fun r phase y z h1 h2 => by rw [h1, h2]
    constructor
    · refine ⟨addPort x.origins e.port, (inPorts_addPort _ _ _).2 (.inl rfl), ?_⟩
      rw [pendingEntry] at hx
      simp only [newest, newestEntry, pendingEntry, programmingEntry, hqueue, find_mergeChange _ _ _ _ _ (htest _ _), hx,
        Option.map_some, Option.some_or, hrecord, hphase, and_self, if_true]
      rfl
    · intro r hr
      have hsame : ∀ phase : Phase, (mergeChange e.port e.args.record (changeOf e)
          (nextVersion (visibleVersion s e.args.record)) s.queue).find? (fun y => y.record == r && y.phase == phase) =
          s.queue.find? (fun y => y.record == r && y.phase == phase) := fun phase => by
        rw [find_mergeChange _ _ _ _ _ (htest _ _)]
        cases hf : s.queue.find? (fun y => y.record == r && y.phase == phase) with
        | none => rfl
        | some y =>
          have hy : y.record = r := by
            have := List.find?_some hf
            simp only [Bool.and_eq_true, beq_iff_eq] at this
            exact this.1
          rw [Option.map_some, if_neg (fun h => hr (hy.symm.trans h.1))]
      simp only [newest, newestEntry, pendingEntry, programmingEntry, hqueue, hsame]
  | false =>
    rw [if_neg (by simp)] at hqueue
    have hnone : pendingEntry s e.args.record = none := by simpa using hm
    constructor
    · refine ⟨addPort noPorts e.port, (inPorts_addPort _ _ _).2 (.inl rfl), ?_⟩
      rw [pendingEntry] at hnone
      simp only [newest, newestEntry, pendingEntry, hqueue, List.find?_append, hnone, Option.none_or]
      simp [freshEntry, QueueEntry.shown]
    · exact fun r hr => pendingEntry_append_none hqueue (fun h => hr h.symm)

theorem QueueGood.acceptChange {s : State} (h : QueueGood s) {e : Entry} {coalesced : Bool}
    (hm : coalesced = true ∨ pendingEntry s e.args.record = none ∧ s.queue.length < Config.queueSize) :
    QueueGood (acceptChange e coalesced s) := by
  have hqueue := acceptChange_queue e coalesced s
  cases coalesced with
  | true => exact h.merge (nextVersion_ne_zero _) hqueue
  | false =>
    obtain ⟨hn, hroom⟩ := hm.resolve_left (by simp)
    exact h.append (nextVersion_ne_zero _) hn hroom hqueue

theorem acceptChange_directory' (e : Entry) (coalesced : Bool) (s : State) :
    (acceptChange e coalesced s).directory = s.directory := directory_of_lessQueueing (acceptChange_frame e coalesced s)

end Sys2Proof.Machine

/-! SUPPORT. What follows an acceptance, and FLUSH. -/

namespace Sys2Proof.Machine

theorem nextVersion_eq (v : Half) : nextVersion v = if v = 65535 then 1 else v + 1 := rfl

/-- Settles O20: what an acceptance makes the record show is still shown when the controller has chosen. -/
theorem acceptedChangeIsVisible : Obligations.AcceptedChangeIsVisible := by
  refine ⟨?_, nextVersion_eq⟩
  rintro s t u p id f rest c change hgood h hc rfl hp hw hcl hrow hroom ht
  obtain ⟨kind, hk, hc⟩ : ∃ kind, byteAt f.body 0 = kind ∧
      (c = .write p ∧ kind = kindWrite ∧ change = .write (f.body.drop 5) ∨
        c = .writeIf p ∧ kind = kindWriteIf ∧ change = .write (f.body.drop 7) ∧
          halfAt f.body 4 = visibleVersion s (recordOf f) ∨
        c = .erase p ∧ kind = kindErase ∧ change = .erase) := by
    obtain ⟨hc, hk, hch⟩ | ⟨hc, hk, hch⟩ | ⟨hc, hk, hch⟩ := hc
    · exact ⟨_, hk, .inl ⟨hc, rfl, hch⟩⟩
    · exact ⟨_, hk, .inr (.inl ⟨hc, rfl, hch⟩)⟩
    · exact ⟨_, hk, .inr (.inr ⟨hc, rfl, hch⟩)⟩
  obtain ⟨hrequest, rfl, hversion⟩ := accepted_of_kind (id := id) hk hc
  obtain ⟨coalesced, hm, hq, he⟩ : ∃ coalesced, (coalesced = true ↔ pendingEntry s (recordOf f) ≠ none) ∧
      (coalesced = true ∨ pendingEntry s (recordOf f) = none ∧ s.queue.length < Config.queueSize) ∧
      exec c s = .next (settle (acceptChange (newEntry id p f) coalesced (takeFrame p id f rest s))) := by
    by_cases hn : pendingEntry s (recordOf f) = none
    · have hlt : s.queue.length < Config.queueSize := hroom.resolve_left (not_not.2 hn)
      exact ⟨false, by simp [hn], .inr ⟨hn, hlt⟩,
        by rw [change_decided h hk hrequest hw (acceptance_append hp hcl hrow hversion hn hlt) (by simp)]; rfl⟩
    · exact ⟨true, by simp [hn], .inl rfl,
        by rw [change_decided h hk hrequest hw (acceptance_merge hp hcl hrow hversion hn) (by simp)]; rfl⟩
  rw [he] at ht
  cases ht
  have hgood' : QueueGood (takeFrame p id f rest s) := hgood.of_queue rfl
  have haccepted := newest_acceptChange (s := takeFrame p id f rest s) (e := newEntry id p f) hm
  have hafter : QueueGood (acceptChange (newEntry id p f) coalesced (takeFrame p id f rest s)) :=
    hgood'.acceptChange hq
  obtain ⟨⟨origins, hin, hshown⟩, hother⟩ := haccepted
  constructor
  · have hnewest := (newest_settle hafter (recordOf f)).trans hshown
    obtain ⟨e, he, heq⟩ := Option.map_eq_some_iff.1 hnewest
    obtain ⟨hch, hv, ho⟩ : e.change = _ ∧ e.version = _ ∧ e.origins = origins := by
      simpa only [QueueEntry.shown, Prod.mk.injEq] using heq
    exact ⟨e, he, hch, hv, by rw [ho]; exact hin⟩
  · intro r hr
    rw [visibleVersion_settle hafter]
    exact visibleVersion_congr (hother r hr) (by rw [rowOf_congr (acceptChange_directory' _ _ _)]; rfl)

/-! ### FLUSH -/

theorem handleFlush_open {e : Entry} {s : State} (h : (portOf s e.port).flush ≠ none) :
    handleFlush e s = refuse e .flushPending s := by
  simp [handleFlush, Option.isSome_iff_ne_none, h]

theorem handleFlush_none {e : Entry} {s : State} (h : (portOf s e.port).flush = none)
    (hn : originCount e.port s.queue = 0) : handleFlush e s = answer e.id (.flushed false) s := by
  simp [handleFlush, h, hn]

theorem handleFlush_marks {e : Entry} {s : State} (h : (portOf s e.port).flush = none)
    (hn : originCount e.port s.queue ≠ 0) : handleFlush e s = openFlush e s := by
  simp [handleFlush, h, hn, openFlush]

theorem originCount_eq_zero {p : PortId} {q : List QueueEntry} (h : ∀ e ∈ q, inPorts e.origins p = false) :
    originCount p q = 0 := by
  rw [originCount, List.length_eq_zero_iff, List.filter_eq_nil_iff]
  exact fun e he => by simp [h e he]

section
variable {p : PortId} {n : Nat} {fault : Bool} {s : State}

theorem dropMarks_zero : dropMarks p 0 fault s = s := if_pos rfl

theorem dropMarks_closed (h : (portOf s p).flush = none) : dropMarks p n fault s = s := by
  unfold dropMarks
  split
  · rfl
  · rw [h]

theorem dropMarks_counts {f : FlushRecord} (h : (portOf s p).flush = some f) (hn : n ≠ 0) (hlt : n < f.count) :
    dropMarks p n fault s =
      updPort p (fun x => { x with flush := some { f with count := f.count - n, fault := f.fault || fault } }) s := by
  rw [dropMarks, if_neg hn, h]
  exact if_neg (Nat.not_le.2 hlt)

theorem dropMarks_last {f : FlushRecord} {e : Entry} (h : (portOf s p).flush = some f) (hn : n ≠ 0) (hle : f.count ≤ n)
    (he : flushEntry s p = some e) :
    dropMarks p n fault s =
      answer e.id (.flushed (f.fault || fault)) (updPort p (fun x => { x with flush := none }) s) := by
  rw [dropMarks, if_neg hn, h]
  dsimp only
  rw [if_pos hle, he]

end

/-- Settles O23: by the state of the port's FLUSH record. -/
theorem flushMarksTheQueue : Obligations.FlushMarksTheQueue := by
  refine ⟨?_, fun s p n fault f hf => ⟨?_, fun hn hlt => dropMarks_counts hf hn hlt, fun e hn hle he =>
    dropMarks_last hf hn hle he⟩, fun s p n fault hf => dropMarks_closed hf, ?_, fun f s => rfl⟩
  · rintro s u p id f rest h hk rfl
    have hflush : (portOf (takeFrame p id f rest s) p).flush = (portOf s p).flush := by rw [takeFrame_portOf_same]
    refine ⟨fun hf => request_next_eq h hk ?_, fun hf hn => request_next_eq h hk ?_,
      fun n hf hn hne => request_next_eq h hk ?_⟩ <;> rw [← hflush] at hf
    · exact (handleFlush_open (e := newEntry id p f) hf).trans (refuse_newEntry hk _ _)
    · exact handleFlush_none (e := newEntry id p f) hf (originCount_eq_zero hn)
    · have hcount : originCount p (takeFrame p id f rest s).queue = n := hn.symm
      rw [handleFlush_marks (e := newEntry id p f) hf (by rw [← hcount] at hne; exact hne), ← hcount]
      exact congrArg (fun x : State => { x with
          ports := (updPort p (fun x => { x with flush := some ⟨byteAt f.body 1, originCount p s.queue, false⟩ })
            (takeFrame p id f rest s)).ports
          queue := markQueue p s.queue }) (updEntry_takeFrame (fun x => { x with state := .waitFlush }) h.free)
  · rintro rfl
    exact dropMarks_zero
  · rintro s removed fault n rfl
    rfl

end Sys2Proof.Machine

/-! SUPPORT. What completions, the choice, the links and the power manager leave standing: the commands that wait, the
claims, the watches, and whether the part is held in reset. -/

namespace Sys2Proof.Machine

/-- The commands that wait, the claim table, the watch table and the reset. -/
def State.standing (s : State) : List Instr × List (Nat × Claim) × List Watch × Option ResetRecord :=
  (s.pending, s.claims, s.watches, s.resetHold)

section
variable {s t : State}

theorem pending_of_standing (h : t.standing = s.standing) : t.pending = s.pending := (congrArg (·.1) h :)
theorem claims_of_standing (h : t.standing = s.standing) : t.claims = s.claims := (congrArg (·.2.1) h :)
theorem watches_of_standing (h : t.standing = s.standing) : t.watches = s.watches := (congrArg (·.2.2.1) h :)
theorem resetHold_of_standing (h : t.standing = s.standing) : t.resetHold = s.resetHold := (congrArg (·.2.2.2) h :)

theorem standing_of_lessTraffic (h : t.lessTraffic = s.lessTraffic) : t.standing = s.standing :=
  (congrArg State.standing h :)
theorem standing_of_lessPorts (h : t.lessPorts = s.lessPorts) : t.standing = s.standing :=
  (congrArg State.standing h :)
theorem standing_of_lessQueueing (h : t.lessQueueing = s.lessQueueing) : t.standing = s.standing :=
  (congrArg State.standing h :)
theorem standing_of_lessChoice (h : t.lessChoice = s.lessChoice) : t.standing = s.standing :=
  (congrArg State.standing h :)
theorem standing_of_lessScan (h : t.lessScan = s.lessScan) : t.standing = s.standing := (congrArg State.standing h :)

end

section
variable (s : State)

@[simp] theorem standing_settle : (settle s).standing = s.standing := standing_of_lessChoice (settle_frame s)

@[simp] theorem standing_announce : (announce s).standing = s.standing := standing_of_lessPorts (announce_frame s)

@[simp] theorem standing_refuseAll (l : List Nat) : (refuseAll l s).standing = s.standing :=
  standing_of_lessTraffic (refuseAll_frame l s)

@[simp] theorem standing_retire (l : Location) : (retire l s).standing = s.standing := by cases l <;> rfl

@[simp] theorem standing_dropTarget (e : QueueEntry) : (dropTarget e s).standing = s.standing := by
  unfold dropTarget retireReserved
  (repeat' split) <;> simp

@[simp] theorem standing_fetchDone (e : Entry) (image : List Byte) : (fetchDone e image s).standing = s.standing := by
  have hcheck : ∀ r good, (applyCheck r good { s with op := none }).standing = s.standing := by
    intro r good; unfold applyCheck; split <;> rfl
  unfold fetchDone
  dsimp only
  split
  · exact hcheck _ _
  · rw [standing_of_lessTraffic (answer_frame _ _ _)]; exact hcheck _ _

@[simp] theorem standing_commit (e : QueueEntry) : (commit e s).standing = s.standing := by
  refine (standing_of_lessQueueing (commit_frame e s)).trans ?_
  show State.standing (if _ then s else retire _ s) = _
  split
  · rfl
  · exact standing_retire s _

@[simp] theorem standing_faultRecord (e : QueueEntry) : (faultRecord e s).standing = s.standing :=
  (standing_of_lessQueueing (faultRecord_frame e s)).trans rfl

@[simp] theorem standing_remap (e : QueueEntry) (n : Nat) : (remap e n s).standing = s.standing :=
  standing_dropTarget s e

@[simp] theorem standing_programDone (e : QueueEntry) (slot : Nat) (got : Cells) :
    (programDone e slot got s).standing = s.standing := by
  unfold programDone programFailed
  dsimp only
  split
  · exact standing_commit _ e
  · split
    · rfl
    · split
      · exact standing_remap _ e _
      · rw [giveUp_eq]
        exact (standing_faultRecord _ e).trans (standing_dropTarget _ e)

@[simp] theorem standing_markerDone (ok : Bool) : (markerDone ok s).standing = s.standing := by
  unfold markerDone dirtyDone cleanDone enterHoldup enterRun enterParked
  (repeat' split) <;> first | rfl | exact standing_announce _

@[simp] theorem standing_scanFetchDone (slot : Nat) (withdrawn : Bool) (got : Cells) :
    (scanFetchDone slot withdrawn got s).standing = s.standing :=
  (standing_of_lessScan (scanFetchDone_frame slot withdrawn got s)).trans rfl

@[simp] theorem standing_enterRun : (enterRun s).standing = s.standing := (standing_announce _).trans rfl
@[simp] theorem standing_enterHoldup : (enterHoldup s).standing = s.standing := (standing_announce _).trans rfl
@[simp] theorem standing_enterParked : (enterParked s).standing = s.standing := (standing_announce _).trans rfl
@[simp] theorem standing_refuseWaiters : (refuseWaiters s).standing = s.standing := (standing_refuseAll _ _).trans rfl
@[simp] theorem standing_refuseReads : (refuseReads s).standing = s.standing := (standing_refuseAll _ _).trans rfl
@[simp] theorem standing_holdupFromRun : (holdupFromRun s).standing = s.standing := by simp [holdupFromRun]

@[simp] theorem standing_assertPfw : (assertPfw s).standing = s.standing := by
  unfold assertPfw
  dsimp only
  split
  · exact (standing_holdupFromRun _).trans rfl
  · split
    · exact (standing_enterParked _).trans rfl
    · rfl
  all_goals rfl

@[simp] theorem standing_deassertPfw : (deassertPfw s).standing = s.standing := by
  unfold deassertPfw
  dsimp only
  split
  · split
    · exact (standing_enterRun _).trans rfl
    · rfl
  · split <;> rfl
  all_goals rfl

end

/-! ### Commands -/

theorem pending_of_lessRequest {s t : State} (h : t.lessRequest = s.lessRequest) : t.pending = s.pending :=
  (congrArg State.pending h :)

theorem resetHold_of_lessRequest {s t : State} (h : t.lessRequest = s.lessRequest) : t.resetHold = s.resetHold :=
  (congrArg State.resetHold h :)

/-- A command leaves the commands that wait behind it, and the part out of reset. -/
theorem Does.leaves {c : Instr} {s t : State} (h : Does s c t) :
    t.pending = s.pending ∧ t.resetHold = s.resetHold := by
  have standing : ∀ {u : State}, u.standing = s.standing → u.pending = s.pending ∧ u.resetHold = s.resetHold :=
    fun hu => ⟨pending_of_standing hu, resetHold_of_standing hu⟩
  cases h with
  | nothing => exact ⟨rfl, rfl⟩
  | async _ _ _ h => exact standing (standing_of_lessTraffic h.frame)
  | clocked _ _ _ h => exact standing (standing_of_lessTraffic h.frame)
  | selected => exact ⟨rfl, rfl⟩
  | deselected => exact ⟨rfl, rfl⟩
  | calibrated => exact ⟨rfl, rfl⟩
  | attended p => exact ⟨pending_of_lessRequest (attend_frame p s), resetHold_of_lessRequest (attend_frame p s)⟩
  | chosen => exact standing (standing_settle s)
  | @refused _ p last id f rest =>
    exact standing (((standing_settle _).trans (standing_of_lessTraffic (answer_frame _ _ _))).trans
      (show (taken p id f rest last s).standing = s.standing from rfl))
  | @handled _ p last id f rest _ _ _ _ hu =>
    have hpending : (taken p id f rest last s).pending = s.pending := rfl
    have hhold : (taken p id f rest last s).resetHold = s.resetHold := rfl
    exact ⟨((pending_of_standing (standing_settle _)).trans (pending_of_lessRequest hu.frame)).trans hpending,
      ((resetHold_of_standing (standing_settle _)).trans (resetHold_of_lessRequest hu.frame)).trans hhold⟩
  | fetched => exact standing (by simp)
  | programmed => exact standing (by simp)
  | fetchLost => exact standing ((standing_settle _).trans rfl)
  | programLost => exact standing ((standing_settle _).trans rfl)
  | marked => exact standing (((standing_settle _).trans (standing_markerDone _ _)).trans rfl)
  | scanned => exact standing (by simp)
  | ticked => exact ⟨by simp [tick], by simp [tick]⟩
  | asserted => exact standing (by simp)
  | deasserted => exact standing (by simp)

theorem pending_linkups (s : State) : (forPorts linkupIfClocked s).lessPorts = s.lessPorts :=
  forPorts_frame State.lessPorts _ (fun p u => by unfold linkupIfClocked; split <;> rfl) s

/-- The end of a reset, up to the LINKUPs and the choice (R131, R152). -/
def released (straps : Straps) (pfw : Level) (r : ResetRecord) (s : State) : State :=
  let s := latchStraps straps
    { clearRam s with
      resetHold   := none
      resetCause  := causeOf r
      verdict     := .unknown
      markerFault := false
      markerSeq   := none
      scanOrder   := false
      pfwAsserted := pfw == .low }
  if pfw = .low then { s with partState := .parked } else enterStartup s

theorem endReset_eq (straps : Straps) (pfw : Level) (r : ResetRecord) (s : State) :
    endReset straps pfw r s = settle (forPorts linkupIfClocked (released straps pfw r s)) := rfl

theorem pending_released (straps : Straps) (pfw : Level) (r : ResetRecord) (s : State) :
    (released straps pfw r s).pending = s.pending := by
  cases pfw <;> rfl

theorem pending_endReset (straps : Straps) (pfw : Level) (r : ResetRecord) (s : State) :
    (endReset straps pfw r s).pending = s.pending := by
  rw [endReset_eq, pending_of_lessChoice (settle_frame _), pending_of_lessPorts (pending_linkups _), pending_released]

theorem tearInto_eq (slot : Nat) (image : List Byte) (torn : Torn) (s : State) :
    tearInto slot image torn s = { s with cells := (tearInto slot image torn s).cells } := by
  cases torn <;> rfl

/-- The tearing of an operation reaches the array alone (R48). -/
theorem tear_eq (torn : Torn) (s : State) : tear torn s = { s with cells := (tear torn s).cells } := by
  unfold tear
  split
  · split
    · exact tearInto_eq _ _ torn s
    · rfl
  · exact tearInto_eq _ _ torn s
  all_goals rfl

/-- A reset that begins clears the RAM; one that lasts records the event (R150, R151). -/
theorem beginReset_out {s : State} (h : s.resetHold = none) (cause : ResetEvent) (torn : Torn) :
    beginReset cause torn s =
      { clearRam s with cells := (tear torn s).cells, resetHold := some (recordEvent cause ⟨false, false⟩) } := by
  rw [beginReset, h, tear_eq]
  rfl

theorem beginReset_held {s : State} {r : ResetRecord} (h : s.resetHold = some r) (cause : ResetEvent) (torn : Torn) :
    beginReset cause torn s = { s with resetHold := some (recordEvent cause r) } := by
  rw [beginReset, h]

theorem pending_beginReset (cause : ResetEvent) (torn : Torn) (s : State) :
    (beginReset cause torn s).pending = s.pending := by
  cases h : s.resetHold with
  | none => rw [beginReset_out h]; rfl
  | some r => rw [beginReset_held h]

/-- Every command answers a next state. -/
theorem exec_next (c : Instr) (s : State) : ∃ t, exec c s = .next t := by
  cases c with
  | reset cause torn => exact ⟨_, rfl⟩
  | endOfReset straps pfw =>
    rw [exec, execEndOfReset]
    cases s.resetHold <;> exact ⟨_, rfl⟩
  | poolGrant => rw [exec, execPoolGrant]; exact whileRunning_next _ s
  | fetchCompletion got => rw [exec, execFetchCompletion]; exact whileRunning_next _ s
  | programCompletion got => rw [exec, execProgramCompletion]; exact whileRunning_next _ s
  | markerProgramCompletion got => rw [exec, execMarkerProgramCompletion]; exact whileRunning_next _ s
  | scanFetchCompletion got => rw [exec, execScanFetchCompletion]; exact whileRunning_next _ s
  | pfwAssertion => rw [exec, execPfwAssertion]; exact whileRunning_next _ s
  | pfwDeassertion => rw [exec, execPfwDeassertion]; exact whileRunning_next _ s
  | byteReceived p b moment order => rw [exec, execByteReceived]; exact whileRunning_next _ s
  | _ => exact whileRunning_next _ s

/-- Settles O2. -/
theorem everyCommandAnswersNext : Obligations.EveryCommandAnswersNext := by
  refine ⟨fun c s => ?_, fun c s => exec_held⟩
  obtain ⟨t, h⟩ := exec_next c s
  refine ⟨t, h, ?_⟩
  obtain ⟨-, -, hd⟩ | rfl | ⟨cause, torn, -, rfl⟩ | ⟨straps, pfw, r, -, -, rfl⟩ := exec_cases h
  · exact hd.leaves.1
  · rfl
  · exact pending_beginReset cause torn s
  · exact pending_endReset straps pfw r s

/-! ### The machine after reset -/

theorem linksGood_reset : LinksGood State.reset := by
  have hasync : AsyncGood (Port.reset .async) :=
    ⟨by decide, by decide, by decide, by decide, by decide⟩
  have hclocked : ∀ p part, ClockedGood { Port.reset .clocked with tx := [.notice (.linkup p part) false] } :=
    fun p part => ⟨SessionState.noConfusion, rfl, rfl, rfl, fun _ => ⟨rfl, rfl⟩⟩
  intro p _
  cases p with
  | p0 => exact ⟨(fun h => by cases h), fun _ => hasync⟩
  | p1 => exact ⟨(fun h => by cases h), fun _ => hasync⟩
  | p2 => exact ⟨fun _ => hclocked .p2 .startup, fun h => by cases h⟩
  | p3 => exact ⟨fun _ => hclocked .p3 .startup, fun h => by cases h⟩

/-- In STARTUP with the scan ordered nothing else is in course. -/
theorem powerGood_reset : PowerGood State.reset where
  waiting _ := by decide
  starving _ := rfl
  guard := by decide
  startup _ := ⟨rfl, rfl, .inl (by decide)⟩
  run h := by cases h
  holdup h := by cases h
  parked h := by cases h
  resuming h := by cases h

theorem flush_held_reset (p : PortId) : (portOf State.reset p).flush = none ∧ (portOf State.reset p).held = [] := by
  cases p <;> decide

/-- No entry, no list of entries and no held response: nothing to agree. -/
theorem listsGood_reset : ListsGood State.reset where
  table := by decide
  spaceOnce := by decide
  space := by decide
  fetchOnce := by decide
  fetch := by decide
  inFlight _ _ h := by cases h
  flushOpen p _ f h := by rw [(flush_held_reset p).1] at h; cases h
  flushOnly _ h := by cases h
  flushOnce := by decide
  heldOnce p _ := by rw [(flush_held_reset p).2]; decide
  held p _ := by rw [(flush_held_reset p).2]; exact List.forall_mem_nil _
  heldOnly _ h := by cases h
  spaceOnly _ h := by cases h
  fetchOnly _ h := by cases h
  flightOnly _ h := by cases h
  dispatched _ h := by cases h

theorem flushCounted_reset (p : PortId) : FlushCounted State.reset p := by
  rw [FlushCounted, (flush_held_reset p).1]
  exact ⟨List.forall_mem_nil _, fun _ => rfl⟩

/-- Settles O52: every list of the machine after reset is empty, and its ports are two ASYNC and two CLOCKED ones. -/
theorem resetMeetsTheInvariants : Obligations.ResetMeetsTheInvariants := by
  obtain ⟨hcells, hdirectory, hspares, hclaims⟩ := reset_stores_canonical
  have hstores : StoresCanonical State.reset := ⟨hcells, hdirectory, hspares, hclaims⟩
  have hsessions : SessionsBacked State.reset :=
    ⟨by decide, by decide, by decide, by decide, by decide, by decide⟩
  have hcontroller : ControllerGood State.reset :=
    ⟨⟨by decide, by decide, by decide⟩, fun _ => powerGood_reset, fun _ => by decide, fun _ => by decide⟩
  have hmarker : MarkerHonest State.reset := fun _ h => by revert h; decide
  exact ⟨hstores, by decide, hsessions, by decide, by decide, linksGood_reset, hcontroller, hmarker,
    ⟨hstores, by decide, by decide, by decide⟩, listsGood_reset, flushCounted_reset⟩

end Sys2Proof.Machine

/-! SUPPORT. The links in closed form: what a byte does to its port, what the part's own byte does, and their exchange on
one edge. -/

namespace Sys2Proof.Machine

/-! ### One port changed -/

theorem updPort_congr {p : PortId} {f g : Port → Port} {s : State} (h : f (portOf s p) = g (portOf s p)) :
    updPort p f s = updPort p g s := by
  rw [updPort, h, updPort]

theorem updPort_eq_self {p : PortId} {f : Port → Port} {s : State} (h : f (portOf s p) = portOf s p) :
    updPort p f s = s := by
  rw [updPort, h]
  cases p <;> rfl

theorem updPort_updPort (p : PortId) (f g : Port → Port) (s : State) :
    updPort p f (updPort p g s) = updPort p (fun x => f (g x)) s := by
  cases p <;> rfl

theorem updPort_freeEntry (p : PortId) (f : Port → Port) (id : Nat) (s : State) :
    updPort p f (freeEntry id s) = freeEntry id (updPort p f s) := by
  cases p <;> rfl

theorem outstanding_congr {s t : State} {p : PortId} (hrx : (portOf t p).rxBuffer = (portOf s p).rxBuffer)
    (ht : t.table = s.table) : outstanding t p = outstanding s p := by
  rw [outstanding, outstanding, hrx, ht]

/-! ### The receiver (R140, R141, R143, R144) -/

/-- The window has room for a further request of p (R143). -/
abbrev roomFor (s : State) (p : PortId) : Bool := decide (outstanding s p < Config.window)

/-- What the window check does to the port (R143, R144). -/
def windowed (room : Bool) (body : List Byte) (x : Port) : Port :=
  if x.overrun then if isResync body && room then admitFrame body x else x
  else if room then admitFrame body x else { x with overrun := true }

/-- What a good frame does to its port (R140). -/
def completed (room : Bool) (body : List Byte) (x : Port) : Port := windowed room body { x with receiver := .hunting }

/-- What a byte does to its port (R140, R141). -/
def received (room : Bool) (b : Byte) (good : Bool) (x : Port) : Port :=
  match x.receiver with
  | .hunting => if b = delimiter ∧ good = true then { x with receiver := .inFrame none [] } else x
  | .inFrame none _ =>
    if good && Config.minBody ≤ b.toNat && b.toNat ≤ Config.maxBody then
      { x with receiver := .inFrame (some b.toNat) [] }
    else failFrame .hunting x
  | .inFrame (some length) got =>
    if good then
      if (got ++ [b]).length < length + 2 then { x with receiver := .inFrame (some length) (got ++ [b]) }
      else if halfAt (got ++ [b]) length = crc (BitVec.ofNat 8 length :: (got ++ [b]).take length) then
        completed room ((got ++ [b]).take length) x
      else failFrame .hunting x
    else failFrame (skipTo (length + 1 - got.length)) x
  | .skipping left => { x with receiver := skipTo (left - 1) }

theorem windowCheck_eq (p : PortId) (body : List Byte) (s : State) :
    windowCheck p body s = updPort p (windowed (roomFor s p) body) s := by
  unfold windowCheck
  split
  case isTrue ho =>
    split
    case isTrue h =>
      refine updPort_congr ?_
      rw [windowed, if_pos ho, if_pos h]
    case isFalse h =>
      refine (updPort_eq_self ?_).symm
      rw [windowed, if_pos ho, if_neg h]
  case isFalse ho =>
    split
    case isTrue h =>
      refine updPort_congr ?_
      rw [windowed, if_neg ho, if_pos (decide_eq_true h)]
    case isFalse h =>
      refine updPort_congr ?_
      rw [windowed, if_neg ho, if_neg (by simpa using h)]

theorem goodFrame_eq (p : PortId) (body : List Byte) (s : State) :
    goodFrame p body s = updPort p (completed (roomFor s p) body) s := by
  rw [goodFrame, windowCheck_eq, updPort_updPort]
  have hroom : roomFor (updPort p (fun x => { x with receiver := .hunting }) s) p = roomFor s p := by
    rw [roomFor, outstanding_congr (s := s) (by simp) (by simp)]
  rw [hroom]
  rfl

theorem takeByte_eq (p : PortId) (b : Byte) (good : Bool) (s : State) :
    takeByte p b good s = updPort p (received (roomFor s p) b good) s := by
  unfold takeByte checkFrame
  dsimp only
  split
  case h_1 hr =>
    split
    case isTrue h => exact updPort_congr (by rw [received, hr]; exact (if_pos h).symm)
    case isFalse h => exact (updPort_eq_self (by rw [received, hr]; exact if_neg h)).symm
  case h_2 got hr =>
    split
    case isTrue h => exact updPort_congr (by rw [received, hr]; exact (if_pos h).symm)
    case isFalse h => exact updPort_congr (by rw [received, hr]; exact (if_neg h).symm)
  case h_3 length got hr =>
    split
    case isTrue hg =>
      split
      case isTrue h => exact updPort_congr (by simp only [received, hr, if_pos hg, if_pos h])
      case isFalse h =>
        split
        case isTrue hc =>
          rw [goodFrame_eq]
          exact updPort_congr (by simp only [received, hr, if_pos hg, if_neg h, if_pos hc])
        case isFalse hc => exact updPort_congr (by simp only [received, hr, if_pos hg, if_neg h, if_neg hc])
    case isFalse hg => exact updPort_congr (by simp only [received, hr, if_neg hg])
  case h_4 left hr => exact updPort_congr (by simp only [received, hr])

/-! ### The incoming and the outgoing side do not meet (R135, R136) -/

/-- The port with another outgoing side: transmit queue, progress, byte on DOUT, held responses. -/
def sends (tx : List TxFrame) (sending : Option Nat) (outByte : Option Byte) (held : List Nat) (x : Port) : Port :=
  { x with tx := tx, sending := sending, outByte := outByte, held := held }

/-- A change of the incoming side: it neither reads nor changes the outgoing side, nor the mode. -/
structure Inward (g : Port → Port) : Prop where
  sends : ∀ tx sending outByte held x, g (sends tx sending outByte held x) = sends tx sending outByte held (g x)
  mode  : ∀ x, (g x).mode = x.mode

section
variable {g : Port → Port} (h : Inward g) (x : Port)
include h

theorem Inward.eq_sends : g x = Machine.sends x.tx x.sending x.outByte x.held (g x) := h.sends x.tx x.sending x.outByte x.held x
theorem Inward.tx : (g x).tx = x.tx := by rw [h.eq_sends]; rfl
theorem Inward.sending : (g x).sending = x.sending := by rw [h.eq_sends]; rfl
theorem Inward.outByte : (g x).outByte = x.outByte := by rw [h.eq_sends]; rfl
theorem Inward.held : (g x).held = x.held := by rw [h.eq_sends]; rfl

end

theorem inward_receiver (r : Receiver) : Inward (fun x => { x with receiver := r }) :=
  ⟨fun _ _ _ _ _ => rfl, fun _ => rfl⟩

theorem inward_failFrame (r : Receiver) : Inward (failFrame r) := ⟨fun _ _ _ _ _ => rfl, fun _ => rfl⟩

theorem inward_windowed (room : Bool) (body : List Byte) : Inward (windowed room body) := by
  constructor
  · intro tx sending outByte held x
    have ho : (sends tx sending outByte held x).overrun = x.overrun := rfl
    unfold windowed
    rw [ho]
    (repeat' split) <;> rfl
  · intro x
    unfold windowed
    (repeat' split) <;> rfl

theorem inward_completed (room : Bool) (body : List Byte) : Inward (completed room body) :=
  ⟨fun tx sending outByte held x =>
    (inward_windowed room body).sends tx sending outByte held { x with receiver := .hunting },
    fun x => (inward_windowed room body).mode { x with receiver := .hunting }⟩

theorem inward_received (room : Bool) (b : Byte) (good : Bool) : Inward (received room b good) := by
  constructor
  · intro tx sending outByte held x
    unfold received
    have hr : (sends tx sending outByte held x).receiver = x.receiver := rfl
    rw [hr]
    split
    · split <;> rfl
    · split <;> rfl
    · split
      · split
        · rfl
        · split
          · exact (inward_completed _ _).sends _ _ _ _ _
          · rfl
      · rfl
    · rfl
  · intro x
    unfold received
    split
    · split <;> rfl
    · split <;> rfl
    · split
      · split
        · rfl
        · split
          · exact (inward_completed _ _).mode _
          · rfl
      · rfl
    · rfl

/-- A change of the outgoing side: it reads and changes that side alone, and the mode it heeds. -/
def Outward (o : Port → Port) : Prop :=
  ∀ x y : Port, y.tx = x.tx → y.sending = x.sending → y.outByte = x.outByte → y.held = x.held → y.mode = x.mode →
    o y = sends (o x).tx (o x).sending (o x).outByte (o x).held y

/-- Changes of the two sides are done in either order alike. -/
theorem Inward.comm {g o : Port → Port} (hg : Inward g) (ho : Outward o) (x : Port) : g (o x) = o (g x) := by
  rw [ho x x rfl rfl rfl rfl rfl, hg.sends, ho x (g x) (hg.tx x) (hg.sending x) (hg.outByte x) (hg.held x) (hg.mode x)]

/-- A change that is one for every incoming side alike. -/
theorem outward_of {o : Port → Port}
    (h : ∀ x receiver rxBuffer state epoch bitPeriod selected frameErr overrun noticeGap flush,
      o { x with receiver, rxBuffer, session := state, epoch, bitPeriod, selected, frameErr, overrun, noticeGap, flush } =
        { o x with receiver, rxBuffer, session := state, epoch, bitPeriod, selected, frameErr, overrun, noticeGap, flush })
    (hmode : ∀ x, (o x).mode = x.mode) : Outward o := by
  intro x y htx hsending hout hheld hm
  have hy := h x y.receiver y.rxBuffer y.session y.epoch y.bitPeriod y.selected y.frameErr y.overrun y.noticeGap y.flush
  have hxy : { x with
      receiver := y.receiver, rxBuffer := y.rxBuffer, session := y.session, epoch := y.epoch
      bitPeriod := y.bitPeriod, selected := y.selected, frameErr := y.frameErr, overrun := y.overrun
      noticeGap := y.noticeGap, flush := y.flush } = y := by
    rw [← htx, ← hsending, ← hout, ← hheld, ← hm]
  rw [hxy] at hy
  dsimp only at hy
  rw [hy, sends, hmode, hm]

theorem outward_sending (k : Option Nat) : Outward (fun x => { x with sending := k }) :=
  outward_of (fun _ _ _ _ _ _ _ _ _ _ _ => rfl) (fun _ => rfl)

theorem outward_dropHead (rest : List TxFrame) : Outward (dropHead rest) :=
  outward_of (fun _ _ _ _ _ _ _ _ _ _ _ => rfl) (fun _ => rfl)

theorem outward_dropHeld (rest : List TxFrame) (ids : List Nat) :
    Outward (fun x => { dropHead rest x with held := ids }) :=
  outward_of (fun _ _ _ _ _ _ _ _ _ _ _ => rfl) (fun _ => rfl)

theorem outward_placed (rest : List TxFrame) (ids : List Nat) (r : Response) :
    Outward (fun x => pushTx (.response r) { dropHead rest x with held := ids }) :=
  outward_of (fun _ _ _ _ _ _ _ _ _ _ _ => rfl) (fun _ => rfl)

theorem outward_presentNext : Outward presentNext := by
  refine outward_of (fun x _ _ _ _ _ _ _ _ _ _ => ?_) presentNext_mode
  unfold presentNext
  cases x.tx <;> rfl

/-! ### The outgoing side (R87, R136, R146) -/

/-- The end of the head frame: it leaves alone, or with the oldest held response in its place, which frees its entry. -/
theorem frameLeaves_cases (p : PortId) (s : State) :
    ((portOf s p).tx = [] ∧ frameLeaves p s = s) ∨
    (∃ f rest, (portOf s p).tx = f :: rest ∧ (isResponse f = false ∨ (portOf s p).held = []) ∧
      frameLeaves p s = updPort p (dropHead rest) s) ∨
    (∃ f rest id ids, (portOf s p).tx = f :: rest ∧ isResponse f = true ∧ (portOf s p).held = id :: ids ∧
      (entryOf s id).bind Entry.response = none ∧
      frameLeaves p s = updPort p (fun x => { dropHead rest x with held := ids }) s) ∨
    ∃ f rest id ids e r, (portOf s p).tx = f :: rest ∧ isResponse f = true ∧ (portOf s p).held = id :: ids ∧
      entryOf s id = some e ∧ e.response = some r ∧
      frameLeaves p s =
        freeEntry id (updPort p (fun x => pushTx (.response r) { dropHead rest x with held := ids }) s) := by
  unfold frameLeaves
  split
  case h_1 htx => exact .inl ⟨htx, rfl⟩
  case h_2 f rest htx =>
    split
    case isFalse hf => exact .inr (.inl ⟨f, rest, htx, .inl (by simpa using hf), rfl⟩)
    case isTrue hf =>
      have hheld : (portOf (updPort p (dropHead rest) s) p).held = (portOf s p).held := by simp
      have hentry : ∀ id, entryOf (updPort p (dropHead rest) s) id = entryOf s id := fun id => by simp [entryOf]
      unfold placeHeld
      rw [hheld]
      split
      case h_1 hh => exact .inr (.inl ⟨f, rest, htx, .inr hh, rfl⟩)
      case h_2 id ids hh =>
        rw [hentry]
        split
        case h_1 e he =>
          split
          case h_1 r hr =>
            exact .inr (.inr (.inr ⟨f, rest, id, ids, e, r, htx, hf, hh, he, hr, by rw [updPort_updPort]⟩))
          case h_2 hr =>
            exact .inr (.inr (.inl ⟨f, rest, id, ids, htx, hf, hh, by rw [he]; exact hr, updPort_updPort ..⟩))
        case h_2 he =>
          exact .inr (.inr (.inl ⟨f, rest, id, ids, htx, hf, hh, by rw [he]; rfl, updPort_updPort ..⟩))

section
variable {p : PortId} {s : State} {f : TxFrame} {rest : List TxFrame}

theorem frameLeaves_alone (htx : (portOf s p).tx = f :: rest) (hf : isResponse f = false ∨ (portOf s p).held = []) :
    frameLeaves p s = updPort p (dropHead rest) s := by
  obtain ⟨hnil, -⟩ | ⟨f', rest', htx', -, e⟩ | ⟨f', rest', id, ids, htx', hf', hh, -⟩ |
    ⟨f', rest', id, ids, e, r, htx', hf', hh, -⟩ := frameLeaves_cases p s
  · rw [hnil] at htx; cases htx
  · rw [htx] at htx'; cases htx'; exact e
  all_goals
    rw [htx] at htx'; cases htx'
    rw [hf', hh] at hf
    simp at hf

theorem frameLeaves_held {id : Nat} {ids : List Nat} {e : Entry} {r : Response} (htx : (portOf s p).tx = f :: rest)
    (hf : isResponse f = true) (hh : (portOf s p).held = id :: ids) (he : entryOf s id = some e)
    (hr : e.response = some r) :
    frameLeaves p s =
      freeEntry id (updPort p (fun x => pushTx (.response r) { dropHead rest x with held := ids }) s) := by
  obtain ⟨hnil, -⟩ | ⟨f', rest', htx', hf', -⟩ | ⟨f', rest', id', ids', htx', -, hh', hnone, -⟩ |
    ⟨f', rest', id', ids', e', r', htx', -, hh', he', hr', heq⟩ := frameLeaves_cases p s
  · rw [hnil] at htx; cases htx
  · rw [htx] at htx'; cases htx'
    rw [hf, hh] at hf'
    simp at hf'
  · rw [hh] at hh'; cases hh'
    rw [he, Option.bind_some, hr] at hnone
    cases hnone
  · rw [htx] at htx'; cases htx'
    rw [hh] at hh'; cases hh'
    rw [he] at he'; cases he'
    rw [hr] at hr'; cases hr'
    exact heq

theorem frameLeaves_lost {id : Nat} {ids : List Nat} (htx : (portOf s p).tx = f :: rest) (hf : isResponse f = true)
    (hh : (portOf s p).held = id :: ids) (hnone : (entryOf s id).bind Entry.response = none) :
    frameLeaves p s = updPort p (fun x => { dropHead rest x with held := ids }) s := by
  obtain ⟨hnil, -⟩ | ⟨f', rest', htx', hf', -⟩ | ⟨f', rest', id', ids', htx', -, hh', -, heq⟩ |
    ⟨f', rest', id', ids', e', r', htx', -, hh', he', hr', -⟩ := frameLeaves_cases p s
  · rw [hnil] at htx; cases htx
  · rw [htx] at htx'; cases htx'
    rw [hf, hh] at hf'
    simp at hf'
  · rw [htx] at htx'; cases htx'
    rw [hh] at hh'; cases hh'
    exact heq
  · rw [hh] at hh'; cases hh'
    rw [he', Option.bind_some, hr'] at hnone
    cases hnone

theorem outgoingDone_idle (h : (portOf s p).sending = none) : outgoingDone p s = s := by
  rw [outgoingDone, h]

theorem outgoingDone_byte {k : Nat} (htx : (portOf s p).tx = f :: rest) (hk : (portOf s p).sending = some k)
    (hlen : k + 1 < (txBytes f).length) : outgoingDone p s = updPort p (fun x => { x with sending := some (k + 1) }) s := by
  simp only [outgoingDone, hk, htx, if_pos hlen]

theorem outgoingDone_last {k : Nat} (htx : (portOf s p).tx = f :: rest) (hk : (portOf s p).sending = some k)
    (hlen : k + 1 = (txBytes f).length) : outgoingDone p s = frameLeaves p s := by
  simp only [outgoingDone, hk, htx, hlen, lt_irrefl, if_false]

end

/-- The part's own byte, and with it the end of its frame, is heeded before or after the incoming side alike. -/
theorem frameLeaves_inward {g : Port → Port} (h : Inward g) (p : PortId) (s : State) :
    frameLeaves p (updPort p g s) = updPort p g (frameLeaves p s) := by
  have hport : portOf (updPort p g s) p = g (portOf s p) := portOf_updPort_same ..
  have hentry : ∀ id, entryOf (updPort p g s) id = entryOf s id := fun id => by simp [entryOf]
  obtain ⟨htx, e⟩ | ⟨f, rest, htx, hf, e⟩ | ⟨f, rest, id, ids, htx, hf, hh, hnone, e⟩ |
    ⟨f, rest, id, ids, x, r, htx, hf, hh, hx, hr, e⟩ := frameLeaves_cases p s
  · rw [e]
    unfold frameLeaves
    rw [hport, h.tx, htx]
  · rw [e, frameLeaves_alone (rest := rest) (by rw [hport, h.tx, htx]) (by rw [hport, h.held]; exact hf), updPort_updPort,
      updPort_updPort]
    exact updPort_congr (h.comm (outward_dropHead rest) _).symm
  · rw [e, frameLeaves_lost (by rw [hport, h.tx, htx]) hf (by rw [hport, h.held, hh]) (by rw [hentry]; exact hnone),
      updPort_updPort, updPort_updPort]
    exact updPort_congr (h.comm (outward_dropHeld rest ids) _).symm
  · rw [e, frameLeaves_held (by rw [hport, h.tx, htx]) hf (by rw [hport, h.held, hh]) ((hentry id).trans hx) hr,
      updPort_updPort, updPort_freeEntry, updPort_updPort]
    exact congrArg _ (updPort_congr (h.comm (outward_placed rest ids r) _).symm)

theorem outgoingDone_inward {g : Port → Port} (h : Inward g) (p : PortId) (s : State) :
    outgoingDone p (updPort p g s) = updPort p g (outgoingDone p s) := by
  have hport : portOf (updPort p g s) p = g (portOf s p) := portOf_updPort_same ..
  unfold outgoingDone
  rw [hport, h.sending, h.tx]
  split
  · split
    · rw [updPort_updPort, updPort_updPort]
      exact updPort_congr (h.comm (outward_sending _) _).symm
    · exact frameLeaves_inward h p s
  · rfl

/-! ### The edge (R135, R136, R143) -/

/-- The edge of an incoming byte whose effect on the port heeds the window: the part's own byte completes, and the port
takes the incoming one, with the room it met, and then presents its next. -/
theorem exchange_eq {g : Bool → Port → Port} (hg : ∀ room, Inward (g room)) (p : PortId) (order : EdgeOrder)
    {incoming : State → State} (hi : ∀ u, incoming u = updPort p (g (roomFor u p)) u) (s : State) :
    exchange p order incoming s =
      updPort p (fun x => presentNext (g (match order with
        | .incomingFirst => roomFor s p
        | .outgoingFirst => roomFor (outgoingDone p s) p) x)) (outgoingDone p s) := by
  cases order
  · rw [exchange, hi, outgoingDone_inward (hg _), updPort_updPort]
  · rw [exchange, hi, updPort_updPort]

/-- The edge of an incoming byte that does not meet the window. -/
theorem exchange_inward {g : Port → Port} (hg : Inward g) (p : PortId) (order : EdgeOrder) (s : State) :
    exchange p order (updPort p g) s = updPort p (fun x => presentNext (g x)) (outgoingDone p s) := by
  rw [exchange_eq (g := fun _ => g) (fun _ => hg) p order (fun _ => rfl)]

end Sys2Proof.Machine

/-! SUPPORT. The link commands: frames, failures, calibration, the end of a frame. O3, O4, O5, O7, O9, O11 are settled
here. -/

namespace Sys2Proof.Machine

/-! ### A CLOCKED port with nothing to send (R136) -/

/-- Fill on DOUT. -/
def fill (x : Port) : Port := { x with outByte := some 0xFF }

theorem presentNext_idle {x : Port} (htx : x.tx = []) (hs : x.sending = none) : presentNext x = fill x := by
  unfold presentNext
  split
  · simp only [fill, ← hs]
  · rename_i h; rw [htx] at h; cases h

theorem outward_fill : Outward fill := outward_of (fun _ _ _ _ _ _ _ _ _ _ _ => rfl) (fun _ => rfl)

section
variable {p : PortId} {s : State} (htx : (portOf s p).tx = []) (hs : (portOf s p).sending = none)
include htx hs

/-- Bytes exchanged with nothing to send are fill. -/
theorem exchangeOut_idle (n : Nat) : exchangeOut p n s = s ∨ exchangeOut p n s = updPort p fill s := by
  have hedge : ∀ u, (portOf u p).tx = [] → (portOf u p).sending = none →
      exchange p .incomingFirst id u = updPort p fill u := fun u hu hus => by
    show updPort p presentNext (outgoingDone p u) = _
    rw [outgoingDone_idle hus]
    exact updPort_congr (presentNext_idle hu hus)
  cases n with
  | zero => exact .inl rfl
  | succ n =>
    right
    rw [exchangeOut, hedge s htx hs]
    induction n with
    | zero => rfl
    | succ n ih =>
      have hfill : updPort p fill (updPort p fill s) = updPort p fill s := updPort_updPort ..
      rw [exchangeOut, hedge _ (by simpa [fill] using htx) (by simpa [fill] using hs), hfill]
      exact ih

/-- An edge after bytes exchanged with nothing to send: what comes in, and fill. -/
theorem exchange_idle {g : Bool → Port → Port} (hg : ∀ room, Inward (g room)) (order : EdgeOrder) {incoming : State → State}
    (hi : ∀ u, incoming u = updPort p (g (roomFor u p)) u) (n : Nat) :
    exchange p order incoming (exchangeOut p n s) = updPort p (fun x => g (roomFor s p) (fill x)) s := by
  have hidle : ∀ u, (portOf u p).tx = [] → (portOf u p).sending = none →
      exchange p order incoming u = updPort p (fun x => g (roomFor u p) (fill x)) u := fun u hu hus => by
    rw [exchange_eq hg p order hi, outgoingDone_idle hus]
    have hpresent : ∀ room, presentNext (g room (portOf u p)) = g room (fill (portOf u p)) := fun room => by
      rw [presentNext_idle (by rw [(hg room).tx, hu]) (by rw [(hg room).sending, hus]), (hg room).comm outward_fill]
    cases order <;> exact updPort_congr (hpresent _)
  obtain e | e := exchangeOut_idle htx hs n
  · rw [e, hidle s htx hs]
  · have hroom : roomFor (updPort p fill s) p = roomFor s p := by
      rw [roomFor, outstanding_congr (s := s) (by simp [fill]) (by simp)]
    rw [e, hidle _ (by simpa [fill] using htx) (by simpa [fill] using hs), updPort_updPort, hroom]
    rfl

end

/-! ### The port of a link command -/

/-- The port receives: an ASYNC port that is up, or a selected CLOCKED port with nothing to send, whose outgoing side
then does `out` (R132, R135, R136). -/
abbrev Receives (s : State) (p : PortId) (out : Port → Port) : Prop :=
  (portOf s p).mode = .async ∧ (portOf s p).session ≠ .linkDown ∧ out = (fun x => x) ∨
    (portOf s p).mode = .clocked ∧ (portOf s p).selected = true ∧ (portOf s p).tx = [] ∧
      (portOf s p).sending = none ∧ out = (fun x => { x with outByte := some 0xFF })

theorem canReceive_async {s : State} {p : PortId} (hm : (portOf s p).mode = .async)
    (hup : (portOf s p).session ≠ .linkDown) : canReceive s p = true := by
  simp [canReceive, hm, linkIsUp, hup]

theorem canReceive_clocked {s : State} {p : PortId} (hm : (portOf s p).mode = .clocked)
    (hsel : (portOf s p).selected = true) : canReceive s p = true := by
  simp [canReceive, hm, hsel]

/-- FRAME_RECEIVED where the port receives: the frame meets the window check (R140, R143). -/
theorem exec_frameReceived {s : State} {p : PortId} {body : List Byte} {order : EdgeOrder} {out : Port → Port}
    (hr : s.resetHold = none) (hmin : 3 ≤ body.length) (hmax : body.length ≤ 56)
    (hfits : frameFits body (portOf s p).receiver = true) (hlink : Receives s p out) :
    exec (.frameReceived p ⟨body, order⟩) s =
      .next (updPort p (fun x => completed (roomFor s p) body (out x)) s) := by
  rw [exec, execFrameReceived, whileRunning_out _ _ hr]
  have hlen : Config.minBody ≤ body.length ∧ body.length ≤ Config.maxBody := ⟨hmin, hmax⟩
  obtain ⟨hm, hup, rfl⟩ | ⟨hm, hsel, htx, hs, rfl⟩ := hlink
  · simp only [canReceive_async hm hup, hlen.1, hlen.2, hfits, decide_true, Bool.and_self, if_true, hm, goodFrame_eq]
  · simp only [canReceive_clocked hm hsel, hlen.1, hlen.2, hfits, decide_true, Bool.and_self, if_true, hm]
    rw [exchange_idle htx hs (inward_completed · body) order (goodFrame_eq p body)]
    rfl

/-- Settles O3: the four answers of the window check, on either kind of link. -/
theorem goodFrameMeetsTheWindow : Obligations.GoodFrameMeetsTheWindow := by
  intro s p body order out hr hmin hmax hfits hlink
  rw [exec_frameReceived hr hmin hmax hfits hlink]
  have hout : (out (portOf s p)).overrun = (portOf s p).overrun ∧ (out (portOf s p)).rxBuffer = (portOf s p).rxBuffer := by
    obtain ⟨-, -, rfl⟩ | ⟨-, -, -, -, rfl⟩ := hlink <;> exact ⟨rfl, rfl⟩
  have hresync : isResync body = true ↔ byteAt body 0 = 0x28 ∧ body.length = 3 := by
    simp [isResync, bodyKind, kindResync]
  have hroom : roomFor s p = true ↔ outstanding s p < 4 := decide_eq_true_iff
  refine ⟨fun ho hn => ?_, fun ho hn => ?_, fun ho hkind hlen hn => ?_, fun ho hlost => ?_⟩ <;>
    refine congrArg Host.Outcome.next (updPort_congr ?_)
  · simp [completed, windowed, admitFrame, hout, ho, hroom.2 hn]
  · simp [completed, windowed, hout, ho, hroom, hn]
  · simp [completed, windowed, admitFrame, hout, ho, hroom.2 hn, hresync.2 ⟨hkind, hlen⟩]
  · have hno : (isResync body && roomFor s p) = false := by
      rw [Bool.and_eq_false_iff, ← Bool.not_eq_true, ← Bool.not_eq_true, hresync, hroom, not_and_or, not_lt, or_assoc]
      exact hlost
    simp only [completed, windowed, hout, ho, if_true, hno]
    simp

/-! ### Failures -/

theorem exec_frameError {s : State} {p : PortId} {f : FrameFailure} {out : Port → Port} (hr : s.resetHold = none)
    (hfits : failureFits (portOf s p).mode f (portOf s p).receiver = true) (hlink : Receives s p out) :
    exec (.frameError p f) s = .next (updPort p (fun x => failFrame (afterFailure f) (out x)) s) := by
  rw [exec, execFrameError, whileRunning_out _ _ hr]
  obtain ⟨hm, hup, rfl⟩ | ⟨hm, hsel, htx, hs, rfl⟩ := hlink
  · rw [hm] at hfits
    simp only [canReceive_async hm hup, hfits, Bool.and_self, if_true, hm]
  · rw [hm] at hfits
    simp only [canReceive_clocked hm hsel, hfits, Bool.and_self, if_true, hm]
    rw [exchange_idle (g := fun _ => failFrame (afterFailure f)) htx hs (fun _ => inward_failFrame _) .incomingFirst
      (fun _ => rfl)]
    rfl

theorem deselect_eq (x : Port) : deselect x =
    { x with
      receiver := .hunting
      frameErr := x.frameErr || x.receiver != .hunting
      sending  := none
      outByte  := none
      selected := false } := by
  unfold deselect
  split
  case isTrue h => simp [h]
  case isFalse h => simp [failFrame, setFrameErr, h]

/-- Settles O4. -/
theorem frameFailureSetsFrameErr : Obligations.FrameFailureSetsFrameErr := by
  refine ⟨fun s p f out hr hfits hlink => ?_, fun s p hr hup hm hrec => ?_, fun s p hr hm => ?_⟩
  · rw [exec_frameError hr hfits hlink]
    cases f <;> rfl
  · rw [exec, execInterByteGapTimeout, whileRunning_out _ _ hr]
    simp only [linkIsUp, hm, bne_iff_ne.2 hup, bne_iff_ne.2 hrec, beq_self_eq_true, Bool.and_self, if_true]
    rfl
  · rw [exec, execDeselection, whileRunning_out _ _ hr]
    simp only [hm, beq_self_eq_true, if_true]
    exact congrArg Host.Outcome.next (updPort_congr (deselect_eq _))

/-! ### Calibration -/

/-- Settles O5. -/
theorem calibrationBringsTheLinkUp : Obligations.CalibrationBringsTheLinkUp := by
  intro s p low hr hm hdown htx
  rw [exec, execCalibration, whileRunning_out _ _ hr]
  have hguard : ((portOf s p).mode == .async && (portOf s p).session == .linkDown &&
      Config.calibrationMin ≤ low && low ≤ Config.calibrationMax) = true ↔ 128 ≤ low ∧ low ≤ 13344 := by
    simp only [hm, hdown, beq_self_eq_true, Bool.true_and, Bool.and_eq_true, decide_eq_true_iff]
    exact Iff.rfl
  refine ⟨fun hmin hmax => ?_, fun hlow => ?_⟩
  · rw [if_pos (hguard.2 ⟨hmin, hmax⟩), placeLinkup, updPort_updPort]
    refine congrArg Host.Outcome.next (updPort_congr ?_)
    simp [offerNotice, pushTx, htx, hm, noticeCount, Config.noticeSlots]
  · rw [if_neg (fun h => by have := hguard.1 h; omega)]

/-! ### A byte on ASYNC -/

theorem exec_asyncByte {s : State} {p : PortId} (b : Byte) (good : Bool) (order : EdgeOrder) (hr : s.resetHold = none)
    (hm : (portOf s p).mode = .async) (hup : (portOf s p).session ≠ .linkDown) :
    exec (.byteReceived p b (.stopBit good) order) s = .next (updPort p (received (roomFor s p) b good) s) := by
  rw [exec, execByteReceived, whileRunning_out _ _ hr]
  simp only [hm, canReceive_async hm hup, if_true, takeByte_eq]

theorem skipTo_pos {n : Nat} (h : n ≠ 0) : skipTo n = .skipping n := if_neg h

/-- Settles O9: each state of the receiver in turn. -/
theorem asyncByteByReceiverState : Obligations.AsyncByteByReceiverState := by
  intro s p b good order hr hm hup
  rw [exec_asyncByte b good order hr hm hup]
  refine ⟨fun hx hb hg => ?_, fun hx hb => ?_, fun got hx hg hmin hmax => ?_, fun got hx hb => ?_,
    fun length got hx hg hlen => ?_, fun length got hx hg hlen => ?_, fun length got hx hg hlen => ?_,
    fun left hx => ?_, fun hx => ?_, ?_, ?_⟩
  · exact congrArg Host.Outcome.next (updPort_congr (by rw [received, hx]; exact if_pos ⟨hb, hg⟩))
  · refine congrArg Host.Outcome.next (updPort_eq_self ?_)
    rw [received, hx]
    exact if_neg (fun h => hb.elim (fun hb => hb h.1) (fun hg => by rw [hg] at h; cases h.2))
  · refine congrArg Host.Outcome.next (updPort_congr ?_)
    simp [received, hx, hg, Config.minBody, Config.maxBody, hmin, hmax]
  · refine congrArg Host.Outcome.next (updPort_congr ?_)
    have hbad : ¬(good && Config.minBody ≤ b.toNat && b.toNat ≤ Config.maxBody) = true := by
      rw [Bool.and_eq_true, Bool.and_eq_true, decide_eq_true_iff, decide_eq_true_iff]
      rintro ⟨⟨hg, hmin⟩, hmax⟩
      simp only [Config.minBody, Config.maxBody] at hmin hmax
      obtain h | h | h := hb
      · rw [h] at hg; cases hg
      · omega
      · omega
    simp only [received, hx, if_neg hbad]
    rfl
  · refine congrArg Host.Outcome.next (updPort_congr ?_)
    simp only [received, hx, hg, if_true]
    rw [if_pos (by simpa using hlen)]
  · refine congrArg Host.Outcome.next (updPort_congr ?_)
    simp only [received, hx, hg, Bool.false_eq_true, if_false]
    rw [skipTo_pos (by omega)]
    rfl
  · refine congrArg Host.Outcome.next (updPort_congr ?_)
    simp only [received, hx, hg, Bool.false_eq_true, if_false, hlen, Nat.sub_self]
    rfl
  · exact congrArg Host.Outcome.next (updPort_congr (by simp [received, hx, skipTo]))
  · exact congrArg Host.Outcome.next (updPort_congr (by simp [received, hx, skipTo]))
  · rw [exec, execByteReceived, whileRunning_out _ _ hr]
    simp only [hm]
  · rw [exec, execByteReceived, whileRunning_out _ _ hr]
    simp only [hm]

end Sys2Proof.Machine

/-! SUPPORT. The end of a frame, and the links' independence. O7 and O11 are settled here. -/

namespace Sys2Proof.Machine

/-! ### The end of a frame (R87, R146) -/

/-- What the end of the head frame does to its port. -/
theorem frameLeaves_port {p : PortId} {s : State} (htx : (portOf s p).tx ≠ []) :
    portOf (frameLeaves p s) p = { portOf s p with
      tx      := (portOf (frameLeaves p s) p).tx
      held    := (portOf (frameLeaves p s) p).held
      sending := if (portOf s p).mode = .async ∧ (portOf (frameLeaves p s) p).tx ≠ [] then some 0 else none } := by
  obtain ⟨hnil, -⟩ | ⟨f, rest, -, -, e⟩ | ⟨f, rest, id, ids, -, -, -, -, e⟩ |
    ⟨f, rest, id, ids, x, r, -, -, -, -, -, e⟩ := frameLeaves_cases p s
  · exact absurd hnil htx
  · rw [e, portOf_updPort_same]; rfl
  · rw [e, portOf_updPort_same]; rfl
  · rw [e, freeEntry_portOf, portOf_updPort_same]
    by_cases hm : (portOf s p).mode = .async <;> by_cases hrest : rest = [] <;> simp [pushTx, dropHead, hm, hrest]

/-- At a byte boundary without a frame in progress the head frame begins, or fill. -/
theorem presentNext_fresh {x : Port} (hs : x.sending = none) :
    presentNext x = { x with
      sending := if x.tx = [] then none else some 0
      outByte := some (if x.tx = [] then 0xFF else 0xD3) } := by
  unfold presentNext
  cases htx : x.tx with
  | nil => rfl
  | cons f rest => rw [hs]; rfl

theorem exec_frameSent {s : State} {p : PortId} (hr : s.resetHold = none) (htx : (portOf s p).tx ≠ [])
    (hlink : (portOf s p).mode = .async ∧ (portOf s p).session ≠ .linkDown ∨
      (portOf s p).mode = .clocked ∧ (portOf s p).selected = true ∧ (portOf s p).receiver = .hunting) :
    exec (.frameSent p) s = .next (match (portOf s p).mode with
      | .async => frameLeaves p s
      | .clocked => updPort p presentNext (frameLeaves p s)) := by
  have hsome : (!(portOf s p).tx.isEmpty) = true := by simpa using htx
  rw [exec, execFrameSent, whileRunning_out _ _ hr]
  obtain ⟨hm, hup⟩ | ⟨hm, hsel, hrec⟩ := hlink
  · simp only [canReceive_async hm hup, hsome, Bool.and_self, if_true, hm]
  · simp only [canReceive_clocked hm hsel, hsome, Bool.and_self, if_true, hm, hrec]

theorem frameSent_port {s t : State} {p : PortId} (htx : (portOf s p).tx ≠ [])
    (ht : t = match (portOf s p).mode with
      | .async => frameLeaves p s
      | .clocked => updPort p presentNext (frameLeaves p s)) :
    portOf t p = { portOf s p with
      tx      := (portOf t p).tx
      held    := (portOf t p).held
      sending := if (portOf t p).tx = [] then none else some 0
      outByte := (match (portOf s p).mode with
        | .async => (portOf s p).outByte
        | .clocked => some (if (portOf t p).tx = [] then 0xFF else 0xD3)) } := by
  have hport := frameLeaves_port htx
  cases hm : (portOf s p).mode with
  | async =>
    rw [hm] at ht hport
    rw [ht]
    rw [hport]
    by_cases hnil : (portOf (frameLeaves p s) p).tx = [] <;> simp [hnil]
  | clocked =>
    rw [hm] at ht hport
    have hsending : (portOf (frameLeaves p s) p).sending = none := by rw [hport]; simp
    rw [ht, portOf_updPort_same, presentNext_fresh hsending]
    rw [hport]

/-- The three parts of a state that the end of a frame leaves the byte boundary to keep. -/
theorem frameSent_same {s t : State} {p : PortId}
    (ht : t = match (portOf s p).mode with
      | .async => frameLeaves p s
      | .clocked => updPort p presentNext (frameLeaves p s)) :
    (portOf t p).tx = (portOf (frameLeaves p s) p).tx ∧ (portOf t p).held = (portOf (frameLeaves p s) p).held ∧
      t.table = (frameLeaves p s).table := by
  cases hm : (portOf s p).mode <;> rw [hm] at ht <;> subst ht <;> simp

/-- Settles O7. -/
theorem frameSentFreesItsSlot : Obligations.FrameSentFreesItsSlot := by
  refine ⟨fun s p f rest hr htx hlink => ?_, fun s p hidle => ?_⟩
  · have hsome : (portOf s p).tx ≠ [] := by rw [htx]; simp
    refine ⟨_, exec_frameSent hr hsome hlink, ?_⟩
    generalize ht : (match (portOf s p).mode with
      | .async => frameLeaves p s
      | .clocked => updPort p presentNext (frameLeaves p s)) = t
    obtain ⟨htx', hheld', htable'⟩ := frameSent_same ht.symm
    refine ⟨fun halone => ?_, fun id ids e r hf hh he hresp => ?_, frameSent_port hsome ht.symm, fun q hq => ?_, ?_⟩
    · rw [htx', hheld', htable', frameLeaves_alone htx halone]
      simp
    · rw [htx', hheld', htable', frameLeaves_held htx hf hh he hresp]
      exact ⟨by simp [pushTx], by simp [pushTx], by simp [freeEntry]⟩
    · cases hm : (portOf s p).mode <;> rw [hm] at ht <;> subst ht
      · exact frameLeaves_other p q s hq
      · exact (portOf_updPort_other _ _ _ _ hq).trans (frameLeaves_other p q s hq)
    · have hframe : t.lessTraffic = s.lessTraffic := by
        cases hm : (portOf s p).mode <;> rw [hm] at ht <;> subst ht
        · exact frameLeaves_frame p s
        · exact frameLeaves_frame p s
      exact eq_of_lessTraffic hframe
  · by_cases hr : s.resetHold = none
    · rw [exec, execFrameSent, whileRunning_out _ _ hr]
      obtain htx | ⟨hm, hdown⟩ | ⟨hm, hsel | hrec⟩ := hidle
      · simp [htx]
      · simp [canReceive, hm, linkIsUp, hdown]
      · simp [canReceive, hm, hsel]
      · simp [hm, hrec]
    · exact exec_held hr rfl

/-! ### A link leaves the others alone (R130) -/

/-- From s to t the link of p alone has moved: of the table go at most entries of p's held responses. -/
structure LinkOnly (p : PortId) (s t : State) : Prop where
  frame : t.lessTraffic = s.lessTraffic
  other : ∀ q, q ≠ p → portOf t q = portOf s q
  kept  : ∀ e ∈ t.table, e ∈ s.table
  freed : ∀ e ∈ s.table, e ∉ t.table → e.id ∈ (portOf s p).held
  held  : ∀ id ∈ (portOf t p).held, id ∈ (portOf s p).held

section
variable {p : PortId}

theorem LinkOnly.refl (s : State) : LinkOnly p s s :=
  ⟨rfl, fun _ _ => rfl, fun _ h => h, fun _ h hn => absurd h hn, fun _ h => h⟩

theorem LinkOnly.trans {s t u : State} (h : LinkOnly p s t) (k : LinkOnly p t u) : LinkOnly p s u where
  frame := k.frame.trans h.frame
  other q hq := (k.other q hq).trans (h.other q hq)
  kept e he := h.kept e (k.kept e he)
  freed e he hn := by
    by_cases ht : e ∈ t.table
    · exact h.held _ (k.freed e ht hn)
    · exact h.freed e he ht
  held id hid := h.held id (k.held id hid)

theorem LinkOnly.updPort {f : Port → Port} (hf : ∀ x, (f x).held = x.held) (s : State) :
    LinkOnly p s (updPort p f s) where
  frame := rfl
  other q hq := portOf_updPort_other p q f s hq
  kept e he := he
  freed e he hn := absurd he hn
  held id hid := by rwa [portOf_updPort_same, hf] at hid

theorem frameLeaves_only (s : State) : LinkOnly p s (frameLeaves p s) := by
  obtain ⟨-, e⟩ | ⟨f, rest, -, -, e⟩ | ⟨f, rest, id, ids, -, -, hh, -, e⟩ |
    ⟨f, rest, id, ids, x, r, -, -, hh, -, -, e⟩ := frameLeaves_cases p s
  · rw [e]; exact .refl s
  · rw [e]; exact LinkOnly.updPort (f := dropHead rest) (fun _ => rfl) s
  · refine ⟨frameLeaves_frame p s, fun q hq => frameLeaves_other p q s hq, ?_, ?_, ?_⟩ <;> rw [e]
    · exact fun _ he => he
    · exact fun _ he hn => absurd he hn
    · intro i hi
      rw [portOf_updPort_same] at hi
      rw [hh]
      exact List.mem_cons_of_mem _ hi
  · refine ⟨frameLeaves_frame p s, fun q hq => frameLeaves_other p q s hq, ?_, ?_, ?_⟩ <;> rw [e]
    · exact fun y hy => (List.mem_filter.1 hy).1
    · intro y hy hn
      have hid : y.id = id := by
        by_contra hne
        exact hn (List.mem_filter.2 ⟨hy, bne_iff_ne.2 hne⟩)
      rw [hh, hid]
      exact List.mem_cons_self ..
    · intro i hi
      rw [freeEntry_portOf, portOf_updPort_same] at hi
      rw [hh]
      exact List.mem_cons_of_mem _ hi

theorem LinkMoves.only {fails : Bool} {s t : State} (h : LinkMoves p fails s t) : LinkOnly p s t := by
  refine h.keeps (P := LinkOnly p s) (fun u v hu hm => hu.trans ?_) (.refl s)
  cases hm with
  | frameSent => exact frameLeaves_only u
  | boundary => exact .updPort presentNext_held u
  | _ => refine .updPort (fun _ => ?_) u; rfl

end

/-- The port of a link command, ATTENTION apart. -/
def linkPort : Instr → Option PortId
  | .frameReceived p _ | .frameError p _ | .interByteGapTimeout p | .deselection p | .calibration p _ => some p
  | .frameSent p | .byteReceived p _ _ _ => some p
  | _ => none

theorem LinkCommand.linkPort {p : PortId} {c : Instr} (h : LinkCommand p c) : linkPort c = some p := by
  obtain ⟨_, rfl⟩ | ⟨_, rfl⟩ | rfl | rfl | ⟨_, _, _, rfl⟩ := h <;> rfl

theorem linkPort_of_takesRequest {c : Instr} (h : takesRequest c = true) : linkPort c = none := by
  cases c <;> first | rfl | cases h

/-- What a link command does stays on its port. -/
theorem Does.linkOnly {p : PortId} {c : Instr} {s t : State} (hc : linkPort c = some p) (h : Does s c t) :
    LinkOnly p s t := by
  have hport : ∀ {q}, linkPort c = some q → q = p := fun hq => Option.some.inj (hq.symm.trans hc)
  have hrequest : takesRequest c = true → LinkOnly p s t := fun h => by rw [linkPort_of_takesRequest h] at hc; cases hc
  cases h with
  | nothing => exact .refl s
  | async hq _ _ h => cases hport hq.linkPort; exact h.only
  | clocked hq _ _ h => cases hport hq.linkPort; exact h.only.trans (.updPort presentNext_held _)
  | selected q b order =>
    cases hport rfl
    refine .updPort (fun x => ?_) s
    rw [select, presentNext_held]
  | deselected q =>
    cases hport rfl
    exact .updPort (fun x => by rw [deselect_eq]) s
  | calibrated q low =>
    cases hport rfl
    rw [placeLinkup, updPort_updPort]
    refine .updPort (fun x => ?_) s
    unfold offerNotice
    split <;> rfl
  | chosen hq => exact hrequest hq
  | refused hq => exact hrequest hq.takesRequest
  | handled hq => exact hrequest hq.takesRequest
  | ticked hq => obtain rfl | ⟨_, rfl⟩ := hq <;> cases hc
  | _ => cases hc

/-- Settles O11. -/
theorem linkCommandsStayOnTheirPort : Obligations.LinkCommandsStayOnTheirPort := by
  intro s t p c hc h
  have hlink : linkPort c = some p := by
    obtain ⟨_, rfl⟩ | ⟨_, rfl⟩ | rfl | rfl | ⟨_, rfl⟩ | rfl | ⟨_, _, _, rfl⟩ := hc <;> rfl
  have honly : LinkOnly p s t := by
    obtain ⟨-, -, hd⟩ | rfl | ⟨_, _, rfl, -⟩ | ⟨_, _, _, rfl, -, -⟩ := exec_cases h
    · exact hd.linkOnly hlink
    · exact .refl _
    · cases hlink
    · cases hlink
  exact ⟨eq_of_lessTraffic honly.frame, honly.other, honly.kept, honly.freed⟩

end Sys2Proof.Machine

/-! SUPPORT. Frames byte by byte, on ASYNC and on CLOCKED. O8 and O10 are settled here. -/

namespace Sys2Proof.Machine

/-! ### A byte on CLOCKED (R135, R136) -/

theorem exec_clockedByte {s : State} {p : PortId} (b : Byte) (order : EdgeOrder) (hr : s.resetHold = none)
    (hm : (portOf s p).mode = .clocked) (hsel : (portOf s p).selected = true) :
    exec (.byteReceived p b .eighthEdge order) s = .next (exchange p order (takeByte p b true) s) := by
  rw [exec, execByteReceived, whileRunning_out _ _ hr]
  simp only [hm, canReceive_clocked hm hsel, if_true]

/-- The room that an incoming byte meets, by the order of the two events of its edge (log 9). -/
def edgeRoom (s : State) (p : PortId) : EdgeOrder → Bool
  | .incomingFirst => roomFor s p
  | .outgoingFirst => roomFor (outgoingDone p s) p

theorem exchange_takeByte (p : PortId) (b : Byte) (order : EdgeOrder) (s : State) :
    exchange p order (takeByte p b true) s =
      updPort p (fun x => presentNext (received (edgeRoom s p order) b true x)) (outgoingDone p s) := by
  rw [exchange_eq (inward_received · b true) p order (takeByte_eq p b true)]
  cases order <;> rfl

/-- The edge where the part's own byte makes the change `out` of the outgoing side. -/
theorem exchange_takeByte_out {p : PortId} {b : Byte} {order : EdgeOrder} {s : State} {out taken : Port → Port}
    (hout : Outward out) (hdone : outgoingDone p s = updPort p out s)
    (htaken : received (edgeRoom s p order) b true (portOf s p) = taken (portOf s p)) :
    exchange p order (takeByte p b true) s = updPort p (fun x => presentNext (out (taken x))) s := by
  rw [exchange_takeByte, hdone, updPort_updPort]
  refine updPort_congr ?_
  rw [(inward_received _ b true).comm hout, htaken]

theorem edgeRoom_of_out {p : PortId} {order : EdgeOrder} {s : State} {out : Port → Port}
    (hdone : outgoingDone p s = updPort p out s) (hrx : (out (portOf s p)).rxBuffer = (portOf s p).rxBuffer) :
    edgeRoom s p order = roomFor s p := by
  cases order with
  | incomingFirst => rfl
  | outgoingFirst =>
    rw [edgeRoom, hdone, roomFor, outstanding_congr (s := s) (t := updPort p out s) (by rw [portOf_updPort_same, hrx]) rfl]

theorem presentNext_cons {x : Port} {f : TxFrame} {rest : List TxFrame} {k : Nat} (htx : x.tx = f :: rest)
    (hk : x.sending = some k) : presentNext x = { x with outByte := some (byteAt (txBytes f) k) } := by
  simp [presentNext, htx, hk]

theorem presentNext_begins {x : Port} {f : TxFrame} {rest : List TxFrame} (htx : x.tx = f :: rest)
    (hs : x.sending = none) : presentNext x = { x with sending := some 0, outByte := some 0xD3 } := by
  rw [presentNext_fresh hs, if_neg (by rw [htx]; simp), if_neg (by rw [htx]; simp)]

/-- With one entry fewer of p's session the count falls by one (R78, R88). -/
theorem outstanding_freeEntry {s : State} {p : PortId} {id : Nat} {e : Entry} {f : Port → Port} (he : entryOf s id = some e)
    (hport : e.port = p) (hcur : e.current = true) (hrx : (f (portOf s p)).rxBuffer = (portOf s p).rxBuffer) :
    outstanding (freeEntry id (updPort p f s)) p < outstanding s p := by
  obtain ⟨hmem, hid⟩ := entryOf_some he
  have hlt : ((s.table.filter (fun d => d.id != id)).filter (fun d => d.port == p && d.current)).length <
      (s.table.filter (fun d => d.port == p && d.current)).length := by
    rw [List.filter_comm, List.length_filter_lt_length_iff_exists]
    exact ⟨e, List.mem_filter.2 ⟨hmem, by simp [hport, hcur]⟩, by simp [hid]⟩
  rw [outstanding, freeEntry_portOf, portOf_updPort_same, hrx]
  exact Nat.add_lt_add_left hlt _

/-! ### A good byte in each state of the receiver (R140) -/

section
variable {room : Bool} {b : Byte} {x : Port} {got : List Byte} {length : Nat}

theorem received_stray (hx : x.receiver = .hunting) (hb : b ≠ 0xD3) : received room b true x = x := by
  rw [received, hx]
  exact if_neg (fun h => hb h.1)

theorem received_delimiter (hx : x.receiver = .hunting) :
    received room 0xD3 true x = { x with receiver := .inFrame none [] } := by
  rw [received, hx]
  exact if_pos ⟨rfl, rfl⟩

theorem received_length (hx : x.receiver = .inFrame none got) (hmin : 3 ≤ b.toNat) (hmax : b.toNat ≤ 56) :
    received room b true x = { x with receiver := .inFrame (some b.toNat) [] } := by
  simp [received, hx, Config.minBody, Config.maxBody, hmin, hmax]

theorem received_badLength (hx : x.receiver = .inFrame none got) (hb : b.toNat < 3 ∨ 56 < b.toNat) :
    received room b true x = { x with receiver := .hunting, frameErr := true } := by
  have hbad : ¬(Config.minBody ≤ b.toNat && b.toNat ≤ Config.maxBody) = true := by
    rw [Bool.and_eq_true, decide_eq_true_iff, decide_eq_true_iff]
    simp only [Config.minBody, Config.maxBody]
    omega
  simp only [received, hx, Bool.true_and, if_neg hbad]
  rfl

theorem received_inFrame (hx : x.receiver = .inFrame (some length) got) (hlen : got.length + 1 < length + 2) :
    received room b true x = { x with receiver := .inFrame (some length) (got ++ [b]) } := by
  simp only [received, hx, if_true]
  rw [if_pos (by simpa using hlen)]

/-- The second CRC byte: the frame is good, or fails its check. -/
theorem received_last (hx : x.receiver = .inFrame (some length) got) (hlen : got.length = length + 1) :
    received room b true x =
      if halfAt (got ++ [b]) length = crc (BitVec.ofNat 8 length :: got.take length) then
        completed room (got.take length) x
      else { x with receiver := .hunting, frameErr := true } := by
  have hfull : ¬(got ++ [b]).length < length + 2 := by simp [hlen]
  have htake : (got ++ [b]).take length = got.take length := List.take_append_of_le_length (by omega)
  simp only [received, hx, if_true, if_neg hfull, htake]
  rfl

end

theorem isResync_iff (body : List Byte) : isResync body = true ↔ byteAt body 0 = 0x28 ∧ body.length = 3 := by
  simp [isResync, bodyKind, kindResync]

section
variable {s : State} {p : PortId} {body : List Byte} {x : Port}

theorem roomFor_of_lt (h : outstanding s p < 4) : roomFor s p = true := decide_eq_true h
theorem roomFor_of_le (h : 4 ≤ outstanding s p) : roomFor s p = false := decide_eq_false (Nat.not_lt.2 h)

theorem completed_admitted (ho : x.overrun = false) :
    completed true body x = { x with receiver := .hunting, rxBuffer := x.rxBuffer ++ [⟨body, false⟩] } := by
  simp [completed, windowed, admitFrame, ho]

theorem completed_overrun (ho : x.overrun = false) :
    completed false body x = { x with receiver := .hunting, overrun := true } := by
  simp [completed, windowed, ho]

theorem completed_resync (ho : x.overrun = true) (hkind : byteAt body 0 = 0x28) (hlen : body.length = 3) :
    completed true body x =
      { x with receiver := .hunting, rxBuffer := x.rxBuffer ++ [⟨body, true⟩], overrun := false } := by
  simp [completed, windowed, admitFrame, ho, (isResync_iff body).2 ⟨hkind, hlen⟩]

end

/-- Where the window refuses a frame with OVERRUN set, the frame changes nothing but the receiver (R144). -/
theorem completed_lost {room : Bool} {body : List Byte} {x : Port} (ho : x.overrun = true)
    (h : byteAt body 0 ≠ 0x28 ∨ body.length ≠ 3 ∨ room = false) :
    completed room body x = { x with receiver := .hunting } := by
  have hno : ¬(isResync body && room) = true := by
    rw [Bool.and_eq_true, isResync_iff]
    rintro ⟨⟨hkind, hlen⟩, hroom⟩
    obtain h | h | h := h
    · exact h hkind
    · exact h hlen
    · rw [h] at hroom; cases hroom
  simp only [completed, windowed, ho, if_true, if_neg hno]

/-! ### The exchange at the eighth edge (R135, R136) -/

section
variable {s : State} {p : PortId} {b : Byte} {order : EdgeOrder} {taken : Port → Port} {f : TxFrame}
  {rest : List TxFrame} {k : Nat}

/-- What the incoming byte changes is not what the outgoing side reads. -/
theorem taken_inward {room : Bool} (hx : received room b true (portOf s p) = taken (portOf s p)) :
    (taken (portOf s p)).tx = (portOf s p).tx ∧ (taken (portOf s p)).sending = (portOf s p).sending ∧
      (taken (portOf s p)).mode = (portOf s p).mode := by
  rw [← hx]
  exact ⟨(inward_received ..).tx _, (inward_received ..).sending _, (inward_received ..).mode _⟩

theorem exchange_goesOn (hx : received (roomFor s p) b true (portOf s p) = taken (portOf s p)) (htx : (portOf s p).tx = f :: rest)
    (hk : (portOf s p).sending = some k) (hlen : k + 1 < (txBytes f).length) :
    exchange p order (takeByte p b true) s = updPort p (fun x =>
      { taken x with sending := some (k + 1), outByte := some (byteAt (txBytes f) (k + 1)) }) s := by
  have hdone := outgoingDone_byte htx hk hlen
  rw [exchange_takeByte_out (outward_sending _) hdone ((edgeRoom_of_out (order := order) hdone rfl).symm ▸ hx)]
  refine updPort_congr ?_
  exact presentNext_cons (x := { taken (portOf s p) with sending := some (k + 1) }) ((taken_inward hx).1.trans htx) rfl

theorem exchange_frameEnds (hm : (portOf s p).mode = .clocked)
    (hx : received (roomFor s p) b true (portOf s p) = taken (portOf s p)) (htx : (portOf s p).tx = f :: rest)
    (hk : (portOf s p).sending = some k) (hlen : k + 1 = (txBytes f).length)
    (halone : isResponse f = false ∨ (portOf s p).held = []) :
    exchange p order (takeByte p b true) s = updPort p (fun x =>
      { taken x with
        tx      := rest
        sending := if rest = [] then none else some 0
        outByte := some (if rest = [] then 0xFF else 0xD3) }) s := by
  have hdone := (outgoingDone_last htx hk hlen).trans (frameLeaves_alone htx halone)
  rw [exchange_takeByte_out (outward_dropHead rest) hdone ((edgeRoom_of_out (order := order) hdone rfl).symm ▸ hx)]
  refine updPort_congr ?_
  have hmode := (taken_inward hx).2.2.trans hm
  rw [presentNext_fresh (by simp [dropHead, hmode])]
  rfl

/-- The last byte of a response frees its slot for the oldest held response, before or after the incoming byte (log 9). -/
theorem exchange_responseEnds {id : Nat} {ids : List Nat} {e : Entry} {r : Response} (htx : (portOf s p).tx = f :: rest)
    (hk : (portOf s p).sending = some k) (hlen : k + 1 = (txBytes f).length) (hf : isResponse f = true)
    (hheld : (portOf s p).held = id :: ids) (he : entryOf s id = some e) (hresp : e.response = some r) :
    exchange p order (takeByte p b true) s = freeEntry id (updPort p (fun x => presentNext (received (edgeRoom s p order) b true
      (pushTx (.response r) { dropHead rest x with held := ids }))) s) := by
  rw [exchange_takeByte, (outgoingDone_last htx hk hlen).trans (frameLeaves_held htx hf hheld he hresp), updPort_freeEntry,
    updPort_updPort]

theorem outgoingDone_id (hk : (portOf s p).sending = none) : outgoingDone p s = updPort p id s :=
  (outgoingDone_idle hk).trans (updPort_eq_self rfl).symm

theorem exchange_unsent (hx : received (roomFor s p) b true (portOf s p) = taken (portOf s p))
    (hk : (portOf s p).sending = none) :
    exchange p order (takeByte p b true) s = updPort p (fun x => presentNext (taken x)) s := by
  have hdone := outgoingDone_id hk
  exact exchange_takeByte_out (out := id) (outward_of (fun _ _ _ _ _ _ _ _ _ _ _ => rfl) fun _ => rfl) hdone
    ((edgeRoom_of_out (order := order) hdone rfl).symm ▸ hx)

end

/-- Settles O10: the part's own byte in each of its states, with what the incoming one does in each of its. -/
theorem clockedByteIsExchanged : Obligations.ClockedByteIsExchanged := by
  refine ⟨fun s p b order hr hm => ⟨fun hsel => ⟨?_, ?_⟩, fun hsel => ?_, fun good => ?_⟩,
    fun s p b order taken hr hm hsel htaken => ?_,
    fun s p b order length k id got f rest ids e r hr hm hsel hrec hgot hcrc htx hf hk hlen hh he hport hcur hresp ho hfull =>
      ?_⟩
  · rw [exec, execByteReceived, whileRunning_out _ _ hr]
    simp only [hm, hsel, Bool.false_eq_true, if_false]
    refine congrArg Host.Outcome.next (updPort_congr ?_)
    rw [select, presentNext_fresh rfl]
  · rw [exec, execByteReceived, whileRunning_out _ _ hr]
    simp only [hm, canReceive, hsel, Bool.false_eq_true, if_false]
  · rw [exec, execByteReceived, whileRunning_out _ _ hr]
    simp only [hm, hsel, if_true]
  · rw [exec, execByteReceived, whileRunning_out _ _ hr]
    simp only [hm]
  · have hreceived : ∀ room, room = roomFor s p ∨ (∃ f rest k, (portOf s p).tx = f :: rest ∧
        (portOf s p).sending = some k ∧ k + 1 = (txBytes f).length ∧ isResponse f = true ∧ (portOf s p).held ≠ []) →
        received room b true (portOf s p) = taken (portOf s p) := by
      intro room hroom
      obtain ⟨hx, hb, rfl⟩ | ⟨hx, rfl, rfl⟩ | ⟨got, hx, hmin, hmax, rfl⟩ | ⟨got, hx, hb, rfl⟩ |
        ⟨length, got, hx, hlen, rfl⟩ | ⟨length, got, hx, hlen, hcrc, rfl⟩ | ⟨length, got, hx, hlen, hcrc, halone, hwindow⟩ |
        ⟨left, hx, rfl⟩ | ⟨hx, rfl⟩ := htaken
      · exact received_stray hx hb
      · exact received_delimiter hx
      · exact received_length hx hmin hmax
      · exact received_badLength hx hb
      · exact received_inFrame hx hlen
      · rw [received_last hx hlen, if_neg hcrc]
      · have hsame : room = roomFor s p := by
          refine hroom.resolve_right ?_
          rintro ⟨f, rest, k, htx, hk, hlast, hf, hheld⟩
          obtain h | h := halone f rest k htx hk hlast
          · rw [h] at hf; cases hf
          · exact hheld h
        have hlen' : (got.take length).length = length := by rw [List.length_take]; omega
        rw [received_last hx hlen, if_pos hcrc, hsame]
        obtain ⟨ho, hn, rfl⟩ | ⟨ho, hn, rfl⟩ | ⟨ho, hkind, hthree, hn, rfl⟩ | ⟨ho, hlost, rfl⟩ := hwindow
        · rw [roomFor_of_lt hn, completed_admitted ho]
        · rw [roomFor_of_le hn, completed_overrun ho]
        · rw [roomFor_of_lt hn, completed_resync ho hkind (hlen'.trans hthree)]
        · refine completed_lost ho ?_
          rw [hlen']
          exact hlost.imp_right (.imp_right roomFor_of_le)
      · simp [received, hx, skipTo]
      · simp [received, hx, skipTo]
    have hx := hreceived _ (.inl rfl)
    obtain ⟨htx', hk', -⟩ := taken_inward hx
    rw [exec_clockedByte b order hr hm hsel]
    refine ⟨fun f rest k htx hk hlen => congrArg _ (exchange_goesOn hx htx hk hlen),
      fun f rest k htx hk hlen halone => congrArg _ (exchange_frameEnds hm hx htx hk hlen halone),
      fun f rest k id ids e r htx hk hlen hf hh he hresp => ?_, fun htx hk => ?_, fun f rest htx hk => ?_⟩
    · have hx := hreceived (edgeRoom s p order) (.inr ⟨f, rest, k, htx, hk, hlen, hf, by rw [hh]; simp⟩)
      have hmode := (taken_inward hx).2.2.trans hm
      rw [exchange_responseEnds htx hk hlen hf hh he hresp]
      show _ = Host.Outcome.next (updPort p _ (freeEntry id s))
      rw [updPort_freeEntry]
      refine congrArg (fun u => Host.Outcome.next (freeEntry id u)) (updPort_congr ?_)
      rw [(inward_received _ b true).comm (outward_placed rest ids r), hx,
        presentNext_fresh (by simp [pushTx, dropHead, hmode])]
      simp [pushTx, dropHead]
    · rw [exchange_unsent hx hk]
      exact congrArg Host.Outcome.next (updPort_congr (presentNext_idle (htx'.trans htx) (hk'.trans hk)))
    · rw [exchange_unsent hx hk]
      exact congrArg Host.Outcome.next (updPort_congr (presentNext_begins (htx'.trans htx) (hk'.trans hk)))
  · have hdone := (outgoingDone_last htx hk hlen).trans (frameLeaves_held htx hf hh he hresp)
    have hlow : outstanding (outgoingDone p s) p < 4 := by
      rw [hdone, ← hfull]
      exact outstanding_freeEntry he hport hcur rfl
    refine ⟨_, exec_clockedByte b order hr hm hsel, ?_⟩
    rw [exchange_responseEnds htx hk hlen hf hh he hresp]
    refine ⟨by simp [freeEntry], ?_⟩
    rw [freeEntry_portOf, portOf_updPort_same]
    generalize hy : pushTx (.response r) { dropHead rest (portOf s p) with held := ids } = y
    have hrec' : y.receiver = .inFrame (some length) got := hy ▸ hrec
    have ho' : y.overrun = false := hy ▸ ho
    have hrx : y.rxBuffer = (portOf s p).rxBuffer := by rw [← hy]; rfl
    have htx' : y.tx = rest ++ [.response r] := by rw [← hy]; rfl
    have hheld : y.held = ids := by rw [← hy]; rfl
    rw [received_last hrec' hgot, if_pos hcrc]
    cases order with
    | incomingFirst =>
      rw [edgeRoom, roomFor_of_le hfull.ge, completed_overrun ho']
      simp [hrx, htx', hheld]
    | outgoingFirst =>
      rw [edgeRoom, roomFor_of_lt hlow, completed_admitted ho']
      simp [hrx, htx', hheld, ho']

end Sys2Proof.Machine

/-! SUPPORT. A whole frame, byte by byte: every byte but the last moves the receiver alone. O8 is settled here. -/

namespace Sys2Proof.Machine

/-! ### Bytes that move the receiver alone (R140) -/

/-- Each of these good bytes moves a receiver from the one state to the other and changes nothing else. -/
inductive Walk : Receiver → List Byte → Receiver → Prop
  | nil (r : Receiver) : Walk r [] r
  | cons {r r' r'' : Receiver} {b : Byte} {bytes : List Byte}
      (hb : ∀ room x, x.receiver = r → received room b true x = { x with receiver := r' }) (h : Walk r' bytes r'') :
      Walk r (b :: bytes) r''

theorem Walk.append {r r' r'' : Receiver} {a b : List Byte} (h : Walk r a r') (k : Walk r' b r'') :
    Walk r (a ++ b) r'' := by
  induction h with
  | nil => exact k
  | cons hb _ ih => exact .cons hb (ih k)

theorem walk_stray {stray : List Byte} (h : ∀ b ∈ stray, b ≠ 0xD3) : Walk .hunting stray .hunting := by
  induction stray with
  | nil => exact .nil _
  | cons b stray ih =>
    obtain ⟨hb, hrest⟩ := List.forall_mem_cons.1 h
    refine .cons (fun room x hx => ?_) (ih hrest)
    rw [received_stray hx hb]
    simp only [← hx]

/-- The body and the first CRC byte: all but the last of the bytes that follow the length byte. -/
theorem walk_inFrame {length : Nat} (bytes : List Byte) (got : List Byte) (h : got.length + bytes.length < length + 2) :
    Walk (.inFrame (some length) got) bytes (.inFrame (some length) (got ++ bytes)) := by
  induction bytes generalizing got with
  | nil => rw [List.append_nil]; exact .nil _
  | cons b bytes ih =>
    rw [List.length_cons] at h
    have hnext := ih (got ++ [b]) (by rw [List.length_append, List.length_singleton]; omega)
    rw [List.append_assoc, List.singleton_append] at hnext
    exact .cons (fun room x hx => received_inFrame hx (by omega)) hnext

/-- A frame up to its second CRC byte. -/
theorem walk_frame {body : List Byte} (hi : Byte) (hmin : 3 ≤ body.length) (hmax : body.length ≤ 56) :
    Walk .hunting ([0xD3, BitVec.ofNat 8 body.length] ++ body ++ [hi]) (.inFrame (some body.length) (body ++ [hi])) := by
  have hlen : (BitVec.ofNat 8 body.length).toNat = body.length := by rw [BitVec.toNat_ofNat]; omega
  have hbody := walk_inFrame (length := body.length) (body ++ [hi]) [] (by simp)
  refine .cons (fun room x hx => received_delimiter hx) (.cons (r' := .inFrame (some body.length) []) ?_ ?_)
  · intro room x hx
    rw [received_length hx (by omega) (by omega), hlen]
  · simpa using hbody

/-- The last byte of a frame: good under its check word, failing otherwise. -/
theorem received_check {body : List Byte} {room : Bool} {hi lo : Byte} {x : Port}
    (hx : x.receiver = .inFrame (some body.length) (body ++ [hi])) :
    received room lo true x =
      if halfOf hi lo = crc (BitVec.ofNat 8 body.length :: body) then completed room body x
      else { x with receiver := .hunting, frameErr := true } := by
  have hword : halfAt (body ++ [hi] ++ [lo]) body.length = halfOf hi lo := by
    simp [halfAt, byteAt]
  have htake : (body ++ [hi]).take body.length = body := List.take_left
  rw [received_last hx (by simp), hword, htake]

/-! ### Runs -/

theorem runAll_cons {c : Instr} {cs : List Instr} {s t : State} (h : exec c s = .next t) :
    runAll (c :: cs) s = runAll cs t := by
  rw [runAll, h]

theorem runAll_single {c : Instr} {s t : State} (h : exec c s = .next t) : runAll [c] s = some t := runAll_cons h

/-- A change of the receiver of p. -/
abbrev setReceiver (p : PortId) (r : Receiver) (s : State) : State := updPort p (fun x => { x with receiver := r }) s

theorem setReceiver_self {p : PortId} {r : Receiver} {s : State} (h : (portOf s p).receiver = r) :
    setReceiver p r s = s := updPort_eq_self (by simp only [← h])

theorem roomFor_setReceiver (p : PortId) (r : Receiver) (s : State) : roomFor (setReceiver p r s) p = roomFor s p := by
  have hsame : outstanding (setReceiver p r s) p = outstanding s p := outstanding_congr (by simp) rfl
  rw [roomFor, hsame]

theorem runAll_asyncBytes {p : PortId} {bytes : List Byte} {r r' : Receiver} (h : Walk r bytes r') {s : State}
    (hr : s.resetHold = none) (hm : (portOf s p).mode = .async) (hup : (portOf s p).session ≠ .linkDown)
    (hx : (portOf s p).receiver = r) (rest : List Instr) :
    runAll (asyncBytes p bytes ++ rest) s = runAll rest (setReceiver p r' s) := by
  induction h generalizing s with
  | nil => rw [setReceiver_self hx]; rfl
  | @cons r r' r'' b bytes hb _ ih =>
    have hbyte : exec (.byteReceived p b (.stopBit true) .incomingFirst) s = .next (setReceiver p r' s) := by
      rw [exec_asyncByte b true .incomingFirst hr hm hup]
      exact congrArg Host.Outcome.next (updPort_congr (hb _ _ hx))
    refine (runAll_cons hbyte).trans ?_
    refine (ih (s := setReceiver p r' s) hr (by simpa using hm) (by simpa using hup) (by simp)).trans ?_
    rw [setReceiver, updPort_updPort]

theorem LinkMove.selected_eq {p : PortId} {fails : Bool} {s t : State} (h : LinkMove p fails s t) :
    (portOf t p).selected = (portOf s p).selected := by
  cases h with
  | frameSent f rest htx => rw [frameLeaves_port (by rw [htx]; simp)]
  | _ => simp [failFrame, setFrameErr, admitFrame]

theorem LinkMoves.selected_eq {p : PortId} {fails : Bool} {s t : State} (h : LinkMoves p fails s t) :
    (portOf t p).selected = (portOf s p).selected :=
  h.keeps (P := fun u => (portOf u p).selected = (portOf s p).selected) (fun _ _ hu hm => hm.selected_eq.trans hu) rfl

theorem exchange_id (p : PortId) (s : State) :
    exchange p .incomingFirst id s = updPort p presentNext (outgoingDone p s) := rfl

/-- On CLOCKED such bytes are exchanged for the part's own. -/
theorem runAll_clockedBytes {p : PortId} {order : EdgeOrder} {bytes : List Byte} {r r' : Receiver} (h : Walk r bytes r')
    {s : State} (hr : s.resetHold = none) (hm : (portOf s p).mode = .clocked) (hsel : (portOf s p).selected = true)
    (rest : List Instr) :
    runAll (clockedBytes p order bytes ++ rest) (setReceiver p r s) =
      runAll rest (setReceiver p r' (exchangeOut p bytes.length s)) := by
  induction h generalizing s with
  | nil => rfl
  | @cons r r' r'' b bytes hb _ ih =>
    have hbyte : exec (.byteReceived p b .eighthEdge order) (setReceiver p r s) =
        .next (setReceiver p r' (exchange p .incomingFirst id s)) := by
      rw [exec_clockedByte (s := setReceiver p r s) b order hr (by simpa using hm) (by simpa using hsel), exchange_takeByte,
        outgoingDone_inward (inward_receiver r), updPort_updPort, exchange_id]
      show _ = Host.Outcome.next (updPort p _ (updPort p presentNext _))
      rw [updPort_updPort]
      refine congrArg Host.Outcome.next (updPort_congr ?_)
      rw [hb _ _ rfl, (inward_receiver r').comm outward_presentNext]
    refine (runAll_cons hbyte).trans ?_
    have hmoves := exchangeOut_moves (p := p) (fails := false) 1 hm
    have hhold : (exchangeOut p 1 s).resetHold = s.resetHold := resetHold_of_lessTraffic hmoves.frame
    exact ih (s := exchangeOut p 1 s) (hhold.trans hr) (hmoves.mode_eq.trans hm) (hmoves.selected_eq.trans hsel)

/-! ### The whole frame -/

/-- What the last byte of a frame does to the port: the frame is good under its check word, or fails (R140). -/
def frameEnd (body : List Byte) (hi lo : Byte) (room : Bool) (x : Port) : Port :=
  if halfOf hi lo = crc (BitVec.ofNat 8 body.length :: body) then completed room body x
  else { x with receiver := .hunting, frameErr := true }

/-- The end of a frame does not heed the state of the receiver before it. -/
theorem received_frameEnd {body : List Byte} {room : Bool} {hi lo : Byte} (x : Port) :
    received room lo true { x with receiver := .inFrame (some body.length) (body ++ [hi]) } = frameEnd body hi lo room x := by
  rw [received_check rfl, frameEnd]
  split <;> rfl

section
variable {s : State} {p : PortId} {body pre : List Byte} {hi lo : Byte} (hr : s.resetHold = none)
  (hwalk : Walk .hunting pre (.inFrame (some body.length) (body ++ [hi])))
include hr hwalk

theorem runAll_asyncFrame (hm : (portOf s p).mode = .async) (hup : (portOf s p).session ≠ .linkDown)
    (hx : (portOf s p).receiver = .hunting) :
    runAll (asyncBytes p (pre ++ [lo])) s = some (updPort p (frameEnd body hi lo (roomFor s p)) s) := by
  have hbytes : asyncBytes p (pre ++ [lo]) = asyncBytes p pre ++ asyncBytes p [lo] := List.map_append
  rw [hbytes, runAll_asyncBytes hwalk hr hm hup hx]
  refine (runAll_single (exec_asyncByte (s := setReceiver p _ s) lo true .incomingFirst hr (by simpa using hm)
    (by simpa using hup))).trans ?_
  rw [updPort_updPort, roomFor_setReceiver]
  exact congrArg some (updPort_congr (received_frameEnd _))

theorem runAll_clockedFrame (early order : EdgeOrder) (hm : (portOf s p).mode = .clocked)
    (hsel : (portOf s p).selected = true) (hx : (portOf s p).receiver = .hunting) :
    runAll (clockedBytes p early pre ++ clockedBytes p order [lo]) s =
      some (updPort p (fun x => presentNext (frameEnd body hi lo (edgeRoom (exchangeOut p pre.length s) p order) x))
        (outgoingDone p (exchangeOut p pre.length s))) := by
  have hmoves := exchangeOut_moves (p := p) (fails := false) pre.length hm
  have hhold : (exchangeOut p pre.length s).resetHold = s.resetHold := resetHold_of_lessTraffic hmoves.frame
  generalize hu : exchangeOut p pre.length s = u at hmoves hhold
  have hstart := runAll_clockedBytes (order := early) hwalk hr hm hsel (clockedBytes p order [lo])
  rw [setReceiver_self hx, hu] at hstart
  rw [hstart]
  generalize hrec : Receiver.inFrame (some body.length) (body ++ [hi]) = r
  refine (runAll_single (exec_clockedByte (s := setReceiver p r u) lo order (hhold.trans hr)
    (by simpa using hmoves.mode_eq.trans hm) (by simpa using hmoves.selected_eq.trans hsel))).trans ?_
  have hroom : edgeRoom (setReceiver p r u) p order = edgeRoom u p order := by
    cases order with
    | incomingFirst => exact roomFor_setReceiver p r u
    | outgoingFirst =>
      rw [edgeRoom, edgeRoom, outgoingDone_inward (inward_receiver r), ← setReceiver, roomFor_setReceiver]
  rw [exchange_takeByte, hroom, outgoingDone_inward (inward_receiver r), updPort_updPort]
  refine congrArg some (updPort_congr ?_)
  rw [← hrec, received_frameEnd]

end

theorem wireFrame_eq (body : List Byte) : ∃ hi lo, halfOf hi lo = crc (BitVec.ofNat 8 body.length :: body) ∧
    wireFrame body = ([0xD3, BitVec.ofNat 8 body.length] ++ body ++ [hi]) ++ [lo] :=
  ⟨_, _, halfOf_halfBytes _, by simp [wireFrame, halfBytes, delimiter]⟩

/-- FRAME_RECEIVED on a CLOCKED port that hunts: the edge of the frame's last byte, after those before it. -/
theorem exec_frameReceived_clocked {s : State} {p : PortId} {body : List Byte} (order : EdgeOrder)
    (hr : s.resetHold = none) (hm : (portOf s p).mode = .clocked) (hsel : (portOf s p).selected = true)
    (hx : (portOf s p).receiver = .hunting) (hmin : 3 ≤ body.length) (hmax : body.length ≤ 56) :
    exec (.frameReceived p ⟨body, order⟩) s = .next (updPort p
      (fun x => presentNext (completed (edgeRoom (exchangeOut p (body.length + 3) s) p order) body x))
      (outgoingDone p (exchangeOut p (body.length + 3) s))) := by
  have hlen : Config.minBody ≤ body.length ∧ body.length ≤ Config.maxBody := ⟨hmin, hmax⟩
  rw [exec, execFrameReceived, whileRunning_out _ _ hr]
  simp only [canReceive_clocked hm hsel, hlen.1, hlen.2, hx, frameFits, decide_true, Bool.and_self, if_true, hm, bytesToCome]
  rw [show body.length + 4 - 1 = body.length + 3 from rfl,
    exchange_eq (inward_completed · body) p order (goodFrame_eq p body)]
  cases order <;> rfl

/-- FRAME_ERROR with another check word on such a port. -/
theorem exec_crcMismatch_clocked {s : State} {p : PortId} {length : Nat} (hr : s.resetHold = none)
    (hm : (portOf s p).mode = .clocked) (hsel : (portOf s p).selected = true)
    (hx : (portOf s p).receiver = .hunting) (hmin : 3 ≤ length) (hmax : length ≤ 56) :
    exec (.frameError p (.crcMismatch length)) s = .next (updPort p (fun x => presentNext (failFrame .hunting x))
      (outgoingDone p (exchangeOut p (length + 3) s))) := by
  have hlen : Config.minBody ≤ length ∧ length ≤ Config.maxBody := ⟨hmin, hmax⟩
  rw [exec, execFrameError, whileRunning_out _ _ hr]
  simp only [canReceive_clocked hm hsel, hlen.1, hlen.2, hx, failureFits, decide_true, Bool.and_self, if_true, hm,
    bytesToFailure, bytesToCome, afterFailure]
  rw [show length + 4 - 1 = length + 3 from rfl, exchange_inward (inward_failFrame _)]

/-- Settles O8: up to its last byte a frame moves the receiver alone, and that byte does what the command does. -/
theorem bytesMakeAFrame : Obligations.BytesMakeAFrame := by
  refine ⟨fun s p stray body order hr hm hup hx hstray hmin hmax => ?_,
    fun s p body hi lo hr hm hup hx hmin hmax hbad => ?_,
    fun s p body early order hr hm hsel hx hmin hmax => ?_,
    fun s p body hi lo order hr hm hsel hx hmin hmax hbad => ?_⟩
  · obtain ⟨hi, lo, hcrc, hwire⟩ := wireFrame_eq body
    have hwalk := (walk_stray hstray).append (walk_frame hi hmin hmax)
    rw [hwire, ← List.append_assoc, runAll_asyncFrame hr hwalk hm hup hx,
      runAll_single (exec_frameReceived hr hmin hmax (by rw [hx]; rfl) (.inl ⟨hm, hup, rfl⟩))]
    exact congrArg some (updPort_congr (if_pos hcrc))
  · have hbytes : [0xD3, BitVec.ofNat 8 body.length] ++ body ++ [hi, lo] =
        ([0xD3, BitVec.ofNat 8 body.length] ++ body ++ [hi]) ++ [lo] := by simp
    rw [hbytes, runAll_asyncFrame hr (walk_frame hi hmin hmax) hm hup hx]
    refine congrArg some (updPort_congr ?_)
    rw [frameEnd, if_neg hbad, ← hx]
  · obtain ⟨hi, lo, hcrc, hwire⟩ := wireFrame_eq body
    have hlen : ([0xD3, BitVec.ofNat 8 body.length] ++ body ++ [hi]).length = body.length + 3 := by simp
    rw [hwire, List.take_left' hlen, List.drop_left' hlen,
      runAll_clockedFrame hr (walk_frame hi hmin hmax) early order hm hsel hx, hlen,
      runAll_single (exec_frameReceived_clocked order hr hm hsel hx hmin hmax)]
    refine congrArg some (updPort_congr ?_)
    rw [frameEnd, if_pos hcrc]
  · have hlen : ([0xD3, BitVec.ofNat 8 body.length] ++ body ++ [hi]).length = body.length + 3 := by simp
    have hbytes : clockedBytes p order ([0xD3, BitVec.ofNat 8 body.length] ++ body ++ [hi, lo]) =
        clockedBytes p order ([0xD3, BitVec.ofNat 8 body.length] ++ body ++ [hi]) ++ clockedBytes p order [lo] := by
      rw [clockedBytes, clockedBytes, clockedBytes, ← List.map_append]
      simp
    rw [hbytes, runAll_clockedFrame hr (walk_frame hi hmin hmax) order order hm hsel hx, hlen,
      runAll_single (exec_crcMismatch_clocked hr hm hsel hx hmin hmax)]
    refine congrArg some (updPort_congr ?_)
    rw [frameEnd, if_neg hbad]
    rfl

end Sys2Proof.Machine

/-! SUPPORT. The end of a session and what requests do to the ports. O6, O29 and O33 are settled here. -/

namespace Sys2Proof.Machine

/-! ### The teardown (R123) -/

section
variable (p : PortId) (keep : Option Nat) (s : State)

theorem teardown_table : (teardown p keep s).table =
    s.table.filterMap (fun e => if endsWith p keep e then endEntry e else some e) := rfl

theorem teardown_portOf_other {q : PortId} (h : q ≠ p) : portOf (teardown p keep s) q = portOf s q :=
  (portOf_congr (t := teardown p keep s) (s := updPort p (fun x => { x with rxBuffer := [], flush := none }) s) rfl q).trans
    (portOf_updPort_other p q _ s h)

end

section
variable {p : PortId} {keep : Option Nat} {s : State} {e : Entry}

theorem endsWith_iff : endsWith p keep e = true ↔ e.port = p ∧ e.current = true ∧ keep ≠ some e.id := by
  simp [endsWith, and_assoc]

theorem endEntry_remains {e x : Entry} (h : endEntry e = some x) : Remains e x ∧ x.current = false := by
  unfold endEntry at h
  split at h <;> cases h <;> exact ⟨⟨rfl, rfl, rfl, rfl, rfl, fun h => by cases h⟩, rfl⟩

/-- An entry of the table after a teardown: one that did not end, or what the end of its session left of one. -/
theorem mem_teardown :
    e ∈ (teardown p keep s).table ↔
      e ∈ s.table ∧ endsWith p keep e = false ∨ ∃ d ∈ s.table, endsWith p keep d = true ∧ endEntry d = some e := by
  rw [teardown_table, List.mem_filterMap]
  constructor
  · rintro ⟨d, hd, h⟩
    split at h
    case isTrue hends => exact .inr ⟨d, hd, hends, h⟩
    case isFalse hends => cases h; exact .inl ⟨hd, by simpa using hends⟩
  · rintro (⟨he, hends⟩ | ⟨d, hd, hends, h⟩)
    · exact ⟨e, he, if_neg (by simp [hends])⟩
    · exact ⟨d, hd, (if_pos hends).trans h⟩

/-- The ending numbers, as a test on the table. -/
theorem contains_endingIds (id : Nat) :
    (endingIds p keep s).contains id =
      s.table.any (fun e => e.id == id && e.port == p && e.current && keep != some e.id) := by
  rw [Bool.eq_iff_iff, List.contains_iff_mem, List.any_eq_true]
  simp only [endingIds, List.mem_map, List.mem_filter, endsWith, Bool.and_eq_true, beq_iff_eq]
  constructor
  · rintro ⟨e, ⟨he, ⟨hport, hcur⟩, hkeep⟩, hid⟩
    exact ⟨e, he, ⟨⟨hid, hport⟩, hcur⟩, hkeep⟩
  · rintro ⟨e, he, ⟨⟨hid, hport⟩, hcur⟩, hkeep⟩
    exact ⟨e, ⟨he, ⟨hport, hcur⟩, hkeep⟩, hid⟩

theorem not_mem_filter_endingIds (he : e ∈ s.table) (hends : endsWith p keep e = true) (l : List Nat) :
    e.id ∉ l.filter (fun id => !(endingIds p keep s).contains id) := by
  have hmem : (endingIds p keep s).contains e.id = true :=
    List.contains_iff_mem.2 (List.mem_map.2 ⟨e, List.mem_filter.2 ⟨he, hends⟩, rfl⟩)
  intro h
  have := (List.mem_filter.1 h).2
  rw [hmem] at this
  cases this

theorem mem_teardown_other (h : e.port ≠ p) : e ∈ (teardown p keep s).table ↔ e ∈ s.table := by
  rw [mem_teardown]
  constructor
  · rintro (⟨he, -⟩ | ⟨d, hd, hends, hde⟩)
    · exact he
    · exact absurd ((endEntry_remains hde).1.port.trans (endsWith_iff.1 hends).1) h
  · exact fun he => .inl ⟨he, by simp [endsWith, h]⟩

end

/-- Settles O29: an entry after the teardown did not end, or is what the end of its session left of one. -/
theorem teardownEndsWhatTheSessionHeld : Obligations.TeardownEndsWhatTheSessionHeld := by
  rintro s t p keep rfl
  have hends : ∀ e : Entry, e.port = p → e.current = true → keep ≠ some e.id → endsWith p keep e = true :=
    fun e hport hcur hkeep => endsWith_iff.2 ⟨hport, hcur, hkeep⟩
  have hlists : ∀ l : List Nat, l.filter (fun id => !(endingIds p keep s).contains id) =
      l.filter (fun id => !s.table.any (fun e => e.id == id && e.port == p && e.current && keep != some e.id)) :=
    fun l => by simp only [contains_endingIds]
  refine ⟨portOf_teardown_same p keep s, fun q hq => teardown_portOf_other p keep s hq, fun e he hkept => ?_,
    fun e he hport hcur hkeep => ⟨fun hst => ?_, fun hst => ?_, fun hst => ⟨fun hmem => ?_, ?_, ?_⟩⟩, fun e he hport hcur => ?_,
    fun e he hport => (mem_teardown_other hport).1 he, rfl, rfl, rfl, hlists _, hlists _, rfl, rfl⟩
  · refine mem_teardown.2 (.inl ⟨he, ?_⟩)
    rw [← Bool.not_eq_true, endsWith_iff]
    rintro ⟨hport, hcur, hkeep⟩
    obtain h | h | h := hkept
    · exact h hport
    · rw [h] at hcur; cases hcur
    · exact hkeep h
  · exact mem_teardown.2 (.inr ⟨e, he, hends e hport hcur hkeep, by simp [endEntry, hst]⟩)
  · exact mem_teardown.2 (.inr ⟨e, he, hends e hport hcur hkeep, by simp [endEntry, hst]⟩)
  · obtain ⟨-, hno⟩ | ⟨d, -, -, hde⟩ := mem_teardown.1 hmem
    · rw [hends e hport hcur hkeep] at hno; cases hno
    · rw [(endEntry_remains hde).2] at hcur; cases hcur
  · exact not_mem_filter_endingIds he (hends e hport hcur hkeep) _
  · exact not_mem_filter_endingIds he (hends e hport hcur hkeep) _
  · obtain ⟨-, hno⟩ | ⟨d, -, -, hde⟩ := mem_teardown.1 he
    · by_contra hkeep
      rw [hends e hport hcur hkeep] at hno; cases hno
    · rw [(endEntry_remains hde).2] at hcur; cases hcur

/-! ### Attention (R139) -/

/-- The state once a session of p, if it has one, is torn down. -/
def sessionEnded (p : PortId) (s : State) : State := if (portOf s p).session = .session then teardown p none s else s

section
variable (p : PortId) (s : State)

theorem sessionEnded_portOf_same : portOf (sessionEnded p s) p = { portOf s p with
    rxBuffer := if (portOf s p).session = .session then [] else (portOf s p).rxBuffer
    flush    := if (portOf s p).session = .session then none else (portOf s p).flush } := by
  unfold sessionEnded
  split
  · exact portOf_teardown_same p none s
  · rfl

theorem sessionEnded_portOf_other {q : PortId} (h : q ≠ p) : portOf (sessionEnded p s) q = portOf s q := by
  unfold sessionEnded
  split
  · exact teardown_portOf_other p none s h
  · rfl

theorem sessionEnded_partState : (sessionEnded p s).partState = s.partState := by
  unfold sessionEnded; split <;> rfl

end

theorem linkup_restarted (p : PortId) (part : PartState) (x : Port) (hm : x.mode = .clocked) :
    offerNotice (.linkup p part) (restartLink x) =
      { restartLink x with tx := [.notice (.linkup p part) false] } := by
  simp [offerNotice, pushTx, restartLink, noticeCount, Config.noticeSlots, hm]

/-- The state before the link of p restarts: the session ended, the entries of p but an ORPHAN freed. -/
def entriesFreed (p : PortId) (s : State) : State :=
  { sessionEnded p s with table := (sessionEnded p s).table.filter (fun e => !freedByAttention p e) }

theorem entriesFreed_portOf (p q : PortId) (s : State) : portOf (entriesFreed p s) q = portOf (sessionEnded p s) q :=
  portOf_congr rfl q

theorem attend_eq (p : PortId) (s : State) : attend p s = updPort p (fun x =>
    if x.mode = .clocked then offerNotice (.linkup p s.partState) (restartLink x) else restartLink x)
    (entriesFreed p s) := by
  have hmode : (portOf (updPort p restartLink (entriesFreed p s)) p).mode = (portOf (entriesFreed p s) p).mode := by
    rw [portOf_updPort_same]; rfl
  have hpart : (updPort p restartLink (entriesFreed p s)).partState = s.partState := sessionEnded_partState p s
  show (if (portOf (updPort p restartLink (entriesFreed p s)) p).mode = .clocked then
    placeLinkup p (updPort p restartLink (entriesFreed p s)) else updPort p restartLink (entriesFreed p s)) = _
  rw [hmode]
  split
  case isTrue hm =>
    rw [placeLinkup, hpart, updPort_updPort]
    exact updPort_congr (if_pos hm).symm
  case isFalse hm => exact updPort_congr (if_neg hm).symm

theorem attend_portOf_same (p : PortId) (s : State) : portOf (attend p s) p = { portOf s p with
    session   := (match (portOf s p).mode with | .async => .linkDown | .clocked => .linkUp)
    bitPeriod := none
    receiver  := .hunting
    rxBuffer  := []
    tx        := (match (portOf s p).mode with
      | .async => [] | .clocked => [.notice (.linkup p s.partState) false])
    sending   := none
    outByte   := none
    selected  := false
    overrun   := false
    noticeGap := false
    flush     := if (portOf s p).session = .session then none else (portOf s p).flush
    held      := [] } := by
  rw [attend_eq, portOf_updPort_same, entriesFreed_portOf, sessionEnded_portOf_same]
  dsimp only
  cases hm : (portOf s p).mode with
  | async => simp [restartLink]
  | clocked =>
    rw [if_pos rfl, linkup_restarted _ _ _ rfl]
    rfl

theorem attend_portOf_other (p : PortId) (s : State) {q : PortId} (h : q ≠ p) : portOf (attend p s) q = portOf s q := by
  rw [attend_eq, portOf_updPort_other _ _ _ _ h, entriesFreed_portOf, sessionEnded_portOf_other p s h]

theorem mem_attend {p : PortId} {s : State} {e : Entry} :
    e ∈ (attend p s).table ↔ e ∈ (sessionEnded p s).table ∧ (e.port ≠ p ∨ e.state = .orphan) := by
  rw [attend_eq]
  show e ∈ (sessionEnded p s).table.filter _ ↔ _
  rw [List.mem_filter, freedByAttention, Bool.not_eq_true', Bool.and_eq_false_iff, beq_eq_false_iff_ne, bne_eq_false_iff_eq]

/-- What attention leaves is the state with its session ended, the ports and the table apart. -/
theorem attend_lessTraffic (p : PortId) (s : State) : (attend p s).lessTraffic = (sessionEnded p s).lessTraffic := by
  rw [attend_eq]
  rfl

/-- Settles O6. -/
theorem attentionRestartsTheLink : Obligations.AttentionRestartsTheLink := by
  refine ⟨fun s p hr hup hsel => ⟨attend p s, ?_, attend_portOf_same p s, fun q hq => attend_portOf_other p s hq,
    fun e he hport => ?_, fun e he hport horphan hcur => ?_, fun e he hport hst hcur hsession => ?_, fun e hport => ?_,
    fun hsession => ?_, fun hsession => ?_, ?_⟩, fun s p hno => ?_⟩
  · have hcan : (linkIsUp s p && !((portOf s p).mode == .clocked && (portOf s p).selected)) = true := by
      cases hm : (portOf s p).mode with
      | async => simpa [linkIsUp] using hup
      | clocked => simpa [linkIsUp, hsel hm] using hup
    rw [exec, execAttention, whileRunning_out _ _ hr]
    simp only [hcan, if_true]
  · exact (mem_attend.1 he).2.resolve_left (fun h => h hport)
  · refine mem_attend.2 ⟨?_, .inr horphan⟩
    unfold sessionEnded
    split
    · exact mem_teardown.2 (.inl ⟨he, by simp [endsWith, hcur]⟩)
    · exact he
  · refine mem_attend.2 ⟨?_, .inr rfl⟩
    rw [sessionEnded, if_pos hsession]
    exact mem_teardown.2 (.inr ⟨e, he, by simp [endsWith, hport, hcur], by simp [endEntry, hst]⟩)
  · rw [mem_attend]
    have hended : e ∈ (sessionEnded p s).table ↔ e ∈ s.table := by
      unfold sessionEnded
      split
      · exact mem_teardown_other hport
      · exact Iff.rfl
    rw [hended]
    exact ⟨fun h => h.1, fun h => ⟨h, .inl hport⟩⟩
  · have hless := attend_lessTraffic p s
    rw [sessionEnded, if_pos hsession] at hless
    have hlists : ∀ l : List Nat, l.filter (fun id => !(endingIds p none s).contains id) =
        l.filter (fun id => !s.table.any (fun e => e.id == id && e.port == p && e.current)) := fun l => by
      have hnone : ∀ id : Nat, (none != some id) = true := fun _ => rfl
      simp only [contains_endingIds, hnone, Bool.and_true]
    refine ⟨claims_of_lessTraffic hless, watches_of_lessTraffic hless, queue_of_lessTraffic hless,
      (spaceWait_of_lessTraffic hless).trans (hlists _), (fetchWait_of_lessTraffic hless).trans (hlists _), ?_⟩
    rw [starvation_of_lessTraffic hless, fetchWait_of_lessTraffic hless]
    rfl
  · have hless := attend_lessTraffic p s
    rw [sessionEnded, if_neg hsession] at hless
    exact ⟨claims_of_lessTraffic hless, watches_of_lessTraffic hless, queue_of_lessTraffic hless,
      spaceWait_of_lessTraffic hless, fetchWait_of_lessTraffic hless, starvation_of_lessTraffic hless⟩
  · have hless := eq_of_lessTraffic (attend_lessTraffic p s)
    rw [hless]
    unfold sessionEnded
    split <;> rfl
  · by_cases hr : s.resetHold = none
    · rw [exec, execAttention, whileRunning_out _ _ hr]
      obtain hdown | ⟨hm, hsel⟩ := hno
      · simp [linkIsUp, hdown]
      · simp [hm, hsel]
    · exact exec_held hr rfl

/-! ### What requests do to ports and table -/

/-- What a request of this kind does to the port it came on (R38, R87, R120 to R122, R127). -/
inductive HandledPort (kind : Byte) (x : Port) : Port → Prop
  | moved {y : Port} (h : PortMoves x y) : HandledPort kind x y
  | opened {x' y : Port} (hk : kind = kindOpen) (hx : x' = x ∨ x' = { x with rxBuffer := [], flush := none })
      (h : PortMoves (beginSession x') y) : HandledPort kind x y
  | closed {y : Port} (hk : kind = kindClose) (h : PortMoves x y) :
      HandledPort kind x { y with rxBuffer := [], flush := none, session := .linkUp }
  | told {y : Port} (hk : kind = kindStatus) (h : PortMoves x y) : HandledPort kind x (clearFrameErr y)

theorem endSessionless_table (p : PortId) (keep : Nat) (s : State) :
    Shrinks s.table (endSessionless p keep s).table := by
  refine .map s.table fun e => ?_
  split
  · exact ⟨rfl, rfl, rfl, rfl, rfl, fun h => by cases h⟩
  · exact .refl e

theorem teardown_shrinks (p : PortId) (keep : Option Nat) (s : State) : Shrinks s.table (teardown p keep s).table := by
  refine ⟨_, teardown_table p keep s, fun e x h => ?_⟩
  split at h
  · exact (endEntry_remains h).1
  · cases h; exact .refl e

/-- The state in which an OPEN begins its session: the old one torn down, or the entries held without one ended. -/
def openedFrom (e : Entry) (s : State) : State :=
  if (portOf s e.port).session = .session then teardown e.port (some e.id) s else endSessionless e.port e.id s

theorem handleOpen_eq (e : Entry) (s : State) : handleOpen e s =
    answer e.id (.opened (nextEpoch (portOf (openedFrom e s) e.port).epoch) (openedFrom e s).partState)
      (updPort e.port beginSession (openedFrom e s)) := rfl

theorem openedFrom_portOf_other (e : Entry) (s : State) {q : PortId} (h : q ≠ e.port) :
    portOf (openedFrom e s) q = portOf s q := by
  unfold openedFrom
  split
  · exact teardown_portOf_other _ _ s h
  · exact portOf_congr rfl q

theorem openedFrom_portOf_same (e : Entry) (s : State) : portOf (openedFrom e s) e.port = portOf s e.port ∨
    portOf (openedFrom e s) e.port = { portOf s e.port with rxBuffer := [], flush := none } := by
  unfold openedFrom
  split
  · exact .inr (portOf_teardown_same _ _ s)
  · exact .inl (portOf_congr rfl _)

theorem openedFrom_shrinks (e : Entry) (s : State) : Shrinks s.table (openedFrom e s).table := by
  unfold openedFrom
  split
  · exact teardown_shrinks _ _ s
  · exact endSessionless_table _ _ s

theorem Shrinks.setState (l : List Entry) (id : Nat) (x : EntryState) :
    Shrinks l (l.map (fun e => if e.id = id then { e with state := x } else e)) := by
  refine .map l fun e => ?_
  split
  · exact ⟨rfl, rfl, rfl, rfl, rfl, fun h => h⟩
  · exact .refl e

theorem joinFetch_traffic (e : Entry) (s : State) : Traffic s (joinFetch e s) := .of_table rfl (.setState _ _ _)

theorem joinWaiters_traffic (e : Entry) (s : State) : Traffic s (joinWaiters e s) := .of_table rfl (.setState _ _ _)

theorem openFlush_traffic (e : Entry) (s : State) : Traffic s (openFlush e s) := by
  have hopen := Traffic.updPort (p := e.port)
    (f := fun x => { x with flush := some ⟨e.tag, originCount e.port s.queue, false⟩ })
    (s := { s with queue := markQueue e.port s.queue }) (.single (.flushChanged _))
  exact Traffic.trans (u := openFlush e s) (hopen.after rfl rfl) (.of_table rfl (.setState s.table e.id .waitFlush))

/-- A request other than OPEN, CLOSE and STATUS moves answers, notices and FLUSH records alone. -/
theorem Handled.traffic {e : Entry} {s u : State} (h : Handled e s u) :
    Traffic s u ∨ e.kind = kindOpen ∧ u = handleOpen e s ∨ e.kind = kindClose ∧ u = handleClose e s ∨
      e.kind = kindStatus ∧ u = handleStatus e s := by
  cases h with
  | answered a => exact .inl (answer_traffic _ _ _)
  | readWaits => exact .inl (joinFetch_traffic e s)
  | changeWaits => exact .inl (joinWaiters_traffic e s)
  | changed _ _ b _ => exact .inl (acceptChange_traffic e b s)
  | flushOpens => exact .inl (openFlush_traffic e s)
  | claimed => exact .inl ((answer_traffic _ _ _).after rfl rfl)
  | released => exact .inl ((answer_traffic _ _ _).after rfl rfl)
  | watched => exact .inl ((answer_traffic _ _ _).after rfl rfl)
  | unwatched => exact .inl ((answer_traffic _ _ _).after rfl rfl)
  | opened hk => exact .inr (.inl ⟨hk, rfl⟩)
  | closed hk => exact .inr (.inr (.inl ⟨hk, rfl⟩))
  | statusTold hk => exact .inr (.inr (.inr ⟨hk, rfl⟩))

/-- A request moves answers, notices and FLUSH records, and its own port as its kind does. -/
theorem Handled.ports {e : Entry} {s u : State} (h : Handled e s u) :
    (∀ q, q ≠ e.port → PortMoves (portOf s q) (portOf u q)) ∧
      HandledPort e.kind (portOf s e.port) (portOf u e.port) := by
  obtain h | ⟨hk, rfl⟩ | ⟨hk, rfl⟩ | ⟨hk, rfl⟩ := h.traffic
  · exact ⟨fun q _ => h.ports q, .moved (h.ports e.port)⟩
  · rw [handleOpen_eq]
    have htraffic := answer_traffic e.id
      (.opened (nextEpoch (portOf (openedFrom e s) e.port).epoch) (openedFrom e s).partState)
      (updPort e.port beginSession (openedFrom e s))
    refine ⟨fun q hq => ?_, .opened hk (openedFrom_portOf_same e s) ?_⟩
    · have hmoves := htraffic.ports q
      rwa [portOf_updPort_other _ _ _ _ hq, openedFrom_portOf_other e s hq] at hmoves
    · have hmoves := htraffic.ports e.port
      rwa [portOf_updPort_same] at hmoves
  · have htraffic := answer_traffic e.id (.closed (portOf s e.port).epoch) s
    refine ⟨fun q hq => ?_, ?_⟩
    · rw [handleClose, portOf_updPort_other _ _ _ _ hq, teardown_portOf_other _ _ _ hq]
      exact htraffic.ports q
    · rw [handleClose, portOf_updPort_same, portOf_teardown_same]
      exact HandledPort.closed (y := portOf (answer e.id (.closed (portOf s e.port).epoch) s) e.port) hk
        (htraffic.ports e.port)
  · have htraffic := answer_traffic e.id (.statusInfo (statusInfoOf s e.port)) s
    refine ⟨fun q hq => ?_, ?_⟩
    · rw [handleStatus, portOf_updPort_other _ _ _ _ hq]
      exact htraffic.ports q
    · rw [handleStatus, portOf_updPort_same]
      exact .told hk (htraffic.ports e.port)

/-- A request leaves no entry in the table that was not there. -/
theorem Handled.table {e : Entry} {s u : State} (h : Handled e s u) : Shrinks s.table u.table := by
  obtain h | ⟨-, rfl⟩ | ⟨-, rfl⟩ | ⟨-, rfl⟩ := h.traffic
  · exact h.table
  · rw [handleOpen_eq]
    exact (openedFrom_shrinks e s).trans (answer_traffic _ _ (updPort e.port beginSession (openedFrom e s))).table
  · exact (answer_traffic _ _ s).table.trans (teardown_shrinks _ _ _)
  · exact (answer_traffic _ _ s).table

/-! ### FRAME_ERR (R142) -/

theorem LinkMoves.frameErr {p : PortId} {fails : Bool} {s t : State} (h : LinkMoves p fails s t) :
    (portOf t p).frameErr = (portOf s p).frameErr ∨ fails = true ∧ (portOf t p).frameErr = true := by
  refine h.keeps (P := fun u => (portOf u p).frameErr = (portOf s p).frameErr ∨
    fails = true ∧ (portOf u p).frameErr = true) (fun u v hu hm => ?_) (.inl rfl)
  have hsame : (portOf v p).frameErr = (portOf u p).frameErr ∨ fails = true ∧ (portOf v p).frameErr = true := by
    cases hm with
    | failure hf => exact .inr ⟨hf, by simp [failFrame, setFrameErr]⟩
    | frameSent f rest htx => left; rw [frameLeaves_port (by rw [htx]; simp)]
    | _ => left; simp [admitFrame]
  obtain h | h := hsame
  · rwa [h]
  · exact .inr h

/-- The commands by which a frame of p can fail (R141). -/
abbrev FailsFrame (p : PortId) (c : Instr) : Prop :=
  (∃ f, c = .frameError p f) ∨ c = .interByteGapTimeout p ∨ c = .deselection p ∨
    ∃ b moment order, c = .byteReceived p b moment order

theorem LinkCommand.failsFrame {p : PortId} {c : Instr} (h : LinkCommand p c) (hf : mayFail c = true) :
    FailsFrame p c := by
  obtain ⟨_, rfl⟩ | h | h | rfl | h := h
  · cases hf
  · exact .inl h
  · exact .inr (.inl h)
  · cases hf
  · exact .inr (.inr (.inr h))

/-- The row of a STATUS is that of no other kind (R127). -/
theorem TakenBy.status {s : State} {p last : PortId} {f : RxFrame} {c : Instr} (h : TakenBy s p f c last)
    (hk : bodyKind f.body = kindStatus) : c = .status p ∨ c = .poolGrant := by
  obtain ⟨rfl, -⟩ | ⟨rfl, -⟩ := h
  · rw [hk]; exact .inl rfl
  · exact .inr rfl

section
variable (p : PortId) (id : Nat) (f : RxFrame) (rest : List RxFrame) (last : PortId) (s : State)

theorem taken_portOf_same : portOf (taken p id f rest last s) p = { portOf s p with rxBuffer := rest } := by
  have hsame : portOf { s with lastGranted := last } p = portOf s p := portOf_congr rfl p
  rw [takeFrame_portOf_same, hsame]

theorem taken_portOf_other {q : PortId} (h : q ≠ p) : portOf (taken p id f rest last s) q = portOf s q := by
  rw [takeFrame_portOf_other _ _ _ _ _ _ h]
  exact portOf_congr rfl q

end

theorem scanFetchDone_traffic (slot : Nat) (withdrawn : Bool) (got : Cells) (s : State) :
    Traffic s (scanFetchDone slot withdrawn got s) := by
  have hframe := scanFetchDone_frame slot withdrawn got s
  exact .of_eq (congrArg State.ports hframe :) (congrArg State.table hframe :)

theorem HandledPort.frameErr {kind : Byte} {x y : Port} (h : HandledPort kind x y) :
    y.frameErr = x.frameErr ∨ kind = kindStatus ∧ y.frameErr = false := by
  cases h with
  | moved h => exact .inl h.frameErr
  | @opened x' _ hk hx h =>
    left
    rw [h.frameErr]
    obtain rfl | rfl := hx <;> rfl
  | closed hk h => exact .inl h.frameErr
  | told hk h => exact .inr ⟨hk, rfl⟩

/-- FRAME_ERR after a command: as it was, set by a failure, or cleared by a STATUS. -/
theorem Does.frameErr {c : Instr} {s t : State} (h : Does s c t) (p : PortId) :
    (portOf t p).frameErr = (portOf s p).frameErr ∨
    (portOf t p).frameErr = true ∧ FailsFrame p c ∨
    (portOf t p).frameErr = false ∧ (c = .status p ∨ c = .poolGrant) ∧
      ∃ f rest, (portOf s p).rxBuffer = f :: rest ∧ byteAt f.body 0 = kindStatus := by
  have other : ∀ {q}, linkPort c = some q → p ≠ q → (portOf t p).frameErr = (portOf s p).frameErr :=
    fun hq hp => by rw [(h.linkOnly hq).other p hp]
  have traffic : ∀ {t : State}, Traffic s t → (portOf t p).frameErr = (portOf s p).frameErr :=
    fun ht => (ht.ports p).frameErr
  have hsettle : ∀ u : State, (portOf (settle u) p).frameErr = (portOf u p).frameErr :=
    fun u => ((settle_traffic u).ports p).frameErr
  cases h with
  | nothing => exact .inl rfl
  | @async _ q _ hq _ _ hm =>
    by_cases hp : p = q
    · cases hp
      exact hm.frameErr.imp_right fun ⟨hf, herr⟩ => .inl ⟨herr, hq.failsFrame hf⟩
    · exact .inl (other hq.linkPort hp)
  | @clocked _ q u hq _ _ hm =>
    by_cases hp : p = q
    · cases hp
      rw [portOf_updPort_same, presentNext_frameErr]
      exact hm.frameErr.imp_right fun ⟨hf, herr⟩ => .inl ⟨herr, hq.failsFrame hf⟩
    · exact .inl (other hq.linkPort hp)
  | selected q b order =>
    left
    rw [portOf_updPort]
    split
    case isTrue hp => rw [select, presentNext_frameErr, hp]
    case isFalse => rfl
  | deselected q =>
    by_cases hp : p = q
    · cases hp
      rw [portOf_updPort_same, deselect_eq]
      cases hr : (portOf s p).receiver != .hunting with
      | false => exact .inl (by simp)
      | true => exact .inr (.inl ⟨by simp, .inr (.inr (.inl rfl))⟩)
    · exact .inl (other rfl hp)
  | calibrated q low =>
    left
    have hnotice : ∀ n x, (offerNotice n x).frameErr = x.frameErr := fun n x => by unfold offerNotice; split <;> rfl
    rw [placeLinkup, updPort_updPort, portOf_updPort]
    split
    case isTrue hp => rw [hnotice, hp]
    case isFalse => rfl
  | attended q =>
    left
    by_cases hp : p = q
    · rw [hp, attend_portOf_same]
    · rw [attend_portOf_other q s hp]
  | chosen => exact .inl (hsettle s)
  | @refused _ q last id f rest =>
    left
    rw [hsettle, ((answer_traffic _ _ _).ports p).frameErr]
    by_cases hp : p = q
    · rw [hp, taken_portOf_same]
    · rw [taken_portOf_other _ _ _ _ _ _ hp]
  | @handled _ q last id f rest u hc ht _ hu =>
    rw [hsettle]
    obtain ⟨hother, hself⟩ := hu.ports
    by_cases hp : p = q
    · have hkind := hself.frameErr
      rw [show (newEntry id q f).port = q from rfl, taken_portOf_same] at hkind
      rw [hp]
      exact hkind.imp_right fun ⟨hk, herr⟩ => .inr ⟨herr, hc.status hk, f, rest, ht.head, hk⟩
    · left
      rw [(hother p hp).frameErr, taken_portOf_other _ _ _ _ _ _ hp]
  | fetched => exact .inl (traffic ((fetchDone_traffic _ _ s).trans (settle_traffic _)))
  | programmed => exact .inl (traffic ((programDone_traffic _ _ _ s).trans (settle_traffic _)))
  | fetchLost => exact .inl (traffic ((settle_traffic _).after rfl rfl))
  | programLost => exact .inl (traffic ((settle_traffic _).after rfl rfl))
  | marked => exact .inl (traffic (((markerDone_traffic _ _).trans (settle_traffic _)).after rfl rfl))
  | scanned => exact .inl (traffic ((scanFetchDone_traffic _ _ _ s).trans (settle_traffic _)))
  | ticked => exact .inl (traffic (tick_traffic s))
  | asserted => exact .inl (traffic ((assertPfw_traffic s).trans (settle_traffic _)))
  | deasserted => exact .inl (traffic ((deassertPfw_traffic s).trans (settle_traffic _)))

/-- Settles O33. -/
theorem frameErrIsSetAndCleared : Obligations.FrameErrIsSetAndCleared := by
  intro c s t p h hreset
  obtain ⟨-, -, hd⟩ | rfl | ⟨_, _, rfl, -⟩ | ⟨_, _, _, rfl, -, -⟩ := exec_cases h
  · obtain hsame | ⟨herr, hfails⟩ | ⟨herr, hstatus⟩ := hd.frameErr p
    · exact ⟨(fun h1 h0 => by rw [hsame, h1] at h0; cases h0), fun h0 h1 => by rw [hsame, h0] at h1; cases h1⟩
    · exact ⟨(fun _ h0 => by rw [herr] at h0; cases h0), fun _ _ => hfails⟩
    · exact ⟨fun _ _ => hstatus, fun _ h1 => by rw [herr] at h1; cases h1⟩
  · exact ⟨fun h1 h0 => (by rw [h1] at h0; cases h0), fun h0 h1 => by rw [h0] at h1; cases h1⟩
  · cases hreset
  · cases hreset

end Sys2Proof.Machine

/-! SUPPORT. Slot images byte by byte. O50 is settled here. -/

namespace Sys2Proof.Machine

/-! ### The bytes of a slot image (R15, R173) -/

section
variable (mark : Byte) (owner version : Half) (payload : List Byte)

/-- A slot image up to its check word: the six fields and the padded payload. -/
def imageBody : List Byte :=
  [mark] ++ halfBytes owner ++ halfBytes version ++ [BitVec.ofNat 8 payload.length] ++
    (payload ++ List.replicate (Config.maxPayload - payload.length) 0)

theorem slotImage_eq : slotImage mark owner version payload =
    imageBody mark owner version payload ++ halfBytes (crc (imageBody mark owner version payload)) := rfl

theorem byteAt_slotImage_mark : byteAt (slotImage mark owner version payload) 0 = mark := rfl

theorem halfAt_slotImage_owner : halfAt (slotImage mark owner version payload) 1 = owner := halfOf_halfBytes owner

theorem halfAt_slotImage_version : halfAt (slotImage mark owner version payload) 3 = version := halfOf_halfBytes version

theorem byteAt_slotImage_length : byteAt (slotImage mark owner version payload) 5 = BitVec.ofNat 8 payload.length := rfl

theorem imagePayload_slotImage : imagePayload (slotImage mark owner version payload) payload.length = payload := by
  have hdrop : (slotImage mark owner version payload).drop 6 =
      payload ++ (List.replicate (Config.maxPayload - payload.length) 0 ++
        halfBytes (crc (imageBody mark owner version payload))) := by
    rw [slotImage_eq, ← List.append_assoc]
    rfl
  rw [imagePayload, hdrop, List.take_left]

variable {payload} (h : payload.length ≤ Config.maxPayload)
include h

theorem length_imageBody : (imageBody mark owner version payload).length = 54 := by
  simp only [imageBody, halfBytes, List.length_append, List.length_cons, List.length_nil, List.length_replicate]
  simp only [Config.maxPayload] at h ⊢
  omega

theorem length_slotImage : (slotImage mark owner version payload).length = 56 := by
  rw [slotImage_eq, List.length_append, length_imageBody mark owner version h]
  rfl

theorem checkWordGood_slotImage : checkWordGood (slotImage mark owner version payload) = true := by
  have hlen := length_imageBody mark owner version h
  have htake : (slotImage mark owner version payload).take 54 = imageBody mark owner version payload := by
    rw [slotImage_eq, List.take_left' hlen]
  have hword : halfAt (slotImage mark owner version payload) 54 = crc (imageBody mark owner version payload) := by
    have hbyte : ∀ i, byteAt (slotImage mark owner version payload) (54 + i) =
        byteAt (halfBytes (crc (imageBody mark owner version payload))) i := fun i => by
      rw [byteAt, byteAt, slotImage_eq, List.getD_append_right _ _ _ _ (by omega), hlen, Nat.add_sub_cancel_left]
    rw [halfAt, hbyte 0, hbyte 1]
    exact halfOf_halfBytes _
  rw [checkWordGood, htake, hword, beq_self_eq_true]

theorem toNat_slotImage_length : (byteAt (slotImage mark owner version payload) 5).toNat = payload.length := by
  rw [byteAt_slotImage_length, toNat_ofNat_byte]
  simp only [Config.maxPayload] at h
  omega

end

/-! ### The tests of an image (R16) -/

theorem byte_toNat_eq_zero (b : Byte) : b.toNat = 0 ↔ b = 0 :=
  ⟨fun h => BitVec.eq_of_toNat_eq h, fun h => by rw [h]; rfl⟩

theorem lengthGood_iff (image : List Byte) : lengthGood image = true ↔
    if byteAt image 0 = 0x3C then 1 ≤ (byteAt image 5).toNat ∧ (byteAt image 5).toNat ≤ 48 else byteAt image 5 = 0 := by
  unfold lengthGood
  by_cases h : byteAt image 0 = 0x3C
  · have hv : (byteAt image 0 == validMark) = true := beq_iff_eq.2 h
    rw [if_pos hv, if_pos h, Bool.and_eq_true, decide_eq_true_iff, decide_eq_true_iff]
    exact Iff.rfl
  · have hv : ¬(byteAt image 0 == validMark) = true := fun hb => h (beq_iff_eq.1 hb)
    rw [if_neg hv, if_neg h, beq_iff_eq, byte_toNat_eq_zero]

theorem checkWordGood_iff (image : List Byte) :
    checkWordGood image = true ↔ halfAt image 54 = crc (image.take 54) := beq_iff_eq

theorem imageGood_primary_iff (image : List Byte) (r : Nat) :
    imageGood (.primary r) image = true ↔
      halfAt image 54 = crc (image.take 54) ∧ (byteAt image 0 = 0x3C ∨ byteAt image 0 = 0x5A) ∧
        (halfAt image 1).toNat = r ∧
        if byteAt image 0 = 0x3C then 1 ≤ (byteAt image 5).toNat ∧ (byteAt image 5).toNat ≤ 48
          else byteAt image 5 = 0 := by
  rw [imageGood, Bool.and_eq_true, Bool.and_eq_true, Bool.and_eq_true, checkWordGood_iff, lengthGood_iff, markGood,
    ownerGood, Bool.or_eq_true, beq_iff_eq, beq_iff_eq, beq_iff_eq, and_assoc, and_assoc]
  exact Iff.rfl

theorem imageGood_spare_iff (image : List Byte) :
    imageGood .spare image = true ↔
      halfAt image 54 = crc (image.take 54) ∧
        (byteAt image 0 = 0x3C ∨ byteAt image 0 = 0x5A ∨ byteAt image 0 = 0xA5) ∧
        (if byteAt image 0 = 0xA5 then halfAt image 1 = 0xFFFF else (halfAt image 1).toNat < 1024) ∧
        if byteAt image 0 = 0x3C then 1 ≤ (byteAt image 5).toNat ∧ (byteAt image 5).toNat ≤ 48
          else byteAt image 5 = 0 := by
  have howner : ownerGood .spare image = true ↔
      if byteAt image 0 = 0xA5 then halfAt image 1 = 0xFFFF else (halfAt image 1).toNat < 1024 := by
    unfold ownerGood
    by_cases h : byteAt image 0 = 0xA5
    · have hf : (byteAt image 0 == freeMark) = true := beq_iff_eq.2 h
      dsimp only
      rw [if_pos hf, if_pos h, beq_iff_eq]
      exact Iff.rfl
    · have hf : ¬(byteAt image 0 == freeMark) = true := fun hb => h (beq_iff_eq.1 hb)
      dsimp only
      rw [if_neg hf, if_neg h, decide_eq_true_iff]
      exact Iff.rfl
  rw [imageGood, Bool.and_eq_true, Bool.and_eq_true, Bool.and_eq_true, checkWordGood_iff, lengthGood_iff, howner, markGood,
    Bool.or_eq_true, Bool.or_eq_true, beq_iff_eq, beq_iff_eq, beq_iff_eq, and_assoc, and_assoc, or_assoc]
  exact Iff.rfl

theorem scanGood_iff (role : SlotRole) (image : List Byte) :
    scanGood role image = true ↔ imageGood role image = true ∧ ¬(byteAt image 0 = 0x3C ∧ halfAt image 3 = 0) := by
  rw [scanGood, Bool.and_eq_true, Bool.not_eq_true', ← Bool.not_eq_true, Bool.and_eq_true, beq_iff_eq, beq_iff_eq]
  exact Iff.rfl

theorem rowOfImage_eq (image : List Byte) (l : Location) :
    rowOfImage image l = if byteAt image 0 = 0x3C then ⟨.valid, halfAt image 3, (byteAt image 5).toNat, l⟩
      else ⟨.empty, halfAt image 3, 0, l⟩ := rfl

theorem imageVerdict_eq (image : List Byte) :
    imageVerdict image =
      if halfAt image 1 = crc (image.take 1) then
        if byteAt image 0 = 0x96 then .clean else if byteAt image 0 = 0x69 then .unclean else .unknown
      else .unknown := by
  simp only [imageVerdict, beq_iff_eq, markerMark]

/-! ### The image of a queue entry (R15, R46) -/

/-- The payload and the marker value that the image of a change carries. -/
theorem entryImage_eq {e : QueueEntry} (h : changeGood e.change = true) :
    (∃ payload, e.change = .write payload ∧ 1 ≤ payload.length ∧ payload.length ≤ Config.maxPayload ∧
      entryImage e = slotImage validMark (BitVec.ofNat 16 e.record) e.version payload) ∨
    e.change = .erase ∧ entryImage e = slotImage emptyMark (BitVec.ofNat 16 e.record) e.version [] := by
  cases hc : e.change with
  | write payload =>
    rw [hc, changeGood, Bool.and_eq_true, decide_eq_true_iff, decide_eq_true_iff] at h
    exact .inl ⟨payload, rfl, h.1, h.2, by rw [entryImage, hc]⟩
  | erase => exact .inr ⟨rfl, by rw [entryImage, hc]⟩

theorem length_entryImage {e : QueueEntry} (h : changeGood e.change = true) : (entryImage e).length = 56 := by
  obtain ⟨payload, -, -, hlen, himage⟩ | ⟨-, himage⟩ := entryImage_eq h <;> rw [himage]
  · exact length_slotImage _ _ _ hlen
  · exact length_slotImage _ _ _ (Nat.zero_le _)

/-- A slot image of a record passes the tests of both roles that a slot can have for it. -/
theorem imageGood_slotImage {mark : Byte} {r : Nat} {version : Half} {payload : List Byte} (hr : r < Config.records)
    (hlen : payload.length ≤ Config.maxPayload)
    (hmark : mark = validMark ∧ 1 ≤ payload.length ∨ mark = emptyMark ∧ payload = []) :
    imageGood (.primary r) (slotImage mark (BitVec.ofNat 16 r) version payload) = true ∧
      imageGood .spare (slotImage mark (BitVec.ofNat 16 r) version payload) = true := by
  have hcrc := (checkWordGood_iff _).1 (checkWordGood_slotImage mark (BitVec.ofNat 16 r) version hlen)
  have howner : (halfAt (slotImage mark (BitVec.ofNat 16 r) version payload) 1).toNat = r := by
    rw [halfAt_slotImage_owner, toNat_ofNat_half]
    simp only [Config.records] at hr
    omega
  have hlength := toNat_slotImage_length mark (BitVec.ofNat 16 r) version hlen
  have hfive := byteAt_slotImage_length mark (BitVec.ofNat 16 r) version payload
  rw [imageGood_primary_iff, imageGood_spare_iff, byteAt_slotImage_mark, howner, hlength, hfive]
  have hrecord : r < 1024 := hr
  obtain ⟨rfl, hmin⟩ | ⟨rfl, rfl⟩ := hmark
  · exact ⟨⟨hcrc, .inl rfl, rfl, by rw [if_pos (show validMark = 0x3C from rfl)]; exact ⟨hmin, hlen⟩⟩,
      hcrc, .inl rfl, by rw [if_neg (by decide)]; exact hrecord, by rw [if_pos (show validMark = 0x3C from rfl)]; exact ⟨hmin, hlen⟩⟩
  · exact ⟨⟨hcrc, .inr rfl, rfl, by rw [if_neg (by decide)]; rfl⟩,
      hcrc, .inr (.inl rfl), by rw [if_neg (by decide)]; exact hrecord, by rw [if_neg (by decide)]; rfl⟩

/-- Settles O50. -/
theorem imagesRoundTrip : Obligations.ImagesRoundTrip := by
  refine ⟨fun e l hr hchange hversion => ?_, imageGood_primary_iff, imageGood_spare_iff, scanGood_iff, rowOfImage_eq,
    imageVerdict_eq⟩
  have howner : (BitVec.ofNat 16 e.record).toNat = e.record := toNat_ofNat_half (by omega)
  refine ⟨length_entryImage hchange, ?_⟩
  obtain ⟨payload, hc, hmin, hlen, himage⟩ | ⟨hc, himage⟩ := entryImage_eq hchange
  · obtain ⟨hprimary, hspare⟩ := imageGood_slotImage (version := e.version) hr hlen (.inl ⟨rfl, hmin⟩)
    have hscan : ¬(byteAt (entryImage e) 0 = 0x3C ∧ halfAt (entryImage e) 3 = 0) := by
      rw [himage, halfAt_slotImage_version]
      exact fun h => hversion h.2
    rw [← himage] at hprimary hspare
    refine ⟨(scanGood_iff _ _).2 ⟨hprimary, hscan⟩, (scanGood_iff _ _).2 ⟨hspare, hscan⟩, ?_, ?_, ?_, ?_⟩
    · rw [himage, halfAt_slotImage_owner, howner]
    · rw [himage, rowOfImage_eq, byteAt_slotImage_mark, if_pos (show validMark = 0x3C from rfl), halfAt_slotImage_version,
        toNat_slotImage_length _ _ _ hlen, rowAfter, hc]
    · intro payload' hc'
      rw [hc] at hc'
      cases hc'
      refine ⟨?_, by rw [himage]; exact imagePayload_slotImage _ _ _ _⟩
      have hrole : imageGood (roleOf e.record (rowAfter e l).location) (entryImage e) = true := by
        rw [rowAfter, hc]
        cases l with
        | primary => exact hprimary
        | spare n => exact hspare
      rw [fetchGood, hrole, himage, byteAt_slotImage_mark, halfAt_slotImage_owner, howner, halfAt_slotImage_version,
        toNat_slotImage_length _ _ _ hlen, rowAfter, hc]
      simp
    · intro h; rw [hc] at h; cases h
  · obtain ⟨hprimary, hspare⟩ := imageGood_slotImage (version := e.version) hr (Nat.zero_le _) (.inr ⟨rfl, rfl⟩)
    have hscan : ¬(byteAt (entryImage e) 0 = 0x3C ∧ halfAt (entryImage e) 3 = 0) := by
      rw [himage, byteAt_slotImage_mark]
      exact fun h => absurd h.1 (by decide)
    rw [← himage] at hprimary hspare
    refine ⟨(scanGood_iff _ _).2 ⟨hprimary, hscan⟩, (scanGood_iff _ _).2 ⟨hspare, hscan⟩, ?_, ?_, ?_, fun _ => ?_⟩
    · rw [himage, halfAt_slotImage_owner, howner]
    · rw [himage, rowOfImage_eq, byteAt_slotImage_mark, if_neg (by decide), halfAt_slotImage_version, rowAfter, hc]
    · intro payload h; rw [hc] at h; cases h
    · have hmark : (byteAt (entryImage e) 0 == validMark) = false := by
        rw [himage, byteAt_slotImage_mark]; decide
      rw [fetchGood, hmark]
      simp

end Sys2Proof.Machine

/-! SUPPORT. The controller's choice, mode by mode. O42 is settled here. -/

namespace Sys2Proof.Machine

/-! ### An idle controller (R55) -/

section
variable {s : State}

theorem chooseIfIdle_marker {v : MarkerValue} (hop : s.op = none) (hr : s.markerRequest = some v) :
    chooseIfIdle s = { s with markerRequest := none, op := some (.markerProgram v) } := by
  simp only [chooseIfIdle, if_pos hop, choose, hr]

theorem chooseIfIdle_programAgain {e : QueueEntry} {l : Location} (hop : s.op = none) (hr : s.markerRequest = none)
    (he : inProgramming s = some e) (hl : e.target = some l) :
    chooseIfIdle s = { s with op := some (.program (slotOf e.record l)) } := by
  simp only [chooseIfIdle, if_pos hop, choose, hr, he, hl, Option.getD_some]

theorem chooseIfIdle_mode (h : ChoiceOfMode s) : chooseIfIdle s = chooseByMode s := by
  simp only [chooseIfIdle, if_pos h.idle, choose, h.request, h.programming]

theorem chooseIfIdle_busy (h : s.op ≠ none) : chooseIfIdle s = s := if_neg h

/-! ### Programs and reads (R56 to R58) -/

theorem startProgram_none (h : oldestPending s = none) : startProgram s = s := by simp only [startProgram, h]

theorem startProgram_op {e : QueueEntry} (h : oldestPending s = some e) : (startProgram s).op.isSome = true := by
  simp only [startProgram, h, Option.isSome_some]

theorem orElse_of_some {f g : State → State} (h : (f s).op.isSome = true) : orElse f g s = f s := if_pos h

theorem orElse_of_none {f g : State → State} (h : (f s).op = none) : orElse f g s = g (f s) :=
  if_neg (by rw [h]; decide)

theorem chooseRead_empty (h : s.fetchWait = []) : chooseRead s = s := by rw [chooseRead, h, takeReads]

theorem chooseRead_fetch {id : Nat} {rest : List Nat} {e : Entry} (hw : s.fetchWait = id :: rest)
    (he : entryOf s id = some e) (ho : readOutcome s e.args.record = none) :
    chooseRead s = startFetch e (setFetchWait rest s) := by
  simp only [chooseRead, hw, takeReads, he, ho]

/-- A READ that its turn finds in need of no fetch is answered, and the walk goes on (R51). -/
theorem chooseRead_answer {id : Nat} {rest : List Nat} {e : Entry} {a : Answer} (hw : s.fetchWait = id :: rest)
    (he : entryOf s id = some e) (ho : readOutcome s e.args.record = some a) :
    chooseRead s = chooseRead (answer id a (setFetchWait rest s)) := by
  have hrest : (answer id a (setFetchWait rest s)).fetchWait = rest := by simp
  simp only [chooseRead, hw, takeReads, he, ho, hrest]

theorem oldestPending_congr {t : State} (h : t.queue = s.queue) : oldestPending t = oldestPending s := by
  rw [oldestPending, h, oldestPending]

theorem takeReads_queue (l : List Nat) (s : State) : (takeReads l s).queue = s.queue := by
  induction l generalizing s with
  | nil => rfl
  | cons id l ih =>
    rw [takeReads]
    split
    · rw [ih]; rfl
    · split
      · rw [ih]; simp
      · rfl

/-- With no program to start the READs alone are served, in either order. -/
theorem chooseByMode_noProgram (hop : s.op = none) (hmode : s.mode = .fetchFirst ∨ s.mode = .drainFirst)
    (h : oldestPending s = none) : chooseByMode s = chooseRead s := by
  have hnone : startProgram (chooseRead s) = chooseRead s :=
    startProgram_none ((oldestPending_congr (takeReads_queue _ s)).trans h)
  have hreads : orElse chooseRead startProgram s = chooseRead s := by
    unfold orElse
    split
    · rfl
    · exact hnone
  have hprograms : orElse startProgram chooseRead s = chooseRead s := by
    rw [orElse_of_none (by rw [startProgram_none h]; exact hop), startProgram_none h]
  unfold chooseByMode
  obtain hm | hm := hmode <;> rw [hm]
  · exact hreads
  · dsimp only
    split
    · exact hreads
    · exact hprograms

/-- The choice that serves the READs first. -/
theorem chooseByMode_reads (hmode : s.mode = .fetchFirst ∨ s.mode = .drainFirst ∧ s.starvation = 4 ∧ s.fetchWait ≠ []) :
    chooseByMode s = orElse chooseRead startProgram s := by
  unfold chooseByMode
  obtain hm | ⟨hm, hstarved, hw⟩ := hmode <;> rw [hm]
  exact if_pos ⟨hstarved, hw⟩

/-- The choice that starts a program. -/
theorem chooseByMode_program {e : QueueEntry} (hop : s.op = none) (he : oldestPending s = some e)
    (hmode : s.mode = .fetchFirst ∧ s.fetchWait = [] ∨ s.mode = .drainOnly ∨
      s.mode = .drainFirst ∧ (s.fetchWait = [] ∨ s.starvation < 4)) : chooseByMode s = startProgram s := by
  have hbusy : orElse startProgram chooseRead s = startProgram s := orElse_of_some (startProgram_op he)
  unfold chooseByMode
  obtain ⟨hm, hw⟩ | hm | ⟨hm, hno⟩ := hmode <;> rw [hm]
  · dsimp only
    rw [orElse_of_none (by rw [chooseRead_empty hw]; exact hop), chooseRead_empty hw]
  · dsimp only
    rw [if_neg]
    · exact hbusy
    · rintro ⟨hstarved, hw⟩
      have hfour : s.starvation = 4 := hstarved
      exact hno.elim hw (by omega)

theorem startProgram_eq {e : QueueEntry} (he : oldestPending s = some e)
    (hguard : s.mode = .drainFirst ∧ s.fetchWait ≠ [] → s.starvation < 4) :
    startProgram s = { s with
      queue := startFirst (fun x => (rowOf s x.record).location) s.queue
      op := some (.program (slotOf e.record (rowOf s e.record).location))
      starvation := if s.mode = .drainFirst ∧ s.fetchWait ≠ [] then s.starvation + 1 else s.starvation } := by
  have hmin : (if s.mode = .drainFirst ∧ s.fetchWait ≠ [] then min (s.starvation + 1) Config.starvationLimit
      else s.starvation) = if s.mode = .drainFirst ∧ s.fetchWait ≠ [] then s.starvation + 1 else s.starvation := by
    split
    case isTrue h => exact Nat.min_eq_left (hguard h)
    case isFalse => rfl
  simp only [startProgram, he, hmin]

theorem chooseByMode_scan (hm : s.mode = .scan) (ho : s.scanOrder = true) (hn : s.scanNext < Config.slots) :
    chooseByMode s = { s with op := some (.scanFetch (scanSlot s.scanNext) false), scanNext := s.scanNext + 1 } := by
  simp only [chooseByMode, hm, ho, if_true, startScan, if_pos hn]

theorem chooseByMode_noScan (hm : s.mode = .scan) (ho : s.scanOrder = false) : chooseByMode s = s := by
  simp [chooseByMode, hm, ho]

theorem ChoiceOfMode.answered (h : ChoiceOfMode s) (id : Nat) (a : Answer) (rest : List Nat) :
    ChoiceOfMode (answer id a (setFetchWait rest s)) := (h.after_setFetchWait rest).after_answer id a

/-- The choice after a READ was answered is the choice of what is left. -/
theorem chooseIfIdle_answer (h : ChoiceOfMode s) {id : Nat} {rest : List Nat} {e : Entry} {a : Answer}
    (hw : s.fetchWait = id :: rest) (he : entryOf s id = some e) (ho : readOutcome s e.args.record = some a)
    (hmode : s.mode = .fetchFirst ∨ s.mode = .drainFirst ∧ (s.starvation = 4 ∨ oldestPending s = none)) :
    chooseIfIdle s = chooseIfIdle (answer id a (setFetchWait rest s)) := by
  have h' := h.answered id a rest
  have hread := chooseRead_answer hw he ho
  rw [chooseIfIdle_mode h, chooseIfIdle_mode h']
  generalize hs' : answer id a (setFetchWait rest s) = s' at *
  have hmode' : s'.mode = s.mode := by rw [← hs']; simp
  have hqueue' : s'.queue = s.queue := by rw [← hs']; simp
  have hwait' : s'.fetchWait = rest := by rw [← hs']; simp
  have hstarved' : s'.starvation = if rest = [] then 0 else s.starvation := by rw [← hs']; simp [setFetchWait]
  have hwaits : s.fetchWait ≠ [] := by rw [hw]; simp
  have horElse : orElse chooseRead startProgram s = orElse chooseRead startProgram s' := by
    unfold orElse; rw [hread]
  obtain hm | ⟨hm, hfour | hnone⟩ := hmode
  · rw [chooseByMode_reads (.inl hm), chooseByMode_reads (.inl (hmode'.trans hm)), horElse]
  · rw [chooseByMode_reads (.inr ⟨hm, hfour, hwaits⟩), horElse]
    by_cases hrest : rest = []
    · have hempty := chooseRead_empty (s := s') (hwait'.trans hrest)
      rw [orElse_of_none (by rw [hempty]; exact h'.idle), hempty]
      cases hp : oldestPending s' with
      | none => rw [startProgram_none hp, chooseByMode_noProgram h'.idle (.inr (hmode'.trans hm)) hp, hempty]
      | some q =>
        exact (chooseByMode_program h'.idle hp (.inr (.inr ⟨hmode'.trans hm, .inl (hwait'.trans hrest)⟩))).symm
    · rw [if_neg hrest] at hstarved'
      exact (chooseByMode_reads (.inr ⟨hmode'.trans hm, hstarved'.trans hfour, by rwa [hwait']⟩)).symm
  · rw [chooseByMode_noProgram h.idle (.inr hm) hnone, hread,
      chooseByMode_noProgram h'.idle (.inr (hmode'.trans hm)) ((oldestPending_congr hqueue').trans hnone)]

/-- The CLEAN sequence begins on a drained queue and an idle array (R163). -/
theorem settle_clean (hpart : (chooseIfIdle s).partState = .holdup) (hq : (chooseIfIdle s).queue = [])
    (hop : (chooseIfIdle s).op = none) (hseq : (chooseIfIdle s).markerSeq = none) :
    settle s = chooseIfIdle { chooseIfIdle s with markerSeq := some (.clean, 1), markerRequest := some .clean } :=
  if_pos ⟨hpart, hq, hop, hseq⟩

theorem settle_chosen (h : (chooseIfIdle s).partState ≠ .holdup ∨ (chooseIfIdle s).queue ≠ [] ∨
    (chooseIfIdle s).op ≠ none ∨ (chooseIfIdle s).markerSeq ≠ none) : settle s = chooseIfIdle s := by
  refine if_neg ?_
  rintro ⟨hpart, hq, hop, hseq⟩
  obtain h | h | h | h := h
  · exact h hpart
  · exact h hq
  · exact h hop
  · exact h hseq

end

/-- Settles O42. -/
theorem idleControllerChooses : Obligations.IdleControllerChooses := by
  refine ⟨fun s hop => ⟨fun v hr => chooseIfIdle_marker hop hr,
    fun e l hr he hl => chooseIfIdle_programAgain hop hr he hl, fun hr hn => ?_⟩, fun s hop => chooseIfIdle_busy hop, ?_⟩
  · have hmode : ChoiceOfMode s := ⟨hop, hr, hn⟩
    have hchoice := chooseIfIdle_mode hmode
    refine ⟨fun id rest e hw he ho hm => ?_, fun id rest e a hw he ho hm => chooseIfIdle_answer hmode hw he ho hm,
      fun e he hm => ?_, fun hnone hwait hm => ?_, fun hm ho hn => ?_, fun hm ho => ?_⟩
    · have hfetch := chooseRead_fetch hw he ho
      have hstarts : chooseByMode s = startFetch e (setFetchWait rest s) := by
        have hbusy : orElse chooseRead startProgram s = startFetch e (setFetchWait rest s) := by
          rw [orElse_of_some (by rw [hfetch]; rfl), hfetch]
        obtain hm | ⟨hm, hfour | hnone⟩ := hm
        · rw [chooseByMode_reads (.inl hm), hbusy]
        · rw [chooseByMode_reads (.inr ⟨hm, hfour, by rw [hw]; simp⟩), hbusy]
        · rw [chooseByMode_noProgram hop (.inr hm) hnone, hfetch]
      rw [hchoice, hstarts, ← (entryOf_some he).2]
      rfl
    · rw [hchoice, chooseByMode_program hop he hm, startProgram_eq he]
      rintro ⟨hdrain, hwaits⟩
      obtain ⟨h, -⟩ | h | ⟨-, h | h⟩ := hm
      · rw [hdrain] at h; cases h
      · rw [hdrain] at h; cases h
      · exact absurd h hwaits
      · exact h
    · rw [hchoice]
      cases hmode' : s.mode with
      | scan => exact absurd hmode' hm
      | drainOnly => rw [chooseByMode, hmode']; exact startProgram_none hnone
      | fetchFirst =>
        rw [chooseByMode_noProgram hop (.inl hmode') hnone,
          chooseRead_empty (hwait.resolve_right (by rw [hmode']; decide))]
      | drainFirst =>
        rw [chooseByMode_noProgram hop (.inr hmode') hnone,
          chooseRead_empty (hwait.resolve_right (by rw [hmode']; decide))]
    · rw [hchoice, chooseByMode_scan hm ho hn]
    · rw [hchoice, chooseByMode_noScan hm ho]
  · rintro s u rfl
    exact ⟨settle_clean, settle_chosen⟩

end Sys2Proof.Machine

/-! SUPPORT. The claim clock, resets and the array. O26, O46, O47 and O49 are settled here. -/

namespace Sys2Proof.Machine

/-! ### The claim clock (R93, R94) -/

section
variable {claims : List (Nat × Claim)}

/-- What a tick leaves of the claim of a record (R93, R94). -/
theorem keyedFind_ticked (h : KeysRise claims) (r : Nat) :
    keyedFind (ticked claims) r =
      (keyedFind claims r).bind (fun c => if c.lease ≤ 1 then none else some ⟨c.holder, c.lease - 1⟩) := by
  induction claims with
  | nil => rfl
  | cons x l ih =>
    obtain ⟨j, c⟩ := x
    obtain ⟨hhead, htail⟩ := List.pairwise_cons.1 h
    by_cases hlease : c.lease ≤ 1
    · have hticked : ticked ((j, c) :: l) = ticked l := by simp [ticked, hlease]
      rw [hticked, ih htail]
      by_cases hj : j = r
      · have hnone : keyedFind l r = none := by
          cases hf : keyedFind l r with
          | none => rfl
          | some v =>
            have := hhead _ (mem_of_keyedFind hf)
            simp only at this
            omega
        simp [keyedFind, hj, hnone, hlease]
      · simp [keyedFind, hj]
    · have hticked : ticked ((j, c) :: l) = (j, { c with lease := c.lease - 1 }) :: ticked l := by simp [ticked, hlease]
      rw [hticked]
      by_cases hj : j = r
      · simp [keyedFind, hj, hlease]
      · simp [keyedFind, hj, ih htail]

end

/-- Notices of expiry, offered one after another to the holders of the claims listed. -/
theorem portOf_notifyExpired (l : List (Nat × Claim)) (s : State) (q : PortId) :
    portOf (notifyExpired l s) q = ((l.filter (fun c => c.2.holder == q)).foldl
      (fun x c => if x.session = .session then offerNotice (.claimExpired c.1) x else x) (portOf s q)) := by
  induction l generalizing s with
  | nil => rfl
  | cons c l ih =>
    rw [notifyExpired, ih, portOf_notify]
    by_cases hq : c.2.holder = q
    · rw [List.filter_cons_of_pos (by simp [hq]), List.foldl_cons, if_pos hq.symm, hq, told]
    · rw [List.filter_cons_of_neg (by simp [hq]), if_neg (fun h => hq h.symm)]

theorem claims_tick (s : State) : (tick s).claims = ticked s.claims :=
  claims_of_lessPorts (notifyExpired_frame (expiring s.claims) { s with claims := ticked s.claims })

theorem tick_eq (s : State) : tick s = { s with claims := (tick s).claims, ports := (tick s).ports } := by
  have h := eq_of_lessPorts (notifyExpired_frame (expiring s.claims) { s with claims := ticked s.claims })
  rw [claims_tick]
  exact h

/-- Settles O26. -/
theorem tickLowersEveryLease : Obligations.TickLowersEveryLease := by
  have hclaim : ∀ s : State, KeysRise s.claims → ∀ r, claimOf (tick s) r =
      (claimOf s r).bind (fun c => if c.lease ≤ 1 then none else some ⟨c.holder, c.lease - 1⟩) := fun s hs r => by
    rw [claimOf, claims_tick]
    exact keyedFind_ticked hs r
  have htick : ∀ s : State, s.resetHold = none → exec .claimClockTick s = .next (tick s) :=
    fun s hr => whileRunning_out tick s hr
  refine ⟨fun s hr hs => ⟨tick s, htick s hr, hclaim s hs, ?_, tick_eq s, fun q => ?_⟩,
    fun s r c hr hs hc hlease => ⟨tick s, ?_, htick s hr, ?_⟩, fun s r hc => ?_⟩
  · rw [claims_tick]; exact keysRise_ticked hs
  · refine (portOf_notifyExpired (expiring s.claims) { s with claims := ticked s.claims } q).trans ?_
    have hport : portOf { s with claims := ticked s.claims } q = portOf s q := portOf_congr rfl q
    rw [expiring, List.filter_filter, hport]
  · refine (whileRunning_out _ s hr).trans ?_
    rw [if_pos (by rw [hc]; exact decide_eq_true hlease)]
  · rw [hclaim s hs, hc, Option.bind_some, if_pos hlease]
  · refine iteInduction (motive := fun x => x = Host.Outcome.next s) (fun _ => rfl) (fun _ => ?_)
    refine congrArg Host.Outcome.next (if_neg ?_)
    rw [Option.any_eq_true]
    rintro ⟨c, hcr, hlow⟩
    exact absurd (of_decide_eq_true hlow) (Nat.not_le.2 (hc c hcr))

/-! ### The array (R46, R48) -/

section
variable (s : State)

theorem cells_retire (l : Location) : (retire l s).cells = s.cells := by cases l <;> rfl

theorem cells_dropTarget (e : QueueEntry) : (dropTarget e s).cells = s.cells := by
  unfold dropTarget retireReserved
  (repeat' split) <;> simp [cells_retire]

theorem cells_programDone (e : QueueEntry) (slot : Nat) (got : Cells) :
    (programDone e slot got s).cells = (writeSlot slot (cellsLeft (entryImage e) got) s).cells := by
  unfold programDone programFailed
  dsimp only
  split
  · rw [cells_of_lessQueueing (commit_frame e _)]
    split
    · rfl
    · rw [setRow_cells, cells_retire]; rfl
  · split
    · rfl
    · split
      · rw [remap_eq]
        exact cells_dropTarget _ e
      · rw [giveUp_eq, cells_of_lessQueueing (faultRecord_frame e _)]
        exact cells_dropTarget _ e

theorem cells_fetchDone (e : Entry) (image : List Byte) : (fetchDone e image s).cells = s.cells := by
  have hcheck : ∀ r good, (applyCheck r good { s with op := none }).cells = s.cells := by
    intro r good; unfold applyCheck; split <;> rfl
  unfold fetchDone
  dsimp only
  split
  · exact hcheck _ _
  · rw [cells_of_lessTraffic (answer_frame _ _ _)]; exact hcheck _ _

theorem cells_scanFetchDone (slot : Nat) (withdrawn : Bool) (got : Cells) :
    (scanFetchDone slot withdrawn got s).cells = s.cells :=
  (congrArg State.cells (scanFetchDone_frame slot withdrawn got s) :)

theorem cells_deassertPfw : (deassertPfw s).cells = s.cells := by
  unfold deassertPfw enterRun
  dsimp only
  split
  · split
    · exact (cells_of_lessPorts (announce_frame _)).trans rfl
    · rfl
  · split <;> rfl
  all_goals rfl

end

/-- The array after a command: as it was, or with the slot of the program or marker program in flight written. -/
inductive ArrayWritten (s : State) (c : Instr) (cells : List Host.Cell) : Prop
  | same (h : cells = s.cells)
  | program {slot : Nat} {bytes : List Byte} (hop : s.op = some (.program slot))
      (hc : (∃ got, c = .programCompletion got) ∨ ∃ cause torn, c = .reset cause torn)
      (h : cells = (writeSlot slot bytes s).cells)
  | marker {v : MarkerValue} {bytes : List Byte} (hop : s.op = some (.markerProgram v))
      (hc : (∃ got, c = .markerProgramCompletion got) ∨ ∃ cause torn, c = .reset cause torn)
      (h : cells = (writeSlot 1056 bytes s).cells)

theorem Does.cells {c : Instr} {s t : State} (h : Does s c t) : ArrayWritten s c t.cells := by
  have hsettle : ∀ u : State, (settle u).cells = u.cells := fun u => cells_of_lessChoice (settle_frame u)
  cases h with
  | nothing => exact .same rfl
  | async _ _ _ h => exact .same (cells_of_lessTraffic h.frame)
  | clocked _ _ _ h => exact .same (cells_of_lessTraffic h.frame)
  | selected => exact .same rfl
  | deselected => exact .same rfl
  | calibrated => exact .same rfl
  | attended p => exact .same (congrArg State.cells (attend_frame p s) :)
  | chosen => exact .same (hsettle s)
  | @refused _ p last id f rest =>
    exact .same ((hsettle _).trans ((cells_of_lessTraffic (answer_frame _ _ _)).trans
      (show (taken p id f rest last s).cells = s.cells from rfl)))
  | @handled _ p last id f rest _ _ _ _ hu =>
    have hcells : (taken p id f rest last s).cells = s.cells := rfl
    exact .same ((hsettle _).trans ((congrArg State.cells hu.frame : _).trans hcells))
  | fetched => exact .same ((hsettle _).trans (cells_fetchDone ..))
  | programmed got hop he => exact .program hop (.inl ⟨got, rfl⟩) ((hsettle _).trans (cells_programDone ..))
  | fetchLost => exact .same (hsettle _)
  | programLost => exact .same (hsettle _)
  | marked got hop =>
    exact .marker hop (.inl ⟨got, rfl⟩) ((hsettle _).trans (markerDone_stores _ _).1)
  | scanned => exact .same ((hsettle _).trans (cells_scanFetchDone ..))
  | ticked => exact .same (by rw [tick_eq])
  | asserted => exact .same ((hsettle _).trans (assertPfw_stores s).1)
  | deasserted => exact .same ((hsettle _).trans (cells_deassertPfw s))

/-- What tearing an operation leaves (R48). -/
theorem tearInto_cells (slot : Nat) (image : List Byte) (torn : Torn) (s : State) :
    (tearInto slot image torn s).cells = s.cells ∨
      ∃ bytes, (tearInto slot image torn s).cells = (writeSlot slot bytes s).cells := by
  cases torn with
  | oldImage => exact .inl rfl
  | newImage => exact .inr ⟨_, rfl⟩
  | other bytes => exact .inr ⟨_, rfl⟩

theorem tear_program {s : State} {slot : Nat} {e : QueueEntry} (hop : s.op = some (.program slot))
    (he : inProgramming s = some e) (torn : Torn) : tear torn s = tearInto slot (entryImage e) torn s := by
  simp only [tear, hop, he]

theorem tear_marker {s : State} {v : MarkerValue} (hop : s.op = some (.markerProgram v)) (torn : Torn) :
    tear torn s = tearInto 1056 (markerImage v) torn s := by
  simp only [tear, hop]
  rfl

theorem tear_idle {s : State} (hprogram : ∀ slot, s.op ≠ some (.program slot))
    (hmarker : ∀ v, s.op ≠ some (.markerProgram v)) (torn : Torn) : tear torn s = s := by
  unfold tear
  split
  case h_1 slot h => exact absurd h (hprogram slot)
  case h_2 v h => exact absurd h (hmarker v)
  all_goals rfl

theorem tear_written (cause : ResetEvent) (torn : Torn) (s : State) :
    ArrayWritten s (.reset cause torn) (tear torn s).cells := by
  cases hop : s.op with
  | none => exact .same (by rw [tear_idle (by simp [hop]) (by simp [hop])])
  | some op =>
    cases op with
    | fetch => exact .same (by rw [tear_idle (by simp [hop]) (by simp [hop])])
    | scanFetch => exact .same (by rw [tear_idle (by simp [hop]) (by simp [hop])])
    | program slot =>
      cases he : inProgramming s with
      | none => exact .same (by simp only [tear, hop, he])
      | some e =>
        rw [tear_program hop he]
        obtain h | ⟨bytes, h⟩ := tearInto_cells slot (entryImage e) torn s
        · exact .same h
        · exact .program hop (.inr ⟨cause, torn, rfl⟩) h
    | markerProgram v =>
      rw [tear_marker hop]
      obtain h | ⟨bytes, h⟩ := tearInto_cells 1056 (markerImage v) torn s
      · exact .same h
      · exact .marker hop (.inr ⟨cause, torn, rfl⟩) h

theorem cells_released (straps : Straps) (pfw : Level) (r : ResetRecord) (s : State) :
    (released straps pfw r s).cells = s.cells := by cases pfw <;> rfl

theorem cells_endReset (straps : Straps) (pfw : Level) (r : ResetRecord) (s : State) :
    (endReset straps pfw r s).cells = s.cells := by
  rw [endReset_eq, cells_of_lessChoice (settle_frame _), cells_of_lessPorts (pending_linkups _), cells_released]

theorem exec_written {c : Instr} {s t : State} (h : exec c s = .next t) : ArrayWritten s c t.cells := by
  obtain ⟨-, -, hd⟩ | rfl | ⟨cause, torn, rfl, rfl⟩ | ⟨straps, pfw, r, rfl, -, rfl⟩ := exec_cases h
  · exact hd.cells
  · exact .same rfl
  · cases hr : s.resetHold with
    | none => rw [beginReset_out hr]; exact tear_written cause torn s
    | some r => rw [beginReset_held hr]; exact .same rfl
  · exact .same (cells_endReset straps pfw r s)

theorem readCell_congr {s t : State} (h : t.cells = s.cells) (a : Nat) : readCell t a = readCell s a := by
  rw [readCell, h, readCell]

/-- Settles O49. -/
theorem arrayChangesInOneSlot : Obligations.ArrayChangesInOneSlot := by
  intro c s t h
  cases exec_written h with
  | same hsame => exact ⟨fun _ _ => hsame, fun _ _ _ => hsame, fun _ a _ _ => readCell_congr hsame a,
      fun _ a _ _ => readCell_congr hsame a⟩
  | @program slot bytes hop hc hcells =>
    refine ⟨fun hno => absurd hop (hno slot), fun hp _ hreset => ?_, fun slot' a hop' ha => ?_, fun v a hop' _ => ?_⟩
    · obtain ⟨got, hc⟩ | ⟨cause, torn, hc⟩ := hc
      · exact absurd hc (hp got)
      · exact absurd hc (hreset cause torn)
    · rw [hop] at hop'
      cases hop'
      rw [readCell_congr hcells, readCell_writeSlot_other _ _ _ _ ha]
    · rw [hop] at hop'; cases hop'
  | @marker v bytes hop hc hcells =>
    refine ⟨fun _ hno => absurd hop (hno v), fun _ hm hreset => ?_, fun slot a hop' _ => ?_, fun v' a _ ha => ?_⟩
    · obtain ⟨got, hc⟩ | ⟨cause, torn, hc⟩ := hc
      · exact absurd hc (hm got)
      · exact absurd hc (hreset cause torn)
    · rw [hop] at hop'; cases hop'
    · rw [readCell_congr hcells, readCell_writeSlot_other _ _ _ _ ha]

/-! ### Resets (R150 to R152) -/

theorem portOf_clearRam (s : State) (p : PortId) : portOf (clearRam s) p = Port.reset (portOf s p).mode := by
  cases p <;> rfl

/-- Settles O46. -/
theorem resetClearsTheRam : Obligations.ResetClearsTheRam := by
  intro s cause torn hr
  have ht := beginReset_out hr cause torn
  refine ⟨_, (show exec (.reset cause torn) s = .next (beginReset cause torn s) from rfl).trans
    (congrArg Host.Outcome.next ht), by simp, rfl, rfl, rfl, rfl, rfl, rfl, rfl, rfl, fun _ => rfl, rfl, fun _ => rfl, rfl,
    rfl, rfl, fun p => ?_, fun hprogram hmarker => ?_, fun slot e hop he => ?_, fun v hop => ?_⟩
  · exact (portOf_congr (s := clearRam s) rfl p).trans (portOf_clearRam s p)
  · show (tear torn s).cells = s.cells
    rw [tear_idle hprogram hmarker]
  · show (torn = _ → (tear torn s).cells = _) ∧ (torn = _ → (tear torn s).cells = _) ∧
      ∀ bytes, torn = _ → (tear torn s).cells = _
    rw [tear_program hop he]
    refine ⟨?_, ?_, fun bytes => ?_⟩ <;> rintro rfl <;> rfl
  · show (torn = _ → (tear torn s).cells = _) ∧ (torn = _ → (tear torn s).cells = _) ∧
      ∀ bytes, torn = _ → (tear torn s).cells = _
    rw [tear_marker hop]
    refine ⟨?_, ?_, fun bytes => ?_⟩ <;> rintro rfl <;> rfl

/-- The machine as a reset ends, before the choice: straps sampled, part state entered, LINKUPs placed (R131, R152). -/
def awakened (straps : Straps) (pfw : Level) (r : ResetRecord) (s : State) : State :=
  forPorts linkupIfClocked (released straps pfw r s)

theorem awakened_eq (straps : Straps) (pfw : Level) (r : ResetRecord) (s : State) :
    awakened straps pfw r s = { released straps pfw r s with ports := (awakened straps pfw r s).ports } :=
  eq_of_lessPorts (pending_linkups (released straps pfw r s))

/-- With PFW deasserted the scan order stands and the marker slot is fetched first (R55, R158). -/
theorem settle_awakened_high (straps : Straps) (r : ResetRecord) (s : State) :
    settle (awakened straps .high r s) =
      { awakened straps .high r s with op := some (.scanFetch 1056 false), scanNext := 1 } := by
  have hu := awakened_eq straps .high r s
  have hidle : ChoiceOfMode (awakened straps .high r s) := ⟨by rw [hu]; rfl, by rw [hu]; rfl, by rw [hu]; rfl⟩
  have hchoice : chooseIfIdle (awakened straps .high r s) =
      { awakened straps .high r s with op := some (.scanFetch 1056 false), scanNext := 1 } := by
    have hnext : (awakened straps .high r s).scanNext = 0 := by rw [hu]; rfl
    rw [chooseIfIdle_mode hidle, chooseByMode_scan (by rw [hu]; rfl) (by rw [hu]; rfl) (by rw [hnext]; decide), hnext]
    rfl
  exact (settle_chosen (.inr (.inr (.inl (by rw [hchoice]; simp))))).trans hchoice

/-- With PFW asserted no scan is ordered, and nothing starts. -/
theorem settle_awakened_low (straps : Straps) (r : ResetRecord) (s : State) :
    settle (awakened straps .low r s) = awakened straps .low r s := by
  have hu := awakened_eq straps .low r s
  have hidle : ChoiceOfMode (awakened straps .low r s) := ⟨by rw [hu]; rfl, by rw [hu]; rfl, by rw [hu]; rfl⟩
  have hchoice : chooseIfIdle (awakened straps .low r s) = awakened straps .low r s := by
    rw [chooseIfIdle_mode hidle, chooseByMode_noScan (by rw [hu]; rfl) (by rw [hu]; rfl)]
  exact (settle_chosen (.inl (by rw [hchoice, hu]; exact nofun))).trans hchoice

/-- What holds of the machine as either way out of a reset is taken. -/
theorem awakened_fields (straps : Straps) (pfw : Level) (r : ResetRecord) (s : State) :
    (awakened straps pfw r s).resetHold = none ∧ (awakened straps pfw r s).verdict = .unknown ∧
    (awakened straps pfw r s).markerFault = false ∧ (awakened straps pfw r s).markerSeq = none ∧
    (awakened straps pfw r s).built = false ∧ (awakened straps pfw r s).mode = .scan ∧
    (awakened straps pfw r s).cells = s.cells ∧ (awakened straps pfw r s).queue = [] ∧
    (awakened straps pfw r s).table = [] ∧ (awakened straps pfw r s).claims = [] ∧
    (awakened straps pfw r s).watches = [] := by
  rw [awakened_eq]
  cases pfw <;> exact ⟨rfl, rfl, rfl, rfl, rfl, rfl, rfl, rfl, rfl, rfl, rfl⟩

/-- The level of a port's strap. -/
def strapOf (straps : Straps) : PortId → Level
  | .p0 => straps.mode0
  | .p1 => straps.mode1
  | .p2 => straps.mode2
  | .p3 => straps.mode3

/-- A port as a reset ends over part state `part` (R131, R148). -/
def awakenedPort (p : PortId) (part : PartState) (x : Port) : Port :=
  if x.mode = .clocked then offerNotice (.linkup p part) x else x

theorem portOf_awakened (straps : Straps) (pfw : Level) (r : ResetRecord) (s : State) (p : PortId) :
    portOf (awakened straps pfw r s) p =
      awakenedPort p (awakened straps pfw r s).partState (Port.reset (strapMode (strapOf straps p))) := by
  have hpart : (awakened straps pfw r s).partState = (released straps pfw r s).partState := by rw [awakened_eq]
  have hreleased : portOf (released straps pfw r s) p = Port.reset (strapMode (strapOf straps p)) := by
    cases pfw <;> cases p <;> rfl
  rw [hpart, ← hreleased]
  refine portOf_forPorts (g := fun q => awakenedPort q (released straps pfw r s).partState)
    (I := fun u => u.partState = (released straps pfw r s).partState) (fun q u hu => ?_) (fun q u hu q' => ?_) rfl p
  · unfold linkupIfClocked
    split <;> exact hu
  · unfold linkupIfClocked awakenedPort
    split
    · rw [placeLinkup, portOf_updPort, hu]
    · by_cases hq : q' = q <;> simp [hq]

/-- A port as the statement spells it out, by its strap. -/
theorem awakenedPort_reset (p : PortId) (part : PartState) {straps : Straps} {level : Level} (h : level = strapOf straps p) :
    awakenedPort p part (Port.reset (strapMode (strapOf straps p))) =
      { mode := if level = .low then .async else .clocked
        session := if level = .low then .linkDown else .linkUp
        epoch := 0, bitPeriod := none, receiver := .hunting, rxBuffer := []
        tx := if level = .low then [] else [.notice (.linkup p part) false]
        sending := none, outByte := none, selected := false, frameErr := false, overrun := false
        noticeGap := false, flush := none, held := [] } := by
  rw [← h]
  cases level <;> rfl

/-- Settles O47. -/
theorem endOfResetStartsThePart : Obligations.EndOfResetStartsThePart := by
  intro s straps pfw hr
  obtain ⟨r, hr⟩ := Option.ne_none_iff_exists'.1 hr
  have hexec : exec (.endOfReset straps pfw) s = .next (settle (awakened straps pfw r s)) := by
    rw [exec, execEndOfReset, hr]
    rfl
  have hport : ∀ p level, level = strapOf straps p → portOf (awakened straps pfw r s) p = _ := fun p level hl =>
    (portOf_awakened straps pfw r s p).trans (awakenedPort_reset p _ hl)
  obtain ⟨hhold, hverdict, hfault, hseq, hbuilt, hmode, hcells, hqueue, htable, hclaims, hwatches⟩ :=
    awakened_fields straps pfw r s
  cases pfw with
  | high =>
    have hpart : (awakened straps .high r s).partState = .startup ∧ (awakened straps .high r s).scanOrder = true ∧
        (awakened straps .high r s).pfwAsserted = false := by rw [awakened_eq]; exact ⟨rfl, rfl, rfl⟩
    rw [settle_awakened_high] at hexec
    generalize awakened straps .high r s = u at *
    exact ⟨_, hexec, hhold, hverdict, hfault, hseq, hbuilt, hmode, hcells, hqueue, htable, hclaims, hwatches,
      fun _ => ⟨hpart.1, hpart.2.1, hpart.2.2, rfl⟩, fun h => absurd h (by decide),
      fun p level hl => (portOf_congr rfl p).trans (hport p level (hl.trans (by cases p <;> rfl)))⟩
  | low =>
    have hpart : (awakened straps .low r s).partState = .parked ∧ (awakened straps .low r s).scanOrder = false ∧
        (awakened straps .low r s).pfwAsserted = true ∧ (awakened straps .low r s).op = none := by
      rw [awakened_eq]; exact ⟨rfl, rfl, rfl, rfl⟩
    rw [settle_awakened_low] at hexec
    exact ⟨_, hexec, hhold, hverdict, hfault, hseq, hbuilt, hmode, hcells, hqueue, htable, hclaims, hwatches,
      fun h => absurd h (by decide), fun _ => hpart, fun p level hl => hport p level (hl.trans (by cases p <;> rfl))⟩

end Sys2Proof.Machine

/-! SUPPORT. Fetch and program completions. O34 to O38 are settled here. -/

namespace Sys2Proof.Machine

section
variable {s : State}

/-! ### Fetches (R8, R52, R53) -/

theorem exec_fetchCompletion {id slot : Nat} {e : Entry} (hr : s.resetHold = none) (hop : s.op = some (.fetch id slot))
    (he : entryOf s id = some e) (got : Cells) :
    exec (.fetchCompletion got) s = .next (settle (fetchDone e (cellsRead s slot got) s)) := by
  rw [exec, execFetchCompletion, whileRunning_out _ _ hr]
  simp only [hop, he]

theorem newestEntry_applyCheck (r : Nat) (good : Bool) (r' : Nat) (u : State) :
    newestEntry (applyCheck r good u) r' = newestEntry u r' := by
  unfold applyCheck
  split <;> rfl

theorem fetchAnswer_write {r : Nat} {q : QueueEntry} {payload : List Byte} (h : newestEntry s r = some q)
    (hq : q.change = .write payload) (image : List Byte) (good : Bool) :
    fetchAnswer s r image good = .data r q.version payload := by
  simp only [fetchAnswer, h, hq]

theorem fetchAnswer_erase {r : Nat} {q : QueueEntry} (h : newestEntry s r = some q) (hq : q.change = .erase)
    (image : List Byte) (good : Bool) : fetchAnswer s r image good = .nak kindRead (.empty q.version) := by
  simp only [fetchAnswer, h, hq]

theorem fetchAnswer_slot {r : Nat} (h : newestEntry s r = none) (image : List Byte) (good : Bool) :
    fetchAnswer s r image good =
      if good then .data r (rowOf s r).version (imagePayload image (rowOf s r).length) else .nak kindRead .corrupt := by
  simp only [fetchAnswer, h]

/-- Settles O34. -/
theorem fetchCompletionAnswersTheRead : Obligations.FetchCompletionAnswersTheRead := by
  intro s u id slot r e got image good hr hop he hrec himage hgood hu
  have hid : e.id = id := of_decide_eq_true (List.find?_some he :)
  have hcheck : u = applyCheck r good { s with op := none } := hu.trans (by cases good <;> rfl)
  have hnewest : newestEntry u r = newestEntry s r := by
    rw [hcheck, newestEntry_applyCheck]
    rfl
  have hdone : fetchDone e image s =
      if e.state = .orphan then freeEntry id u else answer id (fetchAnswer u r image good) u := by
    rw [hcheck, hgood, hrec, ← hid]
    rfl
  have hexec := exec_fetchCompletion hr hop he got
  rw [← himage, hdone] at hexec
  have hanswered : ∀ a, e.state ≠ .orphan → fetchAnswer u r image good = a →
      exec (.fetchCompletion got) s = .next (settle (answer id a u)) := fun a hno ha => by
    rw [hexec, if_neg hno, ha]
  refine ⟨fun ho => ?_, fun q payload hno hq hc => hanswered _ hno (fetchAnswer_write (hnewest.trans hq) hc _ _),
    fun q hno hq hc => hanswered _ hno (fetchAnswer_erase (hnewest.trans hq) hc _ _),
    fun hno hq hg => hanswered _ hno ?_, fun hno hq hg => hanswered _ hno ?_⟩
  · rw [hexec, if_pos ho, freeEntry]
    have htable : u.table = s.table := by rw [hcheck]; cases good <;> rfl
    rw [htable]
  · have hrow : rowOf u r = rowOf s r := by rw [hcheck, hg]; rfl
    rw [fetchAnswer_slot (hnewest.trans hq), if_pos hg, hrow]
    rfl
  · rw [fetchAnswer_slot (hnewest.trans hq), if_neg (by simp [hg])]

/-! ### Programs (R64 to R67) -/

theorem exec_programCompletion {slot : Nat} {e : QueueEntry} (hr : s.resetHold = none)
    (hop : s.op = some (.program slot)) (he : inProgramming s = some e) (got : Cells) :
    exec (.programCompletion got) s = .next (settle (programDone e slot got s)) := by
  rw [exec, execProgramCompletion, whileRunning_out _ _ hr]
  simp only [hop, he]

theorem phase_of_inProgramming {e : QueueEntry} (he : inProgramming s = some e) : e.phase = .programming :=
  of_decide_eq_true (List.find?_some he :)

/-- A change to the entry in PROGRAMMING that leaves its phase (R65, R66). -/
theorem inProgramming_updProgramming {f : QueueEntry → QueueEntry} (hf : ∀ x, (f x).phase = x.phase) (s : State) :
    inProgramming (updProgramming f s) = (inProgramming s).map f := by
  have hsame : ((fun e : QueueEntry => e.phase == .programming) ∘
      fun e => if e.phase = .programming then f e else e) = fun e => e.phase == .programming := by
    funext x
    by_cases hx : x.phase = .programming <;> simp [hx, hf]
  rw [inProgramming, updProgramming, List.find?_map, hsame, ← inProgramming]
  cases he : inProgramming s with
  | none => rfl
  | some e => simp [phase_of_inProgramming he]

/-- The entry in PROGRAMMING is the only one (R47). -/
theorem QueueGood.eq_inProgramming (h : QueueGood s) {e x : QueueEntry} (he : inProgramming s = some e)
    (hx : x ∈ s.queue) (hp : x.phase = .programming) : x = e := by
  by_contra hne
  have : Std.Symm EntriesApart :=
    ⟨fun a b hab => ⟨fun ⟨hr, hq⟩ => hab.1 ⟨hr.symm, hq.symm⟩, fun ⟨hb, ha⟩ => hab.2 ⟨ha, hb⟩⟩⟩
  exact (h.apart.forall hx (List.mem_of_find?_eq_some he) hne).2 ⟨hp, phase_of_inProgramming he⟩

/-- A change to the entry in PROGRAMMING, told by what it makes of that entry. -/
theorem QueueGood.map_programming (h : QueueGood s) {e : QueueEntry} (he : inProgramming s = some e)
    (f : QueueEntry → QueueEntry) :
    s.queue.map (fun x => if x.phase = .programming then f x else x) =
      s.queue.map (fun x => if x.phase = .programming then f e else x) := by
  refine List.map_congr_left (fun x hx => ?_)
  split
  next hp => rw [h.eq_inProgramming he hx hp]
  · rfl

/-- The choice where an entry stays in PROGRAMMING: a requested marker program, or that entry's program again. -/
theorem settle_programAgain {e : QueueEntry} {l : Location} (hop : s.op = none) (he : inProgramming s = some e)
    (hl : e.target = some l) :
    settle s = { s with
      markerRequest := none
      op := some (match s.markerRequest with
        | some v => .markerProgram v
        | none => .program (slotOf e.record l)) } := by
  cases hr : s.markerRequest with
  | none =>
    have hchoice := chooseIfIdle_programAgain hop hr he hl
    rw [settle_chosen (.inr (.inr (.inl (by rw [hchoice]; simp)))), hchoice]
    simp only [hr]
  | some v =>
    have hchoice := chooseIfIdle_marker hop hr
    rw [settle_chosen (.inr (.inr (.inl (by rw [hchoice]; simp)))), hchoice]

theorem verifyOk_iff {image : List Byte} {got : Cells} :
    verifyOk image got = true ↔ got = .expected ∨ got = .other image := by
  cases got <;> simp [verifyOk, cellsLeft]

theorem cellsLeft_ok {image : List Byte} {got : Cells} (h : got = .expected ∨ got = .other image) :
    cellsLeft image got = image := by obtain rfl | rfl := h <;> rfl

theorem programDone_ok {e : QueueEntry} {slot : Nat} {got : Cells}
    (h : got = .expected ∨ got = .other (entryImage e)) :
    programDone e slot got s = commit e (writeSlot slot (entryImage e) { s with op := none }) := by
  rw [programDone, if_pos (verifyOk_iff.2 h), cellsLeft_ok h]

theorem programDone_failed {e : QueueEntry} {slot : Nat} {bytes : List Byte} (h : bytes ≠ entryImage e) :
    programDone e slot (.other bytes) s = programFailed e (writeSlot slot bytes { s with op := none }) := by
  have hbad : ¬verifyOk (entryImage e) (.other bytes) = true := by simpa [verifyOk_iff] using h
  rw [programDone, if_neg hbad]
  rfl

/-- Settles O36. -/
theorem failedProgramIsRetried : Obligations.FailedProgramIsRetried := by
  refine ⟨fun s slot e bytes hr hq hop he htarget hattempts hbytes => ?_,
    fun s e target hop hr he hl => chooseIfIdle_programAgain hop hr he hl⟩
  have hmore : e.attempts < Config.maxAttempts := by
    obtain h | h := hattempts <;> rw [h] <;> decide
  obtain ⟨l, hl, rfl⟩ := Option.map_eq_some_iff.1 htarget
  have hexec := exec_programCompletion hr hop he (.other bytes)
  rw [programDone_failed hbytes, programFailed, if_pos hmore, retryProgram] at hexec
  have hagain := inProgramming_updProgramming (f := fun x => { x with attempts := x.attempts + 1 }) (fun _ => rfl)
    (writeSlot (slotOf e.record l) bytes { s with op := none })
  rw [show inProgramming (writeSlot (slotOf e.record l) bytes { s with op := none }) = some e from he,
    Option.map_some] at hagain
  rw [settle_programAgain rfl hagain hl, updProgramming] at hexec
  have hmap := hq.map_programming he (fun x => { x with attempts := x.attempts + 1 })
  refine ⟨fun hm => ?_, fun v hm => ?_⟩ <;> refine hexec.trans ?_ <;> simp only [writeSlot, hmap, hm, hop]

/-- The lowest FREE spare (R66). -/
theorem lowestFree_some {n : Nat} (hn : n < 32) (hfree : spareOf s n = .free) (hbelow : ∀ m, m < n → spareOf s m ≠ .free) :
    lowestFree s = some n := by
  rw [lowestFree, List.find?_range_eq_some]
  exact ⟨by simp [hfree], List.mem_range.2 hn, fun m hm => by simpa using hbelow m hm⟩

theorem lowestFree_none (h : ∀ m, m < 32 → spareOf s m ≠ .free) : lowestFree s = none := by
  rw [lowestFree, List.find?_eq_none]
  exact fun m hm => by simpa using h m (List.mem_range.1 hm)

theorem dropTarget_eq {e : QueueEntry} {target : Location} (h : e.target = some target) :
    dropTarget e s = retireReserved e.record target s := by
  simp only [dropTarget, h]

/-- A failed target is retired if it is a newly reserved spare (R66). -/
theorem spareOf_retireReserved (r : Nat) (target : Location) (m : Nat) :
    spareOf (retireReserved r target s) m =
      if target = .spare m ∧ target ≠ (rowOf s r).location then .retired else spareOf s m := by
  unfold retireReserved
  split
  next h => rw [if_neg (fun hm => hm.2 h)]
  next h =>
    cases target with
    | primary => rw [if_neg (fun hm => by cases hm.1)]; rfl
    | spare k =>
      rw [retire_spare, spareOf_setSpare]
      by_cases hm : m = k
      · rw [if_pos hm, if_pos ⟨by rw [hm], h⟩]
      · rw [if_neg hm, if_neg (fun hk => hm (Location.spare.inj hk.1).symm)]

theorem retireReserved_eq (r : Nat) (target : Location) (s : State) :
    retireReserved r target s = { s with spares := (retireReserved r target s).spares } := by
  unfold retireReserved
  split
  · rfl
  · cases target <;> rfl

theorem spares_retireReserved (r : Nat) (target : Location) (s : State) :
    (retireReserved r target s).spares = (match target with
      | .primary => s.spares
      | .spare m => if target = (rowOf s r).location then s.spares else keyedErase m s.spares) := by
  cases target <;> unfold retireReserved <;> split <;> rfl

theorem directory_retire (l : Location) (s : State) : (retire l s).directory = s.directory := by cases l <;> rfl

theorem readSlot_congr {s t : State} (h : t.cells = s.cells) (slot : Nat) : readSlot t slot = readSlot s slot := by
  simp only [readSlot, readCell_congr h]

/-- A commit, step by step (R31, R64). -/
theorem commit_eq (e : QueueEntry) (s : State) :
    commit e s = retryPass (forPorts (fun p x => dropMarks p (if inPorts e.marks p then 1 else 0) false x)
      (modeAfterRemoval { s with
        directory := keyedSet (fun _ => Row.reset) e.record
          (rowAfter e (e.target.getD (rowOf s e.record).location)) s.directory
        spares := (match (rowOf s e.record).location with
          | .primary => s.spares
          | .spare m =>
            if e.target.getD (rowOf s e.record).location = (rowOf s e.record).location then s.spares
            else keyedErase m s.spares)
        queue := s.queue.filter (fun x => !(x.record == e.record && x.phase == .programming)) })) := by
  have hmarks : ∀ p, markCount p [e] = if inPorts e.marks p then 1 else 0 := fun p => by
    cases h : inPorts e.marks p <;> simp [markCount, h]
  unfold commit dropAllMarks
  simp only [hmarks]
  generalize (rowOf s e.record).location = old
  cases old with
  | primary => split <;> rfl
  | spare m =>
    by_cases h : e.target.getD (.spare m) = .spare m
    · simp only [if_pos h]
      rfl
    · simp only [if_neg h]
      rfl

/-- Settles O37. -/
theorem thirdFailureRemaps : Obligations.ThirdFailureRemaps := by
  intro s t slot n e target bytes hr hq hop he htarget hattempts hbytes hn hfree hbelow hother ht
  have hlast : ¬e.attempts < Config.maxAttempts := by rw [hattempts]; decide
  have hlow : lowestFree (writeSlot slot bytes { s with op := none }) = some n := lowestFree_some hn hfree hbelow
  rw [exec_programCompletion hr hop he, programDone_failed hbytes, programFailed, if_neg hlast, hlow] at ht
  dsimp only at ht
  rw [remap_eq, dropTarget_eq htarget, retireReserved_eq] at ht
  have hagain := inProgramming_updProgramming (f := fun x => { x with attempts := 1, target := some (.spare n) })
    (fun _ => rfl) s
  rw [he, Option.map_some] at hagain
  have hsettled := settle_programAgain (s := updProgramming (fun x => { x with attempts := 1, target := some (.spare n) })
    (setSpare n (.inUse e.record) { writeSlot slot bytes { s with op := none } with
      spares := (retireReserved e.record target (writeSlot slot bytes { s with op := none })).spares })) rfl hagain rfl
  rw [hsettled] at ht
  cases ht
  have hspare : ∀ m, spareOf (setSpare n (.inUse e.record) (retireReserved e.record target
      (writeSlot slot bytes { s with op := none }))) m = if m = n then .inUse e.record else
        if target = .spare m ∧ target ≠ (rowOf s e.record).location then .retired else spareOf s m := fun m => by
    rw [spareOf_setSpare, spareOf_retireReserved]
    rfl
  refine ⟨(hspare n).trans (if_pos rfl), fun m hm => (hspare m).trans (if_neg hm), rfl, ?_, ?_⟩
  · exact hq.map_programming he (fun x => { x with attempts := 1, target := some (.spare n) })
  · rfl

/-- Settles O38. -/
theorem thirdFailureWithoutASpareFaults : Obligations.ThirdFailureWithoutASpareFaults := by
  refine ⟨fun s w slot e target bytes hr hop he htarget hattempts hbytes hnone hw => ?_, fun s t r v origins ht => ?_⟩
  · have hlast : ¬e.attempts < Config.maxAttempts := by rw [hattempts]; decide
    have hlow : lowestFree (writeSlot slot bytes { s with op := none }) = none := lowestFree_none hnone
    rw [exec_programCompletion hr hop he, programDone_failed hbytes, programFailed, if_neg hlast, hlow]
    dsimp only
    rw [giveUp_eq, dropTarget_eq htarget, retireReserved_eq]
    subst hw
    rw [spares_retireReserved]
    rfl
  · rw [ht]
    exact ⟨eq_of_lessPorts (reportFault_frame r v origins s), portOf_reportFault r v origins s⟩

/-- Settles O35. -/
theorem programSuccessCommitsTheEntry : Obligations.ProgramSuccessCommitsTheEntry := by
  refine ⟨fun s w slot e old target got hr hop he hgot hold htarget hw => ?_,
    fun s t slot e got hr hop he hgood hgot ht => ?_, fun s => rfl⟩
  · rw [exec_programCompletion hr hop he, programDone_ok hgot]
    rw [hw, htarget, hold, commit_eq, rowAfter]
    rfl
  · rw [exec_programCompletion hr hop he, programDone_ok hgot] at ht
    cases ht
    have hframe := commit_frame e (writeSlot slot (entryImage e) { s with op := none })
    have hcells : (settle (commit e (writeSlot slot (entryImage e) { s with op := none }))).cells =
        (writeSlot slot (entryImage e) s).cells := by
      rw [← programDone_ok hgot, cells_of_lessChoice (settle_frame _), cells_programDone, cellsLeft_ok hgot]
    have hrow : ∀ r, rowOf (settle (commit e (writeSlot slot (entryImage e) { s with op := none }))) r =
        if r = e.record then rowAfter e (e.target.getD (rowOf s e.record).location) else rowOf s r := fun r => by
      have hdirectory := directory_of_lessQueueing hframe
      rw [rowOf_congr (directory_of_lessChoice (settle_frame _)), rowOf_congr hdirectory, rowOf_setRow]
      refine if_congr Iff.rfl rfl ?_
      exact rowOf_congr (by split <;> simp [directory_retire]) r
    refine ⟨?_, (hrow _).trans (if_pos rfl), fun r hne => (hrow r).trans (if_neg hne), fun a ha => ?_⟩
    · exact (readSlot_congr hcells slot).trans (readSlot_writeSlot_same _ _ _ (length_entryImage hgood))
    · rw [readCell_congr hcells, readCell_writeSlot_other _ _ _ _ ha]

end

end Sys2Proof.Machine

/-! SUPPORT. Marker programs and the power manager. O39 and O43 to O45 are settled here. -/

namespace Sys2Proof.Machine

section
variable {s : State}

/-! ### The choice where nothing is to be started -/

theorem settle_busy (h : s.op ≠ none) : settle s = s := by
  have hchoice := chooseIfIdle_busy h
  rw [settle_chosen (.inr (.inr (.inl (by rwa [hchoice])))), hchoice]

theorem settle_marker {v : MarkerValue} (hop : s.op = none) (hr : s.markerRequest = some v) :
    settle s = { s with markerRequest := none, op := some (.markerProgram v) } := by
  have hchoice := chooseIfIdle_marker hop hr
  rw [settle_chosen (.inr (.inr (.inl (by rw [hchoice]; simp)))), hchoice]

/-- An idle controller with nothing to program, to fetch or to scan (R55). -/
structure Drained (s : State) : Prop where
  idle    : s.op = none
  request : s.markerRequest = none
  queue   : s.queue = []
  reads   : s.fetchWait = []
  scan    : s.mode = .scan → s.scanOrder = false

theorem Drained.choice (h : Drained s) : chooseIfIdle s = s := by
  have hpending : oldestPending s = none := by rw [oldestPending, h.queue]; rfl
  rw [chooseIfIdle_mode ⟨h.idle, h.request, by rw [inProgramming, h.queue]; rfl⟩]
  cases hm : s.mode with
  | fetchFirst => rw [chooseByMode_noProgram h.idle (.inl hm) hpending, chooseRead_empty h.reads]
  | drainFirst => rw [chooseByMode_noProgram h.idle (.inr hm) hpending, chooseRead_empty h.reads]
  | drainOnly => simp only [chooseByMode, hm, startProgram_none hpending]
  | scan => exact chooseByMode_noScan hm (h.scan hm)

theorem Drained.settle (h : Drained s) (hpart : s.partState ≠ .holdup ∨ s.markerSeq ≠ none) : settle s = s := by
  have hchoice := h.choice
  rw [settle_chosen, hchoice]
  rw [hchoice]
  obtain hpart | hseq := hpart
  · exact .inl hpart
  · exact .inr (.inr (.inr hseq))

/-- In HOLDUP the CLEAN sequence begins (R163). -/
theorem Drained.settle_holdup (h : Drained s) (hpart : s.partState = .holdup) (hseq : s.markerSeq = none) :
    Machine.settle s = { s with markerSeq := some (.clean, 1), op := some (.markerProgram .clean) } := by
  have hchoice := h.choice
  rw [settle_clean (by rw [hchoice, hpart]) (by rw [hchoice, h.queue]) (by rw [hchoice, h.idle])
    (by rw [hchoice, hseq]), hchoice]
  refine (chooseIfIdle_marker (s := { s with markerSeq := some (.clean, 1), markerRequest := some .clean }) h.idle
    rfl).trans ?_
  rw [← h.request]

/-! ### Part states announced (R113) -/

theorem announce_eq (s : State) : announce s = { s with ports := (announce s).ports } := eq_of_lessPorts (announce_frame s)

theorem enterHoldup_eq (s : State) :
    enterHoldup s = { s with partState := .holdup, mode := .drainOnly, ports := (enterHoldup s).ports } :=
  announce_eq { s with partState := .holdup, mode := .drainOnly }

/-! ### The marker sequences (R159 to R168) -/

/-- What a marker sequence in course tells of the rest of the state (R159, R163). -/
structure InCourse (s : State) (v : MarkerValue) (n : Nat) : Prop where
  attempt : n ∈ [1, 2, 3]
  request : s.markerRequest = none
  queue   : s.queue = []
  reads   : s.fetchWait = []
  scan    : s.scanOrder = false
  dirty   : v = .dirty → s.partState = .startup ∨ s.partState = .resuming
  clean   : v = .clean → s.partState = .holdup ∧ s.mode = .drainOnly

theorem ControllerGood.inCourse (h : ControllerGood s) (hr : s.resetHold = none) {v : MarkerValue} {n : Nat}
    (hseq : s.markerSeq = some (v, n)) : InCourse s v n := by
  have hpower := h.power hr
  have hattempt : ∀ w, InSequence w s → v = w ∧ n ∈ [1, 2, 3] := by
    rintro w ⟨m, hm, hw⟩
    rw [hseq] at hw
    cases hw
    exact ⟨rfl, hm⟩
  cases hpart : s.partState with
  | startup =>
    obtain ⟨-, hq, ⟨-, -, hno⟩ | ⟨hscan, -, hin⟩⟩ := hpower.startup hpart
    · rw [hseq] at hno; cases hno
    · obtain ⟨rfl, hn⟩ := hattempt _ hin
      exact ⟨hn, (h.idle hr).1, hq, (hpower.waiting (by simp [hpart])).2, hscan, fun _ => .inl hpart, nofun⟩
  | run =>
    obtain ⟨-, -, -, hno, -⟩ := hpower.run hpart
    rw [hseq] at hno; cases hno
  | holdup =>
    obtain ⟨hmode, -, hscan, ⟨hno, -⟩ | ⟨hq, hin⟩⟩ := hpower.holdup hpart
    · rw [hseq] at hno; cases hno
    · obtain ⟨rfl, hn⟩ := hattempt _ hin
      exact ⟨hn, (h.idle hr).1, hq, (hpower.waiting (by simp [hpart])).2, hscan, nofun,
        fun _ => ⟨hpart, hmode⟩⟩
  | parked =>
    obtain ⟨-, -, hno, -⟩ := hpower.parked hpart
    rw [hseq] at hno; cases hno
  | resuming =>
    obtain ⟨hmode, -, hscan, hq, hin⟩ := hpower.resuming hpart
    obtain ⟨rfl, hn⟩ := hattempt _ hin
    exact ⟨hn, (h.idle hr).1, hq, (hpower.waiting (by simp [hpart])).2, hscan, fun _ => .inr hpart, nofun⟩

/-- How a marker program leaves the part: part state, mode, sequence, operation and MARKER_FAULT, with POWER told at an
entry into RUN, HOLDUP or PARKED (R113). -/
structure MarkerEnd (s t : State) (part : PartState) (mode : ArrayMode) (seq : Option (MarkerValue × Nat))
    (op : Option ArrayOp) (fault : Bool) : Prop where
  eq    : t = { s with partState := part, mode := mode, markerSeq := seq, op := op, markerFault := fault, ports := t.ports }
  ports : ∀ p, portOf t p = if part ≠ s.partState ∧ part ≠ .resuming ∧ (portOf s p).session = .session then
    offerNotice (.power part) (portOf s p) else portOf s p

section
variable {v : MarkerValue} {n : Nat}

/-- An entry into RUN, HOLDUP or PARKED, as the ports see it. -/
theorem portOf_announced {part : PartState} {u : State} (hports : u.ports = s.ports) (hpart : u.partState = part)
    (hnew : part ≠ s.partState) (hresuming : part ≠ .resuming) (p : PortId) :
    portOf (announce u) p = if part ≠ s.partState ∧ part ≠ .resuming ∧ (portOf s p).session = .session then
      offerNotice (.power part) (portOf s p) else portOf s p := by
  rw [portOf_announce, portOf_congr hports, hpart, told]
  refine if_congr ?_ rfl rfl
  simp [hnew, hresuming]

/-- The next attempt is requested and starts (R159, R163). -/
theorem settle_nextAttempt (h : InCourse s v n) (hop : s.op = none) (seq : MarkerValue) :
    MarkerEnd s (settle (nextAttempt seq n s)) s.partState s.mode (some (seq, n + 1)) (some (.markerProgram seq))
      s.markerFault := by
  have ht : settle (nextAttempt seq n s) = { s with markerSeq := some (seq, n + 1), op := some (.markerProgram seq) } := by
    rw [settle_marker (s := nextAttempt seq n s) hop rfl, nextAttempt, ← h.request]
  exact ⟨by rw [ht], fun p => by rw [ht, if_neg (by simp)]; exact portOf_congr rfl p⟩

/-- The sequence ends in RUN or PARKED (R159, R163). -/
theorem settle_sequenceEnds (h : InCourse s v n) (hop : s.op = none) {part : PartState} {mode : ArrayMode} (fault : Bool)
    (hpart : part = .run ∨ part = .parked) (hnew : part ≠ s.partState) :
    MarkerEnd s (settle (announce { s with partState := part, mode := mode, markerSeq := none, markerFault := fault }))
      part mode none none fault := by
  have hu := announce_eq { s with partState := part, mode := mode, markerSeq := none, markerFault := fault }
  have hdrained : Drained (announce { s with partState := part, mode := mode, markerSeq := none, markerFault := fault }) := by
    rw [hu]
    exact ⟨hop, h.request, h.queue, h.reads, fun _ => h.scan⟩
  rw [hdrained.settle (.inl (by rw [hu]; obtain h | h := hpart <;> simp [h]))]
  refine ⟨?_, portOf_announced rfl rfl hnew (by obtain h | h := hpart <;> simp [h])⟩
  rw [← hop]
  exact hu

/-- PFW asserted at the end of a DIRTY program: HOLDUP, whose CLEAN sequence begins at once (R161, R163). -/
theorem settle_dirtyHeld (h : InCourse s .dirty n) (hop : s.op = none) :
    MarkerEnd s (settle (enterHoldup { s with markerSeq := none })) .holdup .drainOnly (some (.clean, 1))
      (some (.markerProgram .clean)) s.markerFault := by
  have hu := enterHoldup_eq { s with markerSeq := none }
  have hnew : PartState.holdup ≠ s.partState := by obtain hp | hp := h.dirty rfl <;> rw [hp] <;> decide
  have hports : ∀ p, portOf (enterHoldup { s with markerSeq := none }) p = _ :=
    portOf_announced (s := s) (part := .holdup) rfl rfl hnew (by decide)
  generalize enterHoldup { s with markerSeq := none } = u at hu hports ⊢
  have hdrained : Drained u := by
    rw [hu]
    exact ⟨hop, h.request, h.queue, h.reads, fun _ => h.scan⟩
  rw [hdrained.settle_holdup (by rw [hu]) (by rw [hu])]
  exact ⟨by rw [hu], fun p => (portOf_congr rfl p).trans (hports p)⟩

/-- PFW deasserted at the end of a CLEAN program: RESUMING, whose DIRTY sequence begins at once (R165, R167). -/
theorem settle_cleanResumed (h : InCourse s .clean n) (hop : s.op = none) :
    MarkerEnd s (settle (enterResuming { s with markerSeq := none })) .resuming .drainOnly (some (.dirty, 1))
      (some (.markerProgram .dirty)) s.markerFault := by
  have hmode := (h.clean rfl).2
  have ht : settle (enterResuming { s with markerSeq := none }) =
      { s with partState := .resuming, markerSeq := some (.dirty, 1), op := some (.markerProgram .dirty) } := by
    rw [settle_marker (s := enterResuming { s with markerSeq := none }) (v := .dirty) hop rfl, ← h.request]
    rfl
  exact ⟨by rw [ht, ← hmode], fun p => by rw [ht, if_neg (by simp)]; exact portOf_congr rfl p⟩

/-- A DIRTY program ends (R159, R161, R168). -/
theorem settle_dirtyDone (h : InCourse s .dirty n) (hop : s.op = none) (ok : Bool) :
    (s.pfwAsserted = true → MarkerEnd s (settle (dirtyDone ok n s)) .holdup .drainOnly (some (.clean, 1))
      (some (.markerProgram .clean)) s.markerFault) ∧
    (s.pfwAsserted = false → ok = true → MarkerEnd s (settle (dirtyDone ok n s)) .run .fetchFirst none none s.markerFault) ∧
    (s.pfwAsserted = false → ok = false → n < Config.maxAttempts → MarkerEnd s (settle (dirtyDone ok n s)) s.partState s.mode
      (some (.dirty, n + 1)) (some (.markerProgram .dirty)) s.markerFault) ∧
    (s.pfwAsserted = false → ok = false → ¬n < Config.maxAttempts → MarkerEnd s (settle (dirtyDone ok n s)) .run .fetchFirst none none true) := by
  have hnew : PartState.run ≠ s.partState := by obtain hp | hp := h.dirty rfl <;> rw [hp] <;> decide
  have hmode : ∀ fault, modeAtRun { s with markerSeq := none, markerFault := fault } = .fetchFirst := fun fault => by
    rw [modeAtRun, h.queue]
    rfl
  refine ⟨fun hp => ?_, fun hp hok => ?_, fun hp hok hn => ?_, fun hp hok hn => ?_⟩
  · rw [dirtyDone, if_pos hp]
    exact settle_dirtyHeld h hop
  · rw [dirtyDone, if_neg (by simp [hp]), if_pos hok, enterRun]
    rw [show modeAtRun { s with markerSeq := none } = .fetchFirst from hmode s.markerFault]
    exact settle_sequenceEnds h hop s.markerFault (.inl rfl) hnew
  · rw [dirtyDone, if_neg (by simp [hp]), if_neg (by simp [hok]), if_pos hn]
    exact settle_nextAttempt h hop .dirty
  · rw [dirtyDone, if_neg (by simp [hp]), if_neg (by simp [hok]), if_neg hn, enterRun, hmode]
    exact settle_sequenceEnds h hop true (.inl rfl) hnew

/-- A CLEAN program ends (R163, R165, R168). -/
theorem settle_cleanDone (h : InCourse s .clean n) (hop : s.op = none) (ok : Bool) :
    (s.pfwAsserted = false → MarkerEnd s (settle (cleanDone ok n s)) .resuming .drainOnly (some (.dirty, 1))
      (some (.markerProgram .dirty)) s.markerFault) ∧
    (s.pfwAsserted = true → ok = true → MarkerEnd s (settle (cleanDone ok n s)) .parked .drainOnly none none s.markerFault) ∧
    (s.pfwAsserted = true → ok = false → n < Config.maxAttempts → MarkerEnd s (settle (cleanDone ok n s)) s.partState s.mode
      (some (.clean, n + 1)) (some (.markerProgram .clean)) s.markerFault) ∧
    (s.pfwAsserted = true → ok = false → ¬n < Config.maxAttempts → MarkerEnd s (settle (cleanDone ok n s)) .parked .drainOnly none none true) := by
  obtain ⟨hpart, hmode⟩ := h.clean rfl
  have hnew : PartState.parked ≠ s.partState := by rw [hpart]; decide
  refine ⟨fun hp => ?_, fun hp hok => ?_, fun hp hok hn => ?_, fun hp hok hn => ?_⟩
  · rw [cleanDone, if_neg (by simp [hp])]
    exact settle_cleanResumed h hop
  · rw [cleanDone, if_pos hp, if_pos hok, ← hmode]
    exact settle_sequenceEnds h hop s.markerFault (.inr rfl) hnew
  · rw [cleanDone, if_pos hp, if_neg (by simp [hok]), if_pos hn]
    exact settle_nextAttempt h hop .clean
  · rw [cleanDone, if_pos hp, if_neg (by simp [hok]), if_neg hn, ← hmode]
    exact settle_sequenceEnds h hop true (.inr rfl) hnew

theorem dirtyDone_ends (h : InCourse s .dirty n) (hop : s.op = none) (ok : Bool) :
    ∃ part mode seq op fault, MarkerEnd s (settle (dirtyDone ok n s)) part mode seq op fault := by
  obtain ⟨hheld, hdone, hagain, hfault⟩ := settle_dirtyDone h hop ok
  cases hp : s.pfwAsserted with
  | true => exact ⟨_, _, _, _, _, hheld hp⟩
  | false =>
    by_cases hok : ok = true
    · exact ⟨_, _, _, _, _, hdone hp hok⟩
    · by_cases hn : n < Config.maxAttempts
      · exact ⟨_, _, _, _, _, hagain hp (Bool.eq_false_iff.2 hok) hn⟩
      · exact ⟨_, _, _, _, _, hfault hp (Bool.eq_false_iff.2 hok) hn⟩

theorem cleanDone_ends (h : InCourse s .clean n) (hop : s.op = none) (ok : Bool) :
    ∃ part mode seq op fault, MarkerEnd s (settle (cleanDone ok n s)) part mode seq op fault := by
  obtain ⟨hresumed, hdone, hagain, hfault⟩ := settle_cleanDone h hop ok
  cases hp : s.pfwAsserted with
  | false => exact ⟨_, _, _, _, _, hresumed hp⟩
  | true =>
    by_cases hok : ok = true
    · exact ⟨_, _, _, _, _, hdone hp hok⟩
    · by_cases hn : n < Config.maxAttempts
      · exact ⟨_, _, _, _, _, hagain hp (Bool.eq_false_iff.2 hok) hn⟩
      · exact ⟨_, _, _, _, _, hfault hp (Bool.eq_false_iff.2 hok) hn⟩

theorem exec_markerCompletion (hr : s.resetHold = none) (hop : s.op = some (.markerProgram v)) (got : Cells) :
    exec (.markerProgramCompletion got) s = .next (settle (markerDone (verifyOk (markerImage v) got)
      (writeSlot Config.markerSlot (cellsLeft (markerImage v) got) { s with op := none }))) := by
  rw [exec, execMarkerProgramCompletion, whileRunning_out _ _ hr]
  simp only [hop]

end

end

theorem MarkerEnd.fields {s t : State} {part : PartState} {mode : ArrayMode} {seq : Option (MarkerValue × Nat)}
    {op : Option ArrayOp} {fault : Bool} (h : MarkerEnd s t part mode seq op fault) :
    t.partState = part ∧ t.mode = mode ∧ t.markerSeq = seq ∧ t.op = op ∧ t.markerFault = fault := by
  rw [h.eq]
  exact ⟨rfl, rfl, rfl, rfl, rfl⟩

/-- What every end of a marker program keeps. -/
theorem MarkerEnd.kept {s t : State} {part : PartState} {mode : ArrayMode} {seq : Option (MarkerValue × Nat)}
    {op : Option ArrayOp} {fault : Bool} (h : MarkerEnd s t part mode seq op fault) :
    (∀ p, portOf t p =
      if t.partState ≠ s.partState ∧ t.partState ≠ .resuming ∧ (portOf s p).session = .session then
        offerNotice (.power t.partState) (portOf s p) else portOf s p) ∧
    t.cells = s.cells ∧ t.queue = s.queue ∧ t.table = s.table ∧ t.directory = s.directory ∧ t.claims = s.claims ∧
    t.watches = s.watches := by
  refine ⟨fun p => (h.ports p).trans (by rw [h.fields.1]), ?_⟩
  rw [h.eq]
  exact ⟨rfl, rfl, rfl, rfl, rfl, rfl⟩

/-- Settles O39. -/
theorem markerOutcomeMovesThePart : Obligations.MarkerOutcomeMovesThePart := by
  intro s v n got ok hr hgood hop hseq hok
  have h := hgood.inCourse hr hseq
  have hexec := exec_markerCompletion hr hop got
  rw [← hok] at hexec
  have hw : InCourse (writeSlot Config.markerSlot (cellsLeft (markerImage v) got) { s with op := none }) v n :=
    ⟨h.attempt, h.request, h.queue, h.reads, h.scan, h.dirty, h.clean⟩
  cases v with
  | dirty =>
    obtain ⟨hheld, hdone, hagain, hfault⟩ := settle_dirtyDone hw rfl ok
    simp only [markerDone, writeSlot_markerSeq, hseq] at hexec
    obtain ⟨part, mode, seq, op, fault, hend⟩ := dirtyDone_ends hw rfl ok
    obtain ⟨hports, hcells, hqueue, hrest⟩ := hend.kept
    exact ⟨_, hexec, hcells, fun _ hp => (hheld hp).fields, fun _ hp hok => (hdone hp hok).fields,
      fun _ hp hok hn => (hfault hp hok (by rw [hn]; decide)).fields, nofun, nofun,
      fun hv hok hn => (hagain (hv.1 rfl) hok hn).fields, nofun, hports, hqueue.trans h.queue, hrest⟩
  | clean =>
    obtain ⟨hresumed, hdone, hagain, hfault⟩ := settle_cleanDone hw rfl ok
    simp only [markerDone, writeSlot_markerSeq, hseq] at hexec
    obtain ⟨part, mode, seq, op, fault, hend⟩ := cleanDone_ends hw rfl ok
    obtain ⟨hports, hcells, hqueue, hrest⟩ := hend.kept
    exact ⟨_, hexec, hcells, nofun, nofun, nofun, fun _ hp hok => (hdone hp hok).fields,
      fun _ hp hok hn => (hfault hp hok (by rw [hn]; decide)).fields,
      fun hv hok hn => (hagain (by simpa using hv) hok hn).fields, fun _ hp => (hresumed hp).fields, hports,
      hqueue.trans h.queue, hrest⟩

/-! ### The recognised PFW level (R149, R160 to R166) -/

section
variable {s : State}

/-- An idle controller of a run has nothing to start, and no sequence to begin (R47, R55). -/
theorem ControllerGood.drained (h : ControllerGood s) (hr : s.resetHold = none) (hop : s.op = none) :
    Drained s ∧ s.partState ≠ .holdup := by
  have hpower := h.power hr
  obtain ⟨hrequest, hidle⟩ := h.idle hr
  obtain hpart | ⟨hpart, hqueue, hreads⟩ := hidle hop
  · obtain ⟨-, hscan, -, hqueue, -⟩ := hpower.parked hpart
    exact ⟨⟨hop, hrequest, hqueue, (hpower.waiting (by simp [hpart])).2, fun _ => hscan⟩, by simp [hpart]⟩
  · obtain ⟨-, -, hscan, -⟩ := hpower.run hpart
    exact ⟨⟨hop, hrequest, hqueue, hreads, fun _ => hscan⟩, by simp [hpart]⟩

/-- A change of the recognised level alone starts nothing. -/
theorem ControllerGood.settle_pfw (h : ControllerGood s) (hr : s.resetHold = none) (level : Bool) :
    settle { s with pfwAsserted := level } = { s with pfwAsserted := level } := by
  by_cases hop : s.op = none
  · obtain ⟨hdrained, hpart⟩ := h.drained hr hop
    exact Drained.settle ⟨hdrained.idle, hdrained.request, hdrained.queue, hdrained.reads, hdrained.scan⟩ (.inl hpart)
  · exact settle_busy hop

/-- Entering HOLDUP from RUN leaves all but what it says (R162). -/
theorem holdupFromRun_eq (s : State) : holdupFromRun s = { s with
    partState := .holdup, mode := .drainOnly, spaceWait := [], fetchWait := [], starvation := 0
    ports := (holdupFromRun s).ports, table := (holdupFromRun s).table } := by
  have hwaiters : (refuseWaiters (enterHoldup s)).lessTraffic =
      { s with partState := .holdup, mode := .drainOnly, spaceWait := [] }.lessTraffic := by
    rw [refuseWaiters, refuseAll_frame, enterHoldup_eq]
    rfl
  refine eq_of_lessTraffic (s := { s with
    partState := .holdup, mode := .drainOnly, spaceWait := [], fetchWait := [], starvation := 0 }) ?_
  rw [holdupFromRun, refuseReads, refuseAll_frame]
  have h := eq_of_lessTraffic hwaiters
  generalize refuseWaiters (enterHoldup s) = u at h
  rw [h]
  rfl

theorem PortMoves.mem_tx {x y : Port} (h : PortMoves x y) {f : TxFrame} (hf : f ∈ x.tx) : f ∈ y.tx := by
  refine h.keeps (P := fun z => f ∈ z.tx) (fun z w hz hm => ?_) hf
  cases hm with
  | placed r _ => exact List.mem_append_left _ hz
  | held id => exact hz
  | noticed n _ =>
    unfold offerNotice
    split
    · exact List.mem_append_left _ hz
    · exact hz
  | flushChanged g => exact hz

theorem PortMoves.mem_held {x y : Port} (h : PortMoves x y) {id : Nat} (hid : id ∈ x.held) : id ∈ y.held := by
  refine h.keeps (P := fun z => id ∈ z.held) (fun z w hz hm => ?_) hid
  cases hm with
  | placed r _ => exact hz
  | held j => exact List.mem_append_left _ hz
  | noticed n _ =>
    unfold offerNotice
    split
    · exact hz
    · exact hz
  | flushChanged g => exact hz

theorem exec_pfwAssertion (hr : s.resetHold = none) : exec .pfwAssertion s = .next (settle (assertPfw s)) :=
  whileRunning_out (fun s => settle (assertPfw s)) s hr

theorem exec_pfwDeassertion (hr : s.resetHold = none) : exec .pfwDeassertion s = .next (settle (deassertPfw s)) :=
  whileRunning_out (fun s => settle (deassertPfw s)) s hr

theorem assertPfw_run (hpart : s.partState = .run) : assertPfw s = holdupFromRun { s with pfwAsserted := true } := by
  simp only [assertPfw, hpart]

theorem assertPfw_scanning (hpart : s.partState = .startup) (ho : s.scanOrder = true) :
    assertPfw s = enterParked { s with pfwAsserted := true, scanOrder := false, op := withdrawScan s.op } := by
  simp only [assertPfw, hpart, ho, if_true]

theorem assertPfw_other (hrun : s.partState ≠ .run) (hscan : ¬(s.partState = .startup ∧ s.scanOrder = true)) :
    assertPfw s = { s with pfwAsserted := true } := by
  unfold assertPfw
  dsimp only
  split
  next h => exact absurd h hrun
  next h => rw [if_neg (fun ho => hscan ⟨h, ho⟩)]
  all_goals rfl

/-- HOLDUP entered from RUN, the choice made (R162, R163). -/
theorem settle_holdupFromRun (h : ControllerGood s) (hr : s.resetHold = none) (hpart : s.partState = .run) :
    settle (holdupFromRun { s with pfwAsserted := true }) = { holdupFromRun { s with pfwAsserted := true } with
      markerSeq := if s.op = none then some (.clean, 1) else none
      op := if s.op = none then some (.markerProgram .clean) else s.op } := by
  have hu := holdupFromRun_eq { s with pfwAsserted := true }
  obtain ⟨-, -, hscan, hseq, -⟩ := (h.power hr).run hpart
  generalize holdupFromRun { s with pfwAsserted := true } = u at hu ⊢
  by_cases hop : s.op = none
  · have hdrained := (h.drained hr hop).1
    rw [if_pos hop, if_pos hop]
    refine Drained.settle_holdup ?_ (by rw [hu]) (by rw [hu]; exact hseq)
    rw [hu]
    exact ⟨hop, hdrained.request, hdrained.queue, rfl, fun _ => hscan⟩
  · rw [if_neg hop, if_neg hop, settle_busy (by rw [hu]; exact hop), hu]
    simp only [hseq]

theorem enterParked_eq (s : State) : enterParked s = { s with partState := .parked, ports := (enterParked s).ports } :=
  announce_eq { s with partState := .parked }

theorem assertPfw_pfwAsserted (s : State) : (assertPfw s).pfwAsserted = true := by
  by_cases hrun : s.partState = .run
  · rw [assertPfw_run hrun, holdupFromRun_eq]
  · by_cases hscan : s.partState = .startup ∧ s.scanOrder = true
    · rw [assertPfw_scanning hscan.1 hscan.2, enterParked_eq]
    · rw [assertPfw_other hrun hscan]

/-- While the scan order stands a scan fetch is in flight (R55, R154). -/
theorem ControllerGood.scanning (h : ControllerGood s) (hr : s.resetHold = none) (hpart : s.partState = .startup)
    (ho : s.scanOrder = true) : s.built = false ∧ ∃ slot withdrawn, s.op = some (.scanFetch slot withdrawn) := by
  obtain ⟨-, -, ⟨-, hbuilt, hseq⟩ | ⟨hno, -⟩⟩ := (h.power hr).startup hpart
  · refine ⟨hbuilt, ?_⟩
    have hgood := h.op hr
    cases hop : s.op with
    | none =>
      obtain hp | ⟨hp, -⟩ := (h.idle hr).2 hop
      · rw [hpart] at hp; cases hp
      · rw [hpart] at hp; cases hp
    | some op =>
      rw [opGood, hop] at hgood
      cases op with
      | fetch id slot => simp [hpart] at hgood
      | program slot => simp [hpart] at hgood
      | markerProgram v => simp [hseq] at hgood
      | scanFetch slot withdrawn => exact ⟨slot, withdrawn, rfl⟩
  · rw [ho] at hno; cases hno

/-- POWER(HOLDUP) is placed in a free notice slot, and what follows leaves it there (R113, R162). -/
theorem holdup_noticed {p : PortId} (hs : (portOf s p).session = .session) (hfree : noticeCount (portOf s p).tx < 4) :
    .notice (.power .holdup) (portOf s p).noticeGap ∈ (portOf (holdupFromRun s) p).tx := by
  have htraffic : Traffic (enterHoldup s) (holdupFromRun s) :=
    (refuseWaiters_traffic (enterHoldup s)).trans (refuseReads_traffic _)
  refine (htraffic.ports p).mem_tx ?_
  have hport : portOf (enterHoldup s) p = told (.power .holdup) (portOf s p) :=
    (portOf_announce { s with partState := .holdup, mode := .drainOnly } p).trans
      (congrArg (told (.power .holdup)) (portOf_congr rfl p))
  rw [hport, told, if_pos hs, offerNotice, if_pos (show _ < Config.noticeSlots from hfree)]
  exact List.mem_append_right _ (List.mem_singleton.2 rfl)

/-- Settles O43. -/
theorem pfwAssertionHoldsUp : Obligations.PfwAssertionHoldsUp := by
  intro s hr hgood
  refine ⟨_, exec_pfwAssertion hr, by rw [settle_pfwAsserted, assertPfw_pfwAsserted], fun hpart => ?_,
    fun hpart ho => ?_, fun hrun hscan => by rw [assertPfw_other hrun hscan, hgood.settle_pfw hr]⟩
  · rw [assertPfw_run hpart, settle_holdupFromRun hgood hr hpart]
    have hu := holdupFromRun_eq { s with pfwAsserted := true }
    have hnoticed : ∀ p, (portOf s p).session = .session → noticeCount (portOf s p).tx < 4 →
        .notice (.power .holdup) (portOf s p).noticeGap ∈ (portOf (holdupFromRun { s with pfwAsserted := true }) p).tx :=
      fun p hs hfree => holdup_noticed (s := { s with pfwAsserted := true }) hs hfree
    generalize holdupFromRun { s with pfwAsserted := true } = u at hu hnoticed ⊢
    refine ⟨?_, ?_, ?_, ?_, ?_, ?_, ?_, ?_, ?_, ?_, fun hop => ⟨if_pos hop, if_pos hop⟩,
      fun hop => ⟨if_neg hop, if_neg hop⟩, hnoticed⟩ <;> rw [hu]
  · obtain ⟨hbuilt, slot, withdrawn, hop⟩ := hgood.scanning hr hpart ho
    have hu := enterParked_eq { s with pfwAsserted := true, scanOrder := false, op := withdrawScan s.op }
    have hports : ∀ p, portOf (enterParked { s with pfwAsserted := true, scanOrder := false, op := withdrawScan s.op }) p =
        told (.power .parked) (portOf s p) := fun p =>
      (portOf_announce _ p).trans (congrArg (told (.power .parked)) (portOf_congr rfl p))
    rw [assertPfw_scanning hpart ho, settle_busy (by rw [hu, hop]; exact nofun)]
    generalize enterParked { s with pfwAsserted := true, scanOrder := false, op := withdrawScan s.op } = u at hu hports ⊢
    exact ⟨by rw [hu], by rw [hu], by rw [hu]; exact hbuilt, ⟨slot, by rw [hu, hop]; rfl⟩, by rw [hu], hports⟩

/-! ### Deassertion -/

theorem enterRun_eq (s : State) :
    enterRun s = { s with partState := .run, mode := modeAtRun s, ports := (enterRun s).ports } :=
  announce_eq { s with partState := .run, mode := modeAtRun s }

theorem deassertPfw_holdup (hpart : s.partState = .holdup) (hseq : s.markerSeq = none) :
    deassertPfw s = enterRun { s with pfwAsserted := false } := by
  simp only [deassertPfw, hpart, hseq, if_true]

theorem deassertPfw_built (hpart : s.partState = .parked) (hb : s.built = true) :
    deassertPfw s = enterResuming { s with pfwAsserted := false } := by
  simp only [deassertPfw, hpart, hb, if_true]

theorem deassertPfw_notBuilt (hpart : s.partState = .parked) (hb : s.built = false) :
    deassertPfw s = enterStartup { s with pfwAsserted := false } := by
  simp [deassertPfw, hpart, hb]

theorem deassertPfw_other (hpart : s.partState = .startup ∨ s.partState = .run ∨ s.partState = .resuming ∨
    s.partState = .holdup ∧ s.markerSeq ≠ none) : deassertPfw s = { s with pfwAsserted := false } := by
  obtain h | h | h | ⟨h, hseq⟩ := hpart <;> simp only [deassertPfw, h]
  exact if_neg hseq

theorem deassertPfw_pfwAsserted (s : State) : (deassertPfw s).pfwAsserted = false := by
  unfold deassertPfw
  dsimp only
  split
  · split
    · rw [enterRun_eq]
    · rfl
  · split <;> rfl
  all_goals rfl

/-- In PARKED over a built directory nothing is in flight (R60, R166). -/
theorem ControllerGood.parked_idle (h : ControllerGood s) (hr : s.resetHold = none) (hpart : s.partState = .parked)
    (hb : s.built = true) : s.op = none := by
  obtain ⟨-, -, hseq, -⟩ := (h.power hr).parked hpart
  have hgood := h.op hr
  cases hop : s.op with
  | none => rfl
  | some op =>
    rw [opGood, hop] at hgood
    cases op with
    | fetch id slot => simp [hpart] at hgood
    | program slot => simp [hpart] at hgood
    | markerProgram v => simp [hseq] at hgood
    | scanFetch slot withdrawn => simp [hb] at hgood

/-- The scan is ordered afresh, and its first fetch starts unless one withdrawn is still in flight (R60, R154). -/
theorem settle_enterStartup (hdrained : s.op = none → Drained s) (hmode : s.mode = .scan) : settle (enterStartup s) = { enterStartup s with
      op := if s.op = none then some (.scanFetch 1056 false) else s.op
      scanNext := if s.op = none then 1 else 0 } := by
  by_cases hop : s.op = none
  · have hqueue : inProgramming (enterStartup s) = none := by
      rw [inProgramming, show (enterStartup s).queue = [] from (hdrained hop).queue]
      rfl
    have hchoice : chooseIfIdle (enterStartup s) =
        { enterStartup s with op := some (.scanFetch 1056 false), scanNext := 1 } := by
      rw [chooseIfIdle_mode (s := enterStartup s) ⟨hop, (hdrained hop).request, hqueue⟩]
      exact chooseByMode_scan hmode rfl (show 0 < Config.slots by decide)
    rw [if_pos hop, if_pos hop, settle_chosen (.inr (.inr (.inl (by rw [hchoice]; exact nofun)))), hchoice]
  · rw [if_neg hop, if_neg hop, settle_busy (s := enterStartup s) hop]
    rfl

/-- Settles O45. -/
theorem pfwDeassertionResumes : Obligations.PfwDeassertionResumes := by
  intro s hr hgood
  refine ⟨_, exec_pfwDeassertion hr, by rw [settle_pfwAsserted, deassertPfw_pfwAsserted], fun hpart hseq => ?_,
    fun hpart hb => ?_, fun hpart hb => ?_,
    fun hpart => by rw [deassertPfw_other hpart, hgood.settle_pfw hr]⟩
  · have hop : s.op ≠ none := fun hop => (hgood.drained hr hop).2 hpart
    have hu := enterRun_eq { s with pfwAsserted := false }
    rw [deassertPfw_holdup hpart hseq, settle_busy (by rw [hu]; exact hop)]
    exact ⟨hu, fun p => (portOf_announce _ p).trans (congrArg (told (.power .run)) (portOf_congr rfl p))⟩
  · have hop := hgood.parked_idle hr hpart hb
    rw [deassertPfw_built hpart hb, settle_marker (s := enterResuming { s with pfwAsserted := false }) (v := .dirty) hop rfl,
      ← (hgood.idle hr).1]
    rfl
  · have hdrained : s.op = none → Drained { s with pfwAsserted := false } := fun hop => by
      obtain ⟨h, -⟩ := hgood.drained hr hop
      exact ⟨h.idle, h.request, h.queue, h.reads, h.scan⟩
    have hmode : s.mode = .scan := by rw [((hgood.power hr).parked hpart).1, hb]; rfl
    rw [deassertPfw_notBuilt hpart hb, settle_enterStartup (s := { s with pfwAsserted := false }) hdrained hmode]
    exact ⟨rfl, rfl, rfl, rfl, rfl, rfl, rfl, rfl⟩

/-! ### What waited, answered at the entry into HOLDUP (R43, R54) -/

/-- The response r to the request of entry e is formed: placed, which freed the entry, or held by it (R87). -/
def Formed (t : State) (e : Entry) (r : Response) : Prop :=
  (entryOf t e.id = none ∧ .response r ∈ (portOf t e.port).tx) ∨
    ∃ d, entryOf t e.id = some d ∧ d.response = some r ∧ e.id ∈ (portOf t e.port).held

theorem Formed.keep {t u : State} {e : Entry} {r : Response} (h : Formed t e r) (ht : Traffic t u)
    (he : entryOf u e.id = entryOf t e.id) : Formed u e r := by
  obtain ⟨hnone, htx⟩ | ⟨d, hd, hr, hheld⟩ := h
  · exact .inl ⟨he.trans hnone, (ht.ports _).mem_tx htx⟩
  · exact .inr ⟨d, he.trans hd, hr, (ht.ports _).mem_held hheld⟩

theorem entryOf_freeEntry_same (id : Nat) (s : State) : entryOf (freeEntry id s) id = none := by
  rw [entryOf, List.find?_eq_none]
  intro e he
  have := (List.mem_filter.1 he).2
  simpa using this

theorem entryOf_updEntry_same {id : Nat} {g : Entry → Entry} (hg : ∀ e, (g e).id = e.id) {e : Entry}
    (he : entryOf s id = some e) : entryOf (updEntry id g s) id = some (g e) := by
  have hpred : ((fun e : Entry => e.id == id) ∘ fun e => if e.id = id then g e else e) = fun e => e.id == id := by
    funext e
    simp only [Function.comp_apply]
    split <;> simp [hg]
  have hid : e.id = id := of_decide_eq_true (List.find?_some he :)
  rw [entryOf] at he
  simp only [entryOf, updEntry, List.find?_map, hpred, he, Option.map_some, if_pos hid]

/-- An answer forms the response of the entry answered. -/
theorem formed_answer {id : Nat} {e : Entry} (he : entryOf s id = some e) (a : Answer) :
    Formed (answer id a s) e ⟨e.tag, a⟩ := by
  obtain rfl : e.id = id := of_decide_eq_true (List.find?_some he :)
  cases hc : canPlace (portOf s e.port) with
  | true =>
    rw [answer_of_canPlace a he hc]
    refine .inl ⟨entryOf_freeEntry_same _ _, ?_⟩
    rw [freeEntry_portOf, portOf_updPort, if_pos rfl]
    exact List.mem_append_right _ (List.mem_singleton.2 rfl)
  | false =>
    rw [answer_of_not_canPlace a he hc]
    refine .inr ⟨{ e with state := .dispatched, response := some ⟨e.tag, a⟩ }, ?_, rfl, ?_⟩
    · exact entryOf_updEntry_same (s := updPort e.port (fun x => { x with held := x.held ++ [e.id] }) s)
        (g := fun x => { x with state := .dispatched, response := some ⟨x.tag, a⟩ }) (fun _ => rfl) he
    · rw [updEntry_portOf, portOf_updPort, if_pos rfl]
      exact List.mem_append_right _ (List.mem_singleton.2 rfl)

theorem refuseAll_other {l : List Nat} {id : Nat} (h : id ∉ l) (s : State) : entryOf (refuseAll l s) id = entryOf s id := by
  induction l generalizing s with
  | nil => rfl
  | cons j l ih =>
    obtain ⟨hj, hl⟩ : id ≠ j ∧ id ∉ l := by simpa using h
    rw [refuseAll]
    split
    next e he =>
      have hid : e.id = j := of_decide_eq_true (List.find?_some he :)
      rw [ih hl, refuse, entryOf_answer_other _ (by rwa [hid])]
    next => exact ih hl s

/-- Each entry listed is answered NAK(HOLDUP), once. -/
theorem formed_refuseAll {l : List Nat} {id : Nat} {e : Entry} (hid : id ∈ l) (hl : l.Nodup)
    (he : entryOf s id = some e) : Formed (refuseAll l s) e ⟨e.tag, .nak e.kind .holdup⟩ := by
  have heid : e.id = id := of_decide_eq_true (List.find?_some he :)
  induction l generalizing s with
  | nil => cases hid
  | cons j l ih =>
    obtain ⟨hj, hnodup⟩ := List.nodup_cons.1 hl
    rw [refuseAll]
    by_cases hjid : id = j
    · subst hjid
      rw [he]
      dsimp only
      rw [refuse, heid]
      exact (formed_answer he _).keep (refuseAll_traffic l _) (by rw [heid]; exact refuseAll_other hj _)
    · have hmem : id ∈ l := (List.mem_cons.1 hid).resolve_left hjid
      split
      next d hd =>
        have hdid : d.id = j := of_decide_eq_true (List.find?_some hd :)
        exact ih hmem hnodup (by rw [refuse, entryOf_answer_other _ (by rwa [hdid]), he])
      next => exact ih hmem hnodup he

/-- The choice places nothing where no READ waits. -/
theorem settle_noReads (hw : s.fetchWait = []) : (settle s).ports = s.ports ∧ (settle s).table = s.table := by
  have h : (settle s).fetchWait = [] ∧ (settle s).ports = s.ports ∧ (settle s).table = s.table := by
    refine settle_keeps (P := fun u => u.fetchWait = [] ∧ u.ports = s.ports ∧ u.table = s.table) ?_ ⟨hw, rfl, rfl⟩
    rintro u v ⟨hw, hp, ht⟩ hmove
    cases hmove with
    | readLost _ hwu => rw [hw] at hwu; cases hwu
    | readAnswered _ hwu => rw [hw] at hwu; cases hwu
    | fetchStarts _ hwu => rw [hw] at hwu; cases hwu
    | programStarts => unfold startProgram; split <;> exact ⟨hw, hp, ht⟩
    | scanStarts => exact ⟨hw, hp, ht⟩
    | markerStarts => exact ⟨hw, hp, ht⟩
    | programAgain => exact ⟨hw, hp, ht⟩
    | cleanBegins => exact ⟨hw, hp, ht⟩
  exact h.2

/-- No entry waits for space and for a fetch (R73). -/
theorem ListsGood.waits_once (h : ListsGood s) {id : Nat} (hspace : id ∈ s.spaceWait) (hfetch : id ∈ s.fetchWait) :
    False := by
  obtain ⟨d, hd, hdid, hds, -⟩ := h.space id hspace
  obtain ⟨e, he, heid, hes, -⟩ := h.fetch id hfetch
  rw [h.table.eq_of_id hd he (hdid.trans heid.symm), hes] at hds
  cases hds

/-- Settles O44. -/
theorem holdupRefusesTheWaiting : Obligations.HoldupRefusesTheWaiting := by
  intro s t id e hr hpart hlists hid he ht
  have heid : e.id = id := of_decide_eq_true (List.find?_some he :)
  obtain rfl : settle (assertPfw s) = t := Host.Outcome.next.inj ((exec_pfwAssertion hr).symm.trans ht)
  rw [assertPfw_run hpart]
  obtain ⟨x, hx⟩ : ∃ x, x = enterHoldup { s with pfwAsserted := true } := ⟨_, rfl⟩
  have hxeq := enterHoldup_eq { s with pfwAsserted := true }
  rw [← hx] at hxeq
  have htable : x.table = s.table := by rw [hxeq]
  have hspace : x.spaceWait = s.spaceWait := by rw [hxeq]
  have hreads : x.fetchWait = s.fetchWait := by rw [hxeq]
  have hx0 : entryOf x id = some e := (entryOf_congr htable id).trans he
  have hformed : Formed (refuseReads (refuseWaiters x)) e ⟨e.tag, .nak e.kind .holdup⟩ := by
    have hfetch : (refuseWaiters x).fetchWait = s.fetchWait := by simp [refuseWaiters, hreads]
    by_cases hwaits : id ∈ s.fetchWait
    · have hno : id ∉ s.spaceWait := fun h => hlists.waits_once h hwaits
      have hkept : entryOf (refuseWaiters x) id = some e :=
        (refuseAll_other (by rwa [hspace]) _).trans hx0
      exact formed_refuseAll (by rwa [hfetch]) (by rw [hfetch]; exact hlists.fetchOnce) hkept
    · have hmem : id ∈ x.spaceWait := hspace ▸ (List.mem_append.1 hid).resolve_right hwaits
      have hfirst : Formed (refuseWaiters x) e ⟨e.tag, .nak e.kind .holdup⟩ :=
        formed_refuseAll hmem (hspace ▸ hlists.spaceOnce) hx0
      exact hfirst.keep (refuseReads_traffic _) (by rw [heid]; exact refuseAll_other (by rwa [hfetch]) _)
  have heq : holdupFromRun { s with pfwAsserted := true } = refuseReads (refuseWaiters x) := by rw [holdupFromRun, hx]
  have hnone : (refuseReads (refuseWaiters x)).fetchWait = [] := by rw [← heq, holdupFromRun_eq]
  obtain ⟨hports, htable⟩ := settle_noReads hnone
  have hend := hformed.keep (.of_eq hports htable) (entryOf_congr htable _)
  rw [Formed, heid] at hend
  rw [heq]
  exact hend

end

end Sys2Proof.Machine

/-! SUPPORT. The scan (R60, R154 to R158). O41 is settled here. -/

namespace Sys2Proof.Machine

/-- A key of a rising list after some entries are left out. -/
theorem keyedFind_filter {α : Type} {l : List (Nat × α)} (h : KeysRise l) (p : Nat × α → Bool) (k : Nat) :
    keyedFind (l.filter p) k = (keyedFind l k).bind (fun v => if p (k, v) then some v else none) := by
  induction l with
  | nil => rfl
  | cons x l ih =>
    obtain ⟨j, v⟩ := x
    obtain ⟨hhead, htail⟩ := List.pairwise_cons.1 h
    by_cases hp : p (j, v) = true
    · rw [List.filter_cons_of_pos hp]
      by_cases hj : j = k
      · subst hj
        simp [keyedFind, hp]
      · simp [keyedFind, hj, ih htail]
    · rw [List.filter_cons_of_neg hp, ih htail]
      by_cases hj : j = k
      · subst hj
        have hnone : keyedFind l j = none := by
          cases hf : keyedFind l j with
          | none => rfl
          | some w => exact absurd (hhead _ (mem_of_keyedFind hf)) (Nat.lt_irrefl j)
        simp [keyedFind, hp, hnone]
      · simp [keyedFind, hj]

section
variable {s : State}

theorem spareOf_congr {s t : State} (h : t.spares = s.spares) (n : Nat) : spareOf t n = spareOf s n := by
  rw [spareOf, h, spareOf]

/-! ### Reconciliation (R155 to R158) -/

theorem spareOf_retireEarlier (h : KeysRise s.spares) (n r m : Nat) :
    spareOf (retireEarlier n r s) m =
      if m < n ∧ (spareOf s m = .free ∨ spareOf s m = .inUse r) then .retired else spareOf s m := by
  have hfind := keyedFind_filter h (fun x => !(decide (x.1 < n) && (x.2 == .free || x.2 == .inUse r))) m
  have hkept : spareOf (retireEarlier n r s) m = ((keyedFind s.spares m).bind (fun v =>
      if !(decide (m < n) && (v == .free || v == .inUse r)) then some v else none)).getD .retired :=
    congrArg (fun o => Option.getD o SpareState.retired) hfind
  have hold : spareOf s m = (keyedFind s.spares m).getD .retired := rfl
  obtain hf | ⟨v, hf⟩ := Option.eq_none_or_eq_some (keyedFind s.spares m)
  · rw [hkept, hold, hf]
    simp
  · rw [hkept, hold, hf, Option.bind_some, Option.getD_some]
    have hiff : (!(decide (m < n) && (v == .free || v == .inUse r))) = true ↔ ¬(m < n ∧ (v = .free ∨ v = .inUse r)) := by
      rw [Bool.not_eq_true', ← Bool.not_eq_true, Bool.and_eq_true, Bool.or_eq_true, beq_iff_eq, beq_iff_eq,
        decide_eq_true_iff]
    by_cases hgone : m < n ∧ (v = .free ∨ v = .inUse r)
    · rw [if_pos hgone, if_neg (fun h => hiff.1 h hgone)]
      rfl
    · rw [if_neg hgone, if_pos (hiff.2 hgone)]
      rfl

theorem reconcileSpare_bad {n : Nat} {image : List Byte} (h : scanGood .spare image = false) :
    reconcileSpare n image s = setSpare n .retired s := by
  rw [reconcileSpare, if_neg (by simp [h])]

theorem reconcileSpare_free {n : Nat} {image : List Byte} (h : scanGood .spare image = true)
    (hb : byteAt image 0 = freeMark) : reconcileSpare n image s = setSpare n .free s := by
  rw [reconcileSpare, if_pos h, if_pos hb]

theorem reconcileSpare_record {n : Nat} {image : List Byte} (h : scanGood .spare image = true)
    (hb : byteAt image 0 ≠ freeMark) : reconcileSpare n image s =
      setRow (halfAt image 1).toNat (rowOfImage image (.spare n))
        (setSpare n (.inUse (halfAt image 1).toNat) (retireEarlier n (halfAt image 1).toNat s)) := by
  rw [reconcileSpare, if_pos h, if_neg hb]

theorem reconcile_marker (image : List Byte) :
    reconcile 1056 image s = { s with verdict := imageVerdict image } := if_pos rfl

theorem reconcile_primary {slot : Nat} (h : slot < 1024) (image : List Byte) :
    reconcile slot image s = setRow slot
      (if scanGood (.primary slot) image then rowOfImage image .primary else ⟨.corrupt, 0, 0, .primary⟩) s := by
  have hmarker : slot ≠ Config.markerSlot := by
    have : Config.markerSlot = 1056 := rfl
    omega
  rw [reconcile, if_neg hmarker, if_pos (show slot < Config.records from h), reconcilePrimary]
  split <;> rfl

theorem reconcile_spare {n : Nat} (h : n < 32) (image : List Byte) :
    (reconcile (1024 + n) image s).directory = (reconcileSpare n image s).directory ∧
      (reconcile (1024 + n) image s).spares = (reconcileSpare n image s).spares := by
  have hmarker : Config.markerSlot = 1056 := rfl
  have hrecords : Config.records = 1024 := rfl
  rw [reconcile, if_neg (by omega), if_neg (by omega), show 1024 + n - Config.records = n by omega]
  split
  · exact ⟨rfl, rfl⟩
  · exact ⟨rfl, rfl⟩

theorem reconcile_last (image : List Byte) : reconcile 1055 image s = scanDone (reconcileSpare 31 image s) := rfl

/-- Short of the last slot a reconciliation touches verdict, directory and pool alone. -/
theorem reconcile_eq {slot : Nat} (h : slot ≠ 1055) (image : List Byte) (s : State) :
    reconcile slot image s = { s with
      verdict := (reconcile slot image s).verdict
      directory := (reconcile slot image s).directory
      spares := (reconcile slot image s).spares } := by
  unfold reconcile
  split
  · rfl
  · split
    · unfold reconcilePrimary
      split <;> rfl
    · rw [if_neg (show slot ≠ Config.markerSlot - 1 from h)]
      unfold reconcileSpare
      (repeat' split) <;> rfl

theorem reconcileSpare_eq (n : Nat) (image : List Byte) (s : State) :
    reconcileSpare n image s = { s with
      directory := (reconcileSpare n image s).directory
      spares := (reconcileSpare n image s).spares } := by
  unfold reconcileSpare
  (repeat' split) <;> rfl

/-! ### The fetch in flight -/

theorem exec_scanCompletion {slot : Nat} {withdrawn : Bool} (hr : s.resetHold = none)
    (hop : s.op = some (.scanFetch slot withdrawn)) (got : Cells) :
    exec (.scanFetchCompletion got) s = .next (settle (scanFetchDone slot withdrawn got s)) := by
  rw [exec, execScanFetchCompletion, whileRunning_out _ _ hr]
  simp only [hop]

/-- A scan fetch whose order stands (R60, R154). -/
structure Scanning (s : State) (slot : Nat) : Prop where
  request : s.markerRequest = none
  mode    : s.mode = .scan
  queue   : s.queue = []
  order   : s.scanOrder = true
  built   : s.built = false
  part    : s.partState = .startup
  slot_eq : slot = scanSlot (s.scanNext - 1)
  first   : 1 ≤ s.scanNext
  last    : s.scanNext ≤ 1057

theorem ControllerGood.scanning_slot (h : ControllerGood s) (hr : s.resetHold = none) {slot : Nat}
    (hop : s.op = some (.scanFetch slot false)) : Scanning s slot := by
  have hgood := h.op hr
  simp only [opGood, hop, Bool.and_eq_true, Bool.or_eq_true, beq_iff_eq, decide_eq_true_eq, Bool.not_eq_true',
    Bool.false_eq_true, if_false] at hgood
  obtain ⟨⟨hpart, hbuilt⟩, ⟨⟨ho, hslot⟩, hfirst⟩, hlast⟩ := hgood
  have hstartup : s.partState = .startup := by
    refine hpart.resolve_right (fun hparked => ?_)
    obtain ⟨-, hno, -⟩ := (h.power hr).parked hparked
    rw [ho] at hno
    cases hno
  obtain ⟨hmode, hqueue, -⟩ := (h.power hr).startup hstartup
  exact ⟨(h.idle hr).1, hmode, hqueue, ho, hbuilt, hstartup, hslot, hfirst, hlast⟩

/-- Scan slots run 1056, then 0 to 1055 (R60). -/
theorem Scanning.slot_last {slot : Nat} (h : Scanning s slot) : slot = 1055 ↔ s.scanNext = 1057 := by
  have hmarker : Config.markerSlot = 1056 := rfl
  have hfirst := h.first
  have hlast := h.last
  rw [h.slot_eq, scanSlot]
  split <;> omega

theorem settle_scan (h : ChoiceOfMode s) (hmode : s.mode = .scan) (ho : s.scanOrder = true) (hn : s.scanNext < 1057) :
    settle s = { s with op := some (.scanFetch (scanSlot s.scanNext) false), scanNext := s.scanNext + 1 } := by
  have hchoice : chooseIfIdle s =
      { s with op := some (.scanFetch (scanSlot s.scanNext) false), scanNext := s.scanNext + 1 } := by
    rw [chooseIfIdle_mode h, chooseByMode_scan hmode ho hn]
  rw [settle_chosen (.inr (.inr (.inl (by rw [hchoice]; exact nofun)))), hchoice]

theorem settle_reconcile_between {slot : Nat} (h : Scanning s slot) (hslot : slot ≠ 1055) (image : List Byte) :
    settle (reconcile slot image { s with op := none }) = { reconcile slot image { s with op := none } with
      op := some (.scanFetch (scanSlot s.scanNext) false)
      scanNext := s.scanNext + 1 } := by
  have hu := reconcile_eq hslot image { s with op := none }
  have hnext : s.scanNext < 1057 := by
    have hne : s.scanNext ≠ 1057 := fun hn => hslot (h.slot_last.2 hn)
    have hlast := h.last
    omega
  generalize reconcile slot image { s with op := none } = u at hu ⊢
  have hscan : u.scanNext = s.scanNext := by rw [hu]
  have hidle : ChoiceOfMode u := by
    rw [hu]
    exact ⟨rfl, h.request, by rw [inProgramming, h.queue]; rfl⟩
  rw [← hscan] at hnext ⊢
  exact settle_scan hidle (by rw [hu]; exact h.mode) (by rw [hu]; exact h.order) hnext

theorem settle_reconcile_last (image : List Byte) :
    settle (reconcile 1055 image { s with op := none }) =
      { reconcile 1055 image { s with op := none } with markerRequest := none, op := some (.markerProgram .dirty) } := by
  refine settle_marker ?_ rfl
  rw [reconcile_last, scanDone, reconcileSpare_eq]
  rfl

/-- Settles O41. -/
theorem scanReconcilesEachSlot : Obligations.ScanReconcilesEachSlot := by
  intro s slot got image hr hgood hkeys himage
  refine ⟨fun hop => ?_, fun hop => ?_⟩
  · have h := hgood.scanning_slot hr hop
    have hexec := exec_scanCompletion hr hop got
    have hdone : scanFetchDone slot false got s = reconcile slot image { s with op := none } := by
      rw [himage]
      exact if_neg (by simp [h.order])
    rw [hdone] at hexec
    have hdirectory := directory_of_lessChoice (settle_frame (reconcile slot image { s with op := none }))
    have hspares := spares_of_lessChoice (settle_frame (reconcile slot image { s with op := none }))
    have hverdict := verdict_of_lessChoice (settle_frame (reconcile slot image { s with op := none }))
    have hrow : ∀ r, rowOf _ r = rowOf _ r := rowOf_congr hdirectory
    have hspare : ∀ m, spareOf _ m = spareOf _ m := spareOf_congr hspares
    refine ⟨_, hexec, fun hslot => ?_, fun hslot => ?_, fun hslot => ?_, fun hslot hg => ?_, fun hslot hg => ?_, fun hslot => ?_,
      fun n hslot hn => ?_⟩
    · rw [settle_reconcile_between h hslot, reconcile_eq hslot]
      exact ⟨rfl, h.built⟩
    · rw [hslot, settle_reconcile_last, reconcile_last, scanDone, reconcileSpare_eq]
      exact ⟨rfl, rfl, rfl, rfl, h.part⟩
    · rw [hdirectory, hspares, hverdict, hslot]
      exact ⟨rfl, rfl, rfl⟩
    · rw [hrow, reconcile_primary hslot, rowOf_setRow, if_pos rfl, if_pos hg]
    · rw [hrow, reconcile_primary hslot, rowOf_setRow, if_pos rfl, if_neg (by simp [hg])]
    · refine ⟨by rw [hspares, reconcile_primary hslot]; rfl, fun r hne => ?_⟩
      rw [hrow, reconcile_primary hslot, rowOf_setRow, if_neg hne]
      rfl
    · obtain ⟨hdir, hsp⟩ := reconcile_spare (s := { s with op := none }) hn image
      rw [← hslot] at hdir hsp
      have hpool := fun m => (hspare m).trans (spareOf_congr hsp m)
      have hrows := fun r => (hrow r).trans (rowOf_congr hdir r)
      refine ⟨fun hg => ?_, fun hg hfree => ?_, fun r hg hrecord hr => ?_⟩
      · rw [reconcileSpare_bad hg] at hdir hpool
        refine ⟨(hpool n).trans ?_, hdirectory.trans hdir, fun m hm => (hpool m).trans ?_⟩
        · rw [spareOf_setSpare, if_pos rfl]
        · rw [spareOf_setSpare, if_neg hm]
          rfl
      · rw [reconcileSpare_free hg hfree] at hdir hpool
        refine ⟨(hpool n).trans ?_, hdirectory.trans hdir, fun m hm => (hpool m).trans ?_⟩
        · rw [spareOf_setSpare, if_pos rfl]
        · rw [spareOf_setSpare, if_neg hm]
          rfl
      · subst hr
        rw [reconcileSpare_record hg hrecord] at hrows hpool
        refine ⟨(hpool n).trans ?_, (hrows _).trans ?_, fun q hq => (hrows q).trans ?_, fun m hm => (hpool m).trans ?_⟩
        · rw [spareOf_congr (setRow_spares ..), spareOf_setSpare, if_pos rfl]
        · rw [rowOf_setRow, if_pos rfl]
        · rw [rowOf_setRow, if_neg hq]
          rfl
        · rw [spareOf_congr (setRow_spares ..), spareOf_setSpare, if_neg hm,
            spareOf_retireEarlier (s := { s with op := none }) hkeys]
          rfl
  · have hexec := exec_scanCompletion hr hop got
    have hdone : scanFetchDone slot true got s = { s with op := none } := rfl
    rw [hdone] at hexec
    obtain ⟨hrequest, -⟩ := hgood.idle hr
    have hop' := hgood.op hr
    simp only [opGood, hop, Bool.and_eq_true, Bool.or_eq_true, beq_iff_eq, Bool.not_eq_true', if_true] at hop'
    obtain ⟨⟨hpart, hbuilt⟩, hparted, hnext⟩ := hop'
    have hframe := settle_frame { s with op := none }
    refine ⟨_, hexec, directory_of_lessChoice hframe, spares_of_lessChoice hframe, verdict_of_lessChoice hframe,
      (built_of_lessChoice hframe).trans hbuilt, ?_⟩
    obtain hpart | hpart := hpart
    · obtain ⟨hmode, hqueue, -⟩ := (hgood.power hr).startup hpart
      have ho : s.scanOrder = true := by rw [hparted, hpart]; rfl
      have hfirst : s.scanNext = 0 := hnext.resolve_left (by simp [ho])
      rw [settle_scan (s := { s with op := none }) ⟨rfl, hrequest, by rw [inProgramming, hqueue]; rfl⟩ hmode ho
        (by rw [hfirst]; decide), if_pos ho]
      rw [hfirst]
      rfl
    · obtain ⟨hmode, ho, -, hqueue, -⟩ := (hgood.power hr).parked hpart
      have hreads := ((hgood.power hr).waiting (by simp [hpart])).2
      have hdrained : Drained { s with op := none } := ⟨rfl, hrequest, hqueue, hreads, fun _ => ho⟩
      rw [hdrained.settle (.inl (by rw [hpart]; exact nofun)), if_neg (by simp [ho])]

end

end Sys2Proof.Machine

/-! SUPPORT. What any command does to one port, and the bounds that follow. O54 is settled here. -/

namespace Sys2Proof.Machine

/-! ### One port through one command -/

/-- A move of a link as its own port sees it. -/
inductive LinkPortMove (x : Port) : Port → Prop
  | receiver (r : Receiver) : LinkPortMove x { x with receiver := r }
  | failure (r : Receiver) : LinkPortMove x (failFrame r x)
  | overrun : LinkPortMove x { x with overrun := true }
  | admitted (body : List Byte) : LinkPortMove x (admitFrame body x)
  | byteSent (hm : x.mode = .clocked) (k : Nat) (f : TxFrame) (rest : List TxFrame) (hk : x.sending = some k)
      (htx : x.tx = f :: rest) (hlen : k + 1 < (txBytes f).length) : LinkPortMove x { x with sending := some (k + 1) }
  | frameSent (f : TxFrame) (rest more : List TxFrame) (held : List Nat) (htx : x.tx = f :: rest)
      (hmore : more = [] ∨ isResponse f = true ∧ ∃ r, more = [.response r]) (hheld : x.held = [] → held = []) :
      LinkPortMove x { x with
        tx := rest ++ more, held := held
        sending := if x.mode = .async ∧ rest ++ more ≠ [] then some 0 else none }
  | boundary (hm : x.mode = .clocked) : LinkPortMove x (presentNext x)

/-- Such moves, one after another. -/
abbrev LinkPortMoves : Port → Port → Prop := Relation.ReflTransGen LinkPortMove

theorem frameLeaves_portMove {p : PortId} {s : State} {f : TxFrame} {rest : List TxFrame} (htx : (portOf s p).tx = f :: rest) :
    LinkPortMove (portOf s p) (portOf (frameLeaves p s) p) := by
  obtain ⟨hnil, -⟩ | ⟨f', rest', htx', hheld, e⟩ | ⟨f', rest', id, ids, htx', -, hheld, -, e⟩ |
    ⟨f', rest', id, ids, x, r, htx', hresponse, hheld, -, -, e⟩ := frameLeaves_cases p s
  · rw [htx] at hnil; cases hnil
  · rw [e, portOf_updPort_same]
    have h := LinkPortMove.frameSent f' rest' [] (portOf s p).held htx' (.inl rfl) id
    rwa [List.append_nil] at h
  · rw [e, portOf_updPort_same]
    have h := LinkPortMove.frameSent f' rest' [] ids htx' (.inl rfl) (fun hn => by rw [hheld] at hn; cases hn)
    rwa [List.append_nil] at h
  · have h := LinkPortMove.frameSent f' rest' [.response r] ids htx' (.inr ⟨hresponse, r, rfl⟩)
      (fun hn => by rw [hheld] at hn; cases hn)
    have hport : portOf (frameLeaves p s) p = { portOf s p with
        tx := rest' ++ [.response r], held := ids
        sending := if (portOf s p).mode = .async ∧ rest' ++ [.response r] ≠ [] then some 0 else none } := by
      have hframe := frameLeaves_port (p := p) (s := s) (by rw [htx]; simp)
      have htx'' : (portOf (frameLeaves p s) p).tx = rest' ++ [.response r] := by
        rw [e, freeEntry_portOf, portOf_updPort_same]; rfl
      have hheld'' : (portOf (frameLeaves p s) p).held = ids := by
        rw [e, freeEntry_portOf, portOf_updPort_same]; rfl
      rw [htx'', hheld''] at hframe
      exact hframe
    rwa [hport]

theorem LinkMove.port {p : PortId} {fails : Bool} {s t : State} (h : LinkMove p fails s t) :
    LinkPortMove (portOf s p) (portOf t p) := by
  cases h with
  | receiver r => rw [portOf_updPort_same]; exact .receiver r
  | failure _ r => rw [portOf_updPort_same]; exact .failure r
  | overrun => rw [portOf_updPort_same]; exact .overrun
  | admitted body => rw [portOf_updPort_same]; exact .admitted body
  | byteSent hm k f rest hk htx hlen => rw [portOf_updPort_same]; exact .byteSent hm k f rest hk htx hlen
  | frameSent f rest htx => exact frameLeaves_portMove htx
  | boundary hm => rw [portOf_updPort_same]; exact .boundary hm

theorem LinkMoves.port {p : PortId} {fails : Bool} {s t : State} (h : LinkMoves p fails s t) :
    LinkPortMoves (portOf s p) (portOf t p) :=
  h.keeps (P := fun u => LinkPortMoves (portOf s p) (portOf u p)) (fun _ _ hu hm => hu.tail hm.port) .refl

/-- The port that attention restarts (R139). -/
def restarted (p : PortId) (part : PartState) (x : Port) : Port :=
  { x with
    session   := (match x.mode with | .async => .linkDown | .clocked => .linkUp)
    bitPeriod := none
    receiver  := .hunting
    rxBuffer  := []
    tx        := (match x.mode with | .async => [] | .clocked => [.notice (.linkup p part) false])
    sending   := none
    outByte   := none
    selected  := false
    overrun   := false
    noticeGap := false
    flush     := if x.session = .session then none else x.flush
    held      := [] }

/-- What a command does to port p. -/
inductive PortStep (p : PortId) (x : Port) : Port → Prop
  | moved {y : Port} (h : PortMoves x y) : PortStep p x y
  | async {y : Port} (hm : x.mode = .async) (hup : x.session ≠ .linkDown) (h : LinkPortMoves x y) : PortStep p x y
  | clocked {y : Port} (hm : x.mode = .clocked) (hsel : x.selected = true) (h : LinkPortMoves x y) :
      PortStep p x (presentNext y)
  | selected (hm : x.mode = .clocked) (hsel : x.selected = false) : PortStep p x (select x)
  | deselected (hm : x.mode = .clocked) : PortStep p x (deselect x)
  | calibrated (low : Nat) (part : PartState) (hm : x.mode = .async) (hdown : x.session = .linkDown)
      (hlow : Config.calibrationMin ≤ low ∧ low ≤ Config.calibrationMax) :
      PortStep p x (offerNotice (.linkup p part) { x with bitPeriod := some low, session := .linkUp })
  | attended (part : PartState) (hup : x.session ≠ .linkDown) (hsel : x.mode = .clocked → x.selected = false) :
      PortStep p x (restarted p part x)
  | handled {kind : Byte} {f : RxFrame} {rest : List RxFrame} {y z : Port} (hrx : x.rxBuffer = f :: rest)
      (hh : HandledPort kind { x with rxBuffer := rest } y) (h : PortMoves y z) : PortStep p x z

theorem Does.port {c : Instr} {s t : State} (h : Does s c t) (p : PortId) : PortStep p (portOf s p) (portOf t p) := by
  have other : ∀ {q u}, LinkOnly q s u → p ≠ q → PortStep p (portOf s p) (portOf u p) :=
    fun hu hp => .moved (by rw [hu.other p hp])
  have traffic : ∀ {u : State}, Traffic s u → PortStep p (portOf s p) (portOf u p) := fun ht => .moved (ht.ports p)
  have taken : ∀ {q id f rest last u}, p ≠ q → PortMoves (portOf (taken q id f rest last s) p) (portOf u p) →
      PortStep p (portOf s p) (portOf (settle u) p) := fun {q id f rest last u} hp hm => .moved (by
    rw [taken_portOf_other _ _ _ _ _ _ hp] at hm
    exact hm.trans ((settle_traffic u).ports p))
  cases h with
  | nothing => exact .moved .refl
  | @async _ q _ hq hm hup hmoves =>
    by_cases hp : p = q
    · subst hp; exact .async hm hup hmoves.port
    · exact other hmoves.only hp
  | @clocked _ q u hq hm hsel hmoves =>
    by_cases hp : p = q
    · subst hp; rw [portOf_updPort_same]; exact .clocked hm hsel hmoves.port
    · exact other (hmoves.only.trans (.updPort presentNext_held u)) hp
  | selected q b order hm hsel =>
    by_cases hp : p = q
    · subst hp; rw [portOf_updPort_same]; exact .selected hm hsel
    · rw [portOf_updPort_other _ _ _ _ hp]; exact .moved .refl
  | deselected q hm =>
    by_cases hp : p = q
    · subst hp; rw [portOf_updPort_same]; exact .deselected hm
    · rw [portOf_updPort_other _ _ _ _ hp]; exact .moved .refl
  | calibrated q low hm hdown hlow =>
    by_cases hp : p = q
    · subst hp
      rw [placeLinkup, portOf_updPort_same, portOf_updPort_same]
      exact .calibrated low _ hm hdown hlow
    · rw [placeLinkup, portOf_updPort_other _ _ _ _ hp, portOf_updPort_other _ _ _ _ hp]; exact .moved .refl
  | attended q hup hsel =>
    by_cases hp : p = q
    · subst hp; rw [attend_portOf_same]; exact .attended s.partState hup hsel
    · rw [attend_portOf_other q s hp]; exact .moved .refl
  | chosen => exact traffic (settle_traffic s)
  | @refused _ q last id f rest hc ht code =>
    have hmoves := (answer_traffic id (.nak (bodyKind f.body) code) (Machine.taken q id f rest last s)).ports p
    by_cases hp : p = q
    · subst hp
      rw [taken_portOf_same] at hmoves
      exact .handled ht.head (.moved (kind := bodyKind f.body) hmoves) ((settle_traffic _).ports p)
    · exact taken hp hmoves
  | @handled _ q last id f rest u hc ht _ hu =>
    obtain ⟨hother, hself⟩ := hu.ports
    by_cases hp : p = q
    · subst hp
      rw [show (newEntry id p f).port = p from rfl, taken_portOf_same] at hself
      exact .handled ht.head hself ((settle_traffic u).ports p)
    · exact taken hp (hother p hp)
  | fetched => exact traffic ((fetchDone_traffic _ _ s).trans (settle_traffic _))
  | programmed => exact traffic ((programDone_traffic _ _ _ s).trans (settle_traffic _))
  | fetchLost => exact traffic ((settle_traffic _).after rfl rfl)
  | programLost => exact traffic ((settle_traffic _).after rfl rfl)
  | marked => exact traffic (((markerDone_traffic _ _).trans (settle_traffic _)).after rfl rfl)
  | scanned => exact traffic ((scanFetchDone_traffic _ _ _ s).trans (settle_traffic _))
  | ticked => exact traffic (tick_traffic s)
  | asserted => exact traffic ((assertPfw_traffic s).trans (settle_traffic _))
  | deasserted => exact traffic ((deassertPfw_traffic s).trans (settle_traffic _))

/-! ### The transmit queues' bounds (R87, R114) -/

/-- The bounds of one transmit queue. -/
abbrev TxFits (x : Port) : Prop :=
  responseCount x.tx ≤ Config.responseSlots ∧ noticeCount x.tx ≤ Config.noticeSlots

theorem counts_append (l m : List TxFrame) :
    responseCount (l ++ m) = responseCount l + responseCount m ∧ noticeCount (l ++ m) = noticeCount l + noticeCount m := by
  simp [responseCount, noticeCount]

theorem counts_cons (f : TxFrame) (l : List TxFrame) :
    responseCount (f :: l) = responseCount l + (if isResponse f then 1 else 0) ∧
      noticeCount (f :: l) = noticeCount l + (if isResponse f then 0 else 1) := by
  cases h : isResponse f <;> simp [responseCount, noticeCount, h]

theorem counts_response (r : Response) : responseCount [.response r] = 1 ∧ noticeCount [.response r] = 0 := ⟨rfl, rfl⟩

theorem counts_notice (n : Notice) (gap : Bool) : responseCount [.notice n gap] = 0 ∧ noticeCount [.notice n gap] = 1 :=
  ⟨rfl, rfl⟩

theorem TxFits.offerNotice {x : Port} (h : TxFits x) (n : Notice) : TxFits (offerNotice n x) := by
  unfold Machine.offerNotice
  split
  next hfree =>
    obtain ⟨hr, hn⟩ := counts_append x.tx [.notice n x.noticeGap]
    obtain ⟨hr', hn'⟩ := counts_notice n x.noticeGap
    exact ⟨show responseCount (x.tx ++ _) ≤ _ by have := h.1; omega, show noticeCount (x.tx ++ _) ≤ _ by omega⟩
  next => exact h

theorem TxFits.moves {x y : Port} (hx : TxFits x) (h : PortMoves x y) : TxFits y := by
  refine h.keeps (P := TxFits) (fun z w hz hm => ?_) hx
  cases hm with
  | placed r hc =>
    obtain ⟨-, hfree⟩ := (canPlace_iff z).1 hc
    obtain ⟨hr, hn⟩ := counts_append z.tx [.response r]
    obtain ⟨hr', hn'⟩ := counts_response r
    exact ⟨show responseCount (z.tx ++ _) ≤ _ by omega, show noticeCount (z.tx ++ _) ≤ _ by have := hz.2; omega⟩
  | held id => exact hz
  | noticed n _ => exact hz.offerNotice n
  | flushChanged f => exact hz

theorem TxFits.linkMoves {x y : Port} (hx : TxFits x) (h : LinkPortMoves x y) : TxFits y := by
  induction h with
  | refl => exact hx
  | @tail z w _ hm hz =>
    cases hm with
    | frameSent f rest more held htx hmore =>
      obtain ⟨hz1, hz2⟩ := hz
      obtain ⟨hr, hn⟩ := counts_cons f rest
      obtain ⟨hra, hna⟩ := counts_append rest more
      rw [htx] at hz1 hz2
      suffices h : responseCount (rest ++ more) ≤ Config.responseSlots ∧ noticeCount (rest ++ more) ≤ Config.noticeSlots from h
      obtain rfl | ⟨hresponse, r, rfl⟩ := hmore
      · rw [List.append_nil]
        omega
      · obtain ⟨hr', hn'⟩ := counts_response r
        rw [if_pos hresponse] at hr hn
        omega
    | boundary => rwa [TxFits, presentNext_tx]
    | _ => exact hz

theorem TxFits.step {p : PortId} {x y : Port} (hx : TxFits x) (h : PortStep p x y) : TxFits y := by
  cases h with
  | moved h => exact hx.moves h
  | async _ _ h => exact hx.linkMoves h
  | clocked _ _ h => rw [TxFits, presentNext_tx]; exact hx.linkMoves h
  | selected => rw [select, TxFits, presentNext_tx]; exact hx
  | deselected => rw [deselect_eq]; exact hx
  | calibrated low part _ _ _ =>
    exact TxFits.offerNotice (x := { x with bitPeriod := some low, session := .linkUp }) hx _
  | attended part _ _ =>
    cases hm : x.mode with
    | async => simp only [TxFits, restarted, hm]; decide
    | clocked => simp only [TxFits, restarted, hm]; exact ⟨Nat.zero_le _, Nat.le_add_left 1 3⟩
  | @handled kind f rest y z hrx hh h =>
    refine TxFits.moves ?_ h
    have hrest : ∀ {w}, PortMoves { x with rxBuffer := rest } w → TxFits w :=
      TxFits.moves (x := { x with rxBuffer := rest }) hx
    cases hh with
    | moved hw => exact hrest hw
    | @opened x' y hk hx' hw =>
      refine TxFits.moves (x := beginSession x') ?_ hw
      obtain rfl | rfl := hx' <;> exact hx
    | closed hk hw => have hy := hrest hw; exact hy
    | told hk hw => have hy := hrest hw; exact hy

/-! ### The window and the table (R72, R143) -/

section
variable {l m : List Entry}

theorem Shrinks.ids (h : Shrinks l m) : List.Sublist (m.map (fun e => e.id)) (l.map (fun e => e.id)) := by
  obtain ⟨g, rfl, hg⟩ := h
  induction l with
  | nil => exact .refl _
  | cons e l ih =>
    cases he : g e with
    | none => rw [List.filterMap_cons_none he]; exact ih.cons _
    | some x =>
      rw [List.filterMap_cons_some he, List.map_cons, List.map_cons, (hg e x he).id]
      exact ih.cons_cons _

theorem Shrinks.currents (h : Shrinks l m) (p : PortId) :
    (m.filter (fun e => e.port == p && e.current)).length ≤ (l.filter (fun e => e.port == p && e.current)).length := by
  obtain ⟨g, rfl, hg⟩ := h
  induction l with
  | nil => exact Nat.le_refl _
  | cons e l ih =>
    have hcons : ∀ (y : Entry) (k : List Entry), (List.filter (fun e => e.port == p && e.current) (y :: k)).length =
        (if (y.port == p && y.current) = true then 1 else 0) + (k.filter (fun e => e.port == p && e.current)).length := by
      intro y k
      cases hy : y.port == p && y.current <;> simp [hy, Nat.add_comm]
    rw [hcons e l]
    cases he : g e with
    | none => rw [List.filterMap_cons_none he]; omega
    | some x =>
      rw [List.filterMap_cons_some he, hcons]
      have hx := hg e x he
      have hcur : (x.port == p && x.current) = true → (e.port == p && e.current) = true := fun h => by
        rw [Bool.and_eq_true, hx.port] at h
        rw [Bool.and_eq_true]
        exact ⟨h.1, hx.current h.2⟩
      by_cases hxp : (x.port == p && x.current) = true
      · rw [if_pos hxp, if_pos (hcur hxp)]; omega
      · rw [if_neg hxp]; omega

end

/-- The window and the table's numbering. -/
abbrev Bounded (s : State) : Prop := WindowKept s ∧ TableGood s

theorem TableGood.shrinks {s t : State} (h : TableGood s) (ht : Shrinks s.table t.table) : TableGood t := by
  refine ⟨h.1.sublist ht.ids, fun x hx => ?_⟩
  obtain ⟨e, he, hex⟩ := ht.mem hx
  rw [hex.id, hex.port]
  exact h.2 e he

/-- Nothing is outstanding that was not. -/
theorem Bounded.shrinks {s t : State} (h : Bounded s) (ht : Shrinks s.table t.table)
    (hrx : ∀ p, (portOf t p).rxBuffer.length ≤ (portOf s p).rxBuffer.length) : Bounded t := by
  refine ⟨fun p hp => ?_, h.2.shrinks ht⟩
  have hold := h.1 p hp
  have hcurrents := ht.currents p
  have hbuffer := hrx p
  unfold outstanding at hold ⊢
  omega

theorem Bounded.traffic {s t : State} (h : Bounded s) (ht : Traffic s t) : Bounded t :=
  h.shrinks ht.table (fun p => by rw [(ht.ports p).rxBuffer])

/-- A change of one port that leaves its receive buffer. -/
theorem Bounded.changePort {s : State} (h : Bounded s) {p : PortId} {f : Port → Port} (hf : ∀ x, (f x).rxBuffer = x.rxBuffer) :
    Bounded (updPort p f s) := by
  refine h.shrinks (.refl _) (fun q => ?_)
  rw [portOf_updPort]
  split
  next hq => rw [hf, hq]
  next => exact Nat.le_refl _

theorem Bounded.linkMoves {p : PortId} {fails : Bool} {s t : State} (h : Bounded s) (hm : LinkMoves p fails s t) :
    Bounded t := by
  refine hm.keeps (P := Bounded) (fun u v hu hmove => ?_) h
  cases hmove with
  | admitted body hw =>
    refine ⟨fun q hq => ?_, hu.2⟩
    have hold := hu.1 q hq
    unfold outstanding at hold hw ⊢
    rw [portOf_updPort]
    split
    next hqp =>
      subst hqp
      rw [show (updPort q (admitFrame body) u).table = u.table from rfl]
      simp only [admitFrame, List.length_append, List.length_cons, List.length_nil]
      omega
    next => exact hold
  | frameSent f rest htx =>
    refine hu.shrinks ?_ (fun q => ?_)
    · obtain ⟨-, e⟩ | ⟨_, _, -, -, e⟩ | ⟨_, _, _, _, -, -, -, -, e⟩ | ⟨_, _, _, _, _, _, -, -, -, -, -, e⟩ :=
        frameLeaves_cases p u <;> rw [e]
      · exact .refl _
      · exact .refl _
      · exact .refl _
      · exact .filter _ _
    · by_cases hq : q = p
      · rw [hq, frameLeaves_port (by rw [htx]; simp)]
      · rw [(frameLeaves_only u).other q hq]
  | boundary => exact hu.changePort presentNext_rxBuffer
  | _ => refine hu.changePort (fun _ => ?_); rfl

/-- The head frame leaves the buffer as its request takes an entry. -/
theorem TableGood.taken {s : State} (h : TableGood s) {p : PortId} {id : Nat} {f : RxFrame} {rest : List RxFrame}
    (ht : Takes s p id f rest) (last : PortId) : TableGood (taken p id f rest last s) := by
  have htable : (Machine.taken p id f rest last s).table = s.table ++ [newEntry id p f] := rfl
  refine ⟨?_, fun e he => ?_⟩
  · rw [htable, List.map_append, List.nodup_append]
    refine ⟨h.1, by simp, ?_⟩
    rintro a ha b hb rfl
    obtain ⟨e, he, rfl⟩ := List.mem_map.1 ha
    exact ht.free e he (List.mem_singleton.1 hb)
  · rw [htable] at he
    obtain he | he := List.mem_append.1 he
    · exact h.2 e he
    · rw [List.mem_singleton.1 he]
      exact ht.number

theorem Bounded.taken {s : State} (h : Bounded s) {p : PortId} {id : Nat} {f : RxFrame} {rest : List RxFrame}
    (ht : Takes s p id f rest) (last : PortId) : Bounded (taken p id f rest last s) := by
  have htable : (Machine.taken p id f rest last s).table = s.table ++ [newEntry id p f] := rfl
  refine ⟨fun q hq => ?_, TableGood.taken h.2 ht last⟩
  have hold := h.1 q hq
  unfold outstanding at hold ⊢
  rw [htable, List.filter_append, List.length_append]
  by_cases hqp : q = p
  · subst hqp
    rw [taken_portOf_same]
    rw [ht.head, List.length_cons] at hold
    have hone := List.length_filter_le (fun e : Entry => e.port == q && e.current) [newEntry id q f]
    rw [List.length_singleton] at hone
    show rest.length + _ ≤ _
    omega
  · rw [taken_portOf_other _ _ _ _ _ _ hqp, List.filter_cons_of_neg (by simp [newEntry, Ne.symm hqp])]
    exact hold

theorem HandledPort.rxBuffer {kind : Byte} {x y : Port} (h : HandledPort kind x y) :
    y.rxBuffer.length ≤ x.rxBuffer.length := by
  cases h with
  | moved h => rw [h.rxBuffer]
  | @opened x' _ hk hx h =>
    rw [h.rxBuffer]
    obtain rfl | rfl := hx
    · exact Nat.le_refl _
    · exact Nat.zero_le _
  | closed hk h => exact Nat.zero_le _
  | told hk h => exact Nat.le_of_eq (congrArg List.length h.rxBuffer)

theorem Handled.bounded {e : Entry} {s u : State} (h : Handled e s u) (hs : Bounded s) : Bounded u := by
  refine hs.shrinks h.table (fun q => ?_)
  by_cases hq : q = e.port
  · rw [hq]; exact h.ports.2.rxBuffer
  · rw [(h.ports.1 q hq).rxBuffer]

theorem attend_shrinks (p : PortId) (s : State) : Shrinks s.table (attend p s).table := by
  rw [attend_eq]
  refine Shrinks.trans ?_ (.filter (sessionEnded p s).table _)
  unfold sessionEnded
  split
  · exact teardown_shrinks _ _ s
  · exact .refl _

theorem Does.bounded {c : Instr} {s t : State} (h : Does s c t) (hs : Bounded s) : Bounded t := by
  cases h with
  | nothing => exact hs
  | async _ _ _ h => exact hs.linkMoves h
  | clocked _ _ _ h => exact (hs.linkMoves h).changePort presentNext_rxBuffer
  | selected p => exact hs.changePort (fun x => by rw [select, presentNext_rxBuffer])
  | deselected p => exact hs.changePort (fun x => by rw [deselect_eq])
  | calibrated p low =>
    have hup : Bounded (Machine.updPort p (fun x => { x with bitPeriod := some low, session := .linkUp }) s) := by
      refine hs.changePort (fun x => ?_); rfl
    exact hup.changePort (fun x => by unfold offerNotice; split <;> rfl)
  | attended p =>
    refine hs.shrinks (attend_shrinks p s) (fun q => ?_)
    by_cases hq : q = p
    · rw [hq, attend_portOf_same]; exact Nat.zero_le _
    · rw [attend_portOf_other p s hq]
  | chosen => exact hs.traffic (settle_traffic s)
  | refused _ ht => exact (hs.taken ht _).traffic ((answer_traffic _ _ _).trans (settle_traffic _))
  | handled _ ht _ hu => exact (hu.bounded (hs.taken ht _)).traffic (settle_traffic _)
  | fetched => exact hs.traffic ((fetchDone_traffic _ _ s).trans (settle_traffic _))
  | programmed => exact hs.traffic ((programDone_traffic _ _ _ s).trans (settle_traffic _))
  | fetchLost => exact hs.traffic ((settle_traffic _).after rfl rfl)
  | programLost => exact hs.traffic ((settle_traffic _).after rfl rfl)
  | marked => exact hs.traffic (((markerDone_traffic _ _).trans (settle_traffic _)).after rfl rfl)
  | scanned => exact hs.traffic ((scanFetchDone_traffic _ _ _ s).trans (settle_traffic _))
  | ticked => exact hs.traffic (tick_traffic s)
  | asserted => exact hs.traffic ((assertPfw_traffic s).trans (settle_traffic _))
  | deasserted => exact hs.traffic ((deassertPfw_traffic s).trans (settle_traffic _))

/-! ### Resets -/

theorem portOf_beginReset {s : State} (h : s.resetHold = none) (cause : ResetEvent) (torn : Torn) (p : PortId) :
    portOf (beginReset cause torn s) p = Port.reset (portOf s p).mode := by
  rw [beginReset_out h]
  exact (portOf_congr (s := clearRam s) rfl p).trans (portOf_clearRam s p)

theorem txFits_reset (mode : LinkMode) : TxFits (Port.reset mode) := ⟨Nat.zero_le _, Nat.zero_le _⟩

/-- The choice as a reset ends touches no port and no entry. -/
theorem endReset_quiet (straps : Straps) (pfw : Level) (r : ResetRecord) (s : State) :
    (endReset straps pfw r s).ports = (awakened straps pfw r s).ports ∧ (endReset straps pfw r s).table = [] := by
  have htable : (awakened straps pfw r s).table = [] := (awakened_fields straps pfw r s).2.2.2.2.2.2.2.2.1
  cases pfw with
  | high =>
    rw [endReset_eq]
    have h := settle_awakened_high straps r s
    unfold awakened at h htable ⊢
    rw [h]
    exact ⟨rfl, htable⟩
  | low =>
    rw [endReset_eq]
    have h := settle_awakened_low straps r s
    unfold awakened at h htable ⊢
    rw [h]
    exact ⟨rfl, htable⟩

theorem portOf_endReset (straps : Straps) (pfw : Level) (r : ResetRecord) (s : State) (p : PortId) :
    portOf (endReset straps pfw r s) p =
      awakenedPort p (awakened straps pfw r s).partState (Port.reset (strapMode (strapOf straps p))) := by
  rw [portOf_congr (endReset_quiet straps pfw r s).1, portOf_awakened]

theorem Bounded.of_empty {t : State} (ht : t.table = []) (hrx : ∀ p, (portOf t p).rxBuffer = []) : Bounded t := by
  refine ⟨fun p _ => ?_, ?_, ?_⟩
  · rw [outstanding, ht, hrx]
    exact Nat.zero_le _
  · rw [ht]; exact List.nodup_nil
  · rw [ht]; exact fun e he => absurd he List.not_mem_nil

/-- Settles O54. -/
theorem boundsOfThePortsAreKept : Obligations.BoundsOfThePortsAreKept := by
  refine ⟨fun s t hs h => ?_, fun s t hw ht h => ?_⟩
  · refine step_keeps (P := TxBounded) (fun s l hs p hp => ?_) (fun c s t hs _ hd p hp => ?_)
      (fun cause torn s hs p hp => ?_) (fun straps pfw r s hs _ p _ => ?_) hs h
    · have hport : portOf { s with pending := l } p = portOf s p := portOf_congr rfl p
      rw [hport]
      exact hs p hp
    · exact TxFits.step (hs p hp) (hd.port p)
    · cases h : s.resetHold with
      | some hold =>
        have hport : portOf (beginReset cause torn s) p = portOf s p := by rw [beginReset_held h]; exact portOf_congr rfl p
        rw [hport]
        exact hs p hp
      | none => rw [portOf_beginReset h]; exact txFits_reset _
    · rw [portOf_endReset]
      unfold awakenedPort
      split
      · exact (txFits_reset _).offerNotice _
      · exact txFits_reset _
  · refine step_keeps (P := Bounded) (fun s l hs => ?_) (fun c s t hs _ hd => hd.bounded hs)
      (fun cause torn s hs => ?_) (fun straps pfw r s _ _ => ?_) ⟨hw, ht⟩ h
    · exact hs.traffic (.of_eq rfl rfl)
    · cases h : s.resetHold with
      | some hold => rw [beginReset_held h]; exact hs.traffic (.of_eq rfl rfl)
      | none =>
        refine .of_empty (by rw [beginReset_out h]; rfl) (fun p => ?_)
        rw [portOf_beginReset h]
        rfl
    · refine .of_empty (endReset_quiet straps pfw r s).2 (fun p => ?_)
      rw [portOf_endReset]
      unfold awakenedPort offerNotice
      (repeat' split) <;> rfl

end Sys2Proof.Machine

/-! SUPPORT. Claims and watches backed by open sessions (R92, R105). O55 is settled here. -/

namespace Sys2Proof.Machine

/-! ### What dispatch has checked (R79 to R82) -/

theorem checkArgs_lease {f : RxFrame} (h : checkArgs f = none) (hk : bodyKind f.body = kindClaim) :
    1 ≤ (argsOf f).lease ∧ (argsOf f).lease ≤ Config.maxLease := by
  unfold checkArgs at h
  dsimp only at h
  split at h
  · cases h
  split at h
  · cases h
  split at h
  · cases h
  split at h
  · cases h
  next hlease =>
    rw [hk] at hlease
    have hnot : ¬((argsOf f).lease = 0 ∨ Config.maxLease < (argsOf f).lease) := by simpa using hlease
    omega

/-- What a request that has passed dispatch has: its session, but for the kinds that need none, and its arguments. -/
structure Passed (s : State) (p : PortId) (f : RxFrame) : Prop where
  session : sessionless (bodyKind f.body) = false → (portOf s p).session = .session
  args    : checkArgs f = none

theorem passed_of_dispatch {s : State} {p : PortId} {id : Nat} {f : RxFrame} (h : dispatchCheck s p id f = none) :
    Passed s p f := by
  obtain ⟨-, hsession, -, -, hargs⟩ := dispatchCheck_none h
  refine ⟨fun hk => hsession.resolve_right (by simp [hk]), hargs⟩

/-! ### The law -/

section
variable {s t : State}

/-- The tables as they were, or with entries gone, and no session lost that one left needs. -/
theorem SessionsBacked.shrink (h : SessionsBacked s) (hc : List.Sublist t.claims s.claims)
    (hw : List.Sublist t.watches s.watches)
    (hclaims : ∀ c ∈ t.claims, (portOf s c.2.holder).session = .session → (portOf t c.2.holder).session = .session)
    (hwatches : ∀ w ∈ t.watches, (portOf s w.port).session = .session → (portOf t w.port).session = .session) :
    SessionsBacked t where
  claimBound := Nat.le_trans hc.length_le h.claimBound
  claimApart := h.claimApart.sublist hc
  claims c hm := by
    obtain ⟨hr, hlow, hhigh, hs⟩ := h.claims c (hc.subset hm)
    exact ⟨hr, hlow, hhigh, hclaims c hm hs⟩
  watchBound := Nat.le_trans hw.length_le h.watchBound
  watchApart := h.watchApart.sublist hw
  watches w hm := by
    obtain ⟨hr, hs⟩ := h.watches w (hw.subset hm)
    exact ⟨hr, hwatches w hm hs⟩

/-- The tables as they were, and no session lost. -/
theorem SessionsBacked.keep (h : SessionsBacked s) (hc : t.claims = s.claims) (hw : t.watches = s.watches)
    (hs : ∀ p, (portOf s p).session = .session → (portOf t p).session = .session) : SessionsBacked t :=
  h.shrink (hc ▸ .refl _) (hw ▸ .refl _) (fun _ _ => hs _) (fun _ _ => hs _)

theorem SessionsBacked.traffic (h : SessionsBacked s) (ht : Traffic s t) (hstanding : t.standing = s.standing) :
    SessionsBacked t :=
  h.keep (claims_of_standing hstanding) (watches_of_standing hstanding)
    (fun p hp => by rw [(ht.ports p).session, hp])

/-- A teardown ends what the session held (R123). -/
theorem SessionsBacked.teardown (h : SessionsBacked s) (p : PortId) (keep : Option Nat) :
    SessionsBacked (teardown p keep s) := by
  refine h.shrink List.filter_sublist List.filter_sublist (fun c _ hc => ?_) (fun w _ hw => ?_)
  · by_cases hp : c.2.holder = p
    · rw [hp, portOf_teardown_same, ← hp]; exact hc
    · rwa [teardown_portOf_other p keep s hp]
  · by_cases hp : w.port = p
    · rw [hp, portOf_teardown_same, ← hp]; exact hw
    · rwa [teardown_portOf_other p keep s hp]

/-- A session ends where its port has nothing left in the tables. -/
theorem SessionsBacked.end_session (h : SessionsBacked s) {p : PortId} (hother : ∀ q, q ≠ p → portOf t q = portOf s q)
    (hc : t.claims = s.claims) (hw : t.watches = s.watches) (hnone : ∀ c ∈ s.claims, c.2.holder ≠ p)
    (hnone' : ∀ w ∈ s.watches, w.port ≠ p) : SessionsBacked t := by
  refine h.shrink (hc ▸ .refl _) (hw ▸ .refl _) (fun c hm hs => ?_) (fun w hm hs => ?_)
  · rwa [hother _ (hnone c (hc ▸ hm))]
  · rwa [hother _ (hnone' w (hw ▸ hm))]

theorem teardown_claims_none (p : PortId) (keep : Option Nat) (s : State) :
    ∀ c ∈ (teardown p keep s).claims, c.2.holder ≠ p := fun c hc => by
  have h := (List.mem_filter.1 (show c ∈ s.claims.filter (fun c => c.2.holder != p) from hc)).2
  simpa using h

theorem teardown_watches_none (p : PortId) (keep : Option Nat) (s : State) :
    ∀ w ∈ (teardown p keep s).watches, w.port ≠ p := fun w hw => by
  have h := (List.mem_filter.1 (show w ∈ s.watches.filter (fun w => w.port != p) from hw)).2
  simpa using h

theorem SessionsBacked.answer (h : SessionsBacked s) (id : Nat) (a : Answer) : SessionsBacked (answer id a s) :=
  h.traffic (answer_traffic id a s) (standing_of_lessTraffic (answer_frame _ _ _))

/-- A grant, of a new claim or in renewal (R95). -/
theorem SessionsBacked.claim (h : SessionsBacked s) {r : Nat} {c : Claim} (hgood : ClaimGood s (r, c))
    (hroom : (∃ d, claimOf s r = some d) ∨ s.claims.length < Config.claimSlots) :
    SessionsBacked { s with claims := keyedInsert r c s.claims } where
  claimBound := by
    have hbound := h.claimBound
    rw [length_keyedInsert r c h.claimApart]
    obtain ⟨d, hd⟩ | hroom := hroom
    · rw [claimOf] at hd
      rw [hd]
      exact hbound
    · split <;> omega
  claimApart := keysRise_keyedInsert _ _ _ h.claimApart
  claims x hx := by
    obtain rfl | hx := mem_keyedInsert hx
    · exact hgood
    · exact h.claims x hx
  watchBound := h.watchBound
  watchApart := h.watchApart
  watches := h.watches

/-- A new watch (R106). -/
theorem SessionsBacked.watch (h : SessionsBacked s) {w : Watch} (hgood : WatchGood s w) (hnew : w ∉ s.watches)
    (hroom : s.watches.length < Config.watchSlots) : SessionsBacked { s with watches := s.watches ++ [w] } where
  claimBound := h.claimBound
  claimApart := h.claimApart
  claims := h.claims
  watchBound := by
    rw [List.length_append, List.length_singleton]
    exact hroom
  watchApart := List.nodup_append.2 ⟨h.watchApart, by simp, fun a ha b hb hab =>
    hnew (by rw [← List.mem_singleton.1 hb, ← hab]; exact ha)⟩
  watches x hx := by
    obtain hx | hx := List.mem_append.1 hx
    · exact h.watches x hx
    · rw [List.mem_singleton.1 hx]; exact hgood

theorem Handled.backed {p : PortId} {id : Nat} {f : RxFrame} (h : Handled (newEntry id p f) s t) (hs : SessionsBacked s)
    (hp : Passed s p f) : SessionsBacked t := by
  have hkind : (newEntry id p f).kind = bodyKind f.body := rfl
  have hsession : ∀ kind, (newEntry id p f).kind = kind → sessionless kind = false → (portOf s p).session = .session :=
    fun kind hk hless => hp.session (by rw [← hkind, hk]; exact hless)
  cases h with
  | answered a => exact hs.answer id a
  | readWaits => exact hs.traffic (joinFetch_traffic _ s) rfl
  | changeWaits => exact hs.traffic (joinWaiters_traffic _ s) rfl
  | changed _ _ b _ => exact hs.traffic (acceptChange_traffic _ b s) (standing_of_lessQueueing (acceptChange_frame _ b s))
  | flushOpens => exact hs.traffic (openFlush_traffic _ s) rfl
  | claimed hk hrun hroom =>
    have hlease := checkArgs_lease hp.args (hkind.symm.trans hk)
    exact (hs.claim ⟨checkArgs_record hp.args, hlease.1, hlease.2, hsession _ hk (by decide)⟩ hroom).answer id _
  | released hk =>
    refine SessionsBacked.answer ?_ id _
    exact hs.shrink List.filter_sublist (.refl _) (fun _ _ h => h) (fun _ _ h => h)
  | watched hk hnew hroom =>
    have hno : (⟨(argsOf f).record, p⟩ : Watch) ∉ s.watches := fun hm => by
      rw [← isWatching_iff] at hm
      exact absurd hm (by rw [show isWatching s (argsOf f).record p = false from hnew]; decide)
    exact (hs.watch ⟨checkArgs_record hp.args, hsession _ hk (by decide)⟩ hno hroom).answer id _
  | unwatched hk =>
    refine SessionsBacked.answer ?_ id _
    exact hs.shrink (.refl _) List.filter_sublist (fun _ _ h => h) (fun _ _ h => h)
  | opened hk =>
    have hfrom : SessionsBacked (openedFrom (newEntry id p f) s) := by
      unfold openedFrom
      split
      · exact hs.teardown _ _
      · exact hs.keep rfl rfl (fun _ h => h)
    rw [handleOpen_eq]
    refine SessionsBacked.answer ?_ id _
    refine hfrom.keep rfl rfl (fun q hq => ?_)
    rw [portOf_updPort]
    split
    · rfl
    · exact hq
  | closed hk =>
    exact ((hs.answer id _).teardown p none).end_session (fun q hq => portOf_updPort_other _ _ _ _ hq) rfl rfl
      (teardown_claims_none p none _) (teardown_watches_none p none _)
  | statusTold hk =>
    refine (hs.answer id (.statusInfo (statusInfoOf s p))).keep rfl rfl (fun q hq => ?_)
    unfold handleStatus
    rw [portOf_updPort]
    split
    next h =>
      obtain rfl : q = p := h
      exact hq
    next => exact hq

/-- A tick lowers the leases and takes away those at 1 (R93). -/
theorem SessionsBacked.tick (h : SessionsBacked s) : SessionsBacked (tick s) := by
  have hticked : SessionsBacked { s with claims := ticked s.claims } := by
    have hmem : ∀ c ∈ ticked s.claims, ∃ d ∈ s.claims, 2 ≤ d.2.lease ∧ c = (d.1, { d.2 with lease := d.2.lease - 1 }) := by
      intro c hc
      obtain ⟨d, hd, rfl⟩ := List.mem_map.1 hc
      obtain ⟨hd, hlease⟩ := List.mem_filter.1 hd
      refine ⟨d, hd, ?_, rfl⟩
      have : ¬d.2.lease ≤ 1 := by simpa using hlease
      omega
    refine ⟨?_, keysRise_ticked h.claimApart, fun c hc => ?_, h.watchBound, h.watchApart, h.watches⟩
    · have hle : (ticked s.claims).length ≤ s.claims.length := by
        rw [ticked, List.length_map]
        exact List.length_filter_le _ _
      exact Nat.le_trans hle h.claimBound
    · obtain ⟨d, hd, hlease, rfl⟩ := hmem c hc
      obtain ⟨hr, -, hhigh, hs⟩ := h.claims d hd
      exact ⟨hr, by show 1 ≤ d.2.lease - 1; omega, by show d.2.lease - 1 ≤ _; omega, hs⟩
  exact hticked.traffic (notifyExpired_traffic (expiring s.claims) _)
    (standing_of_lessPorts (notifyExpired_frame (expiring s.claims) _))

theorem SessionsBacked.attend (h : SessionsBacked s) (p : PortId) : SessionsBacked (attend p s) := by
  have hless := attend_lessTraffic p s
  have hended : SessionsBacked (sessionEnded p s) := by
    unfold sessionEnded
    split
    · exact h.teardown p none
    · exact h
  refine hended.end_session (p := p) (fun q hq => ?_) (claims_of_lessTraffic hless) (watches_of_lessTraffic hless) ?_ ?_
  · rw [attend_portOf_other p s hq, sessionEnded_portOf_other p s hq]
  · unfold sessionEnded
    split
    · exact teardown_claims_none p none s
    next hno => exact fun c hc hp => hno (hp ▸ (h.claims c hc).2.2.2)
  · unfold sessionEnded
    split
    · exact teardown_watches_none p none s
    next hno => exact fun w hw hp => hno (hp ▸ (h.watches w hw).2)

/-- A move of a link leaves every session as it is. -/
theorem LinkMoves.session {p : PortId} {fails : Bool} (h : LinkMoves p fails s t) (q : PortId) :
    (portOf t q).session = (portOf s q).session := by
  refine h.keeps (P := fun u => (portOf u q).session = (portOf s q).session) (fun u v hu hm => hu ▸ ?_) rfl
  by_cases hq : q = p
  · subst hq
    cases hm with
    | frameSent f rest htx => rw [frameLeaves_port (by rw [htx]; simp)]
    | boundary => rw [portOf_updPort_same, presentNext_session]
    | _ => simp [failFrame, setFrameErr, admitFrame]
  · rw [(hm.moves.only).other q hq]

theorem SessionsBacked.changePort (h : SessionsBacked s) {p : PortId} {f : Port → Port}
    (hf : ∀ x, x.session = .session → (f x).session = .session) : SessionsBacked (updPort p f s) := by
  refine h.keep rfl rfl (fun q hq => ?_)
  rw [portOf_updPort]
  split
  next hp => exact hf _ (hp ▸ hq)
  next => exact hq

theorem Does.backed {c : Instr} (h : Does s c t) (hs : SessionsBacked s) : SessionsBacked t := by
  have htaken : ∀ {p last id f rest}, SessionsBacked (taken p id f rest last s) := fun {p last id f rest} => by
    refine hs.keep rfl rfl (fun q hq => ?_)
    by_cases hp : q = p
    · rw [hp, taken_portOf_same, ← hp]; exact hq
    · rwa [taken_portOf_other _ _ _ _ _ _ hp]
  have hsettle : ∀ {u}, SessionsBacked u → SessionsBacked (settle u) := fun hu => hu.traffic (settle_traffic _) (standing_settle _)
  have hlink : ∀ {p fails u}, LinkMoves p fails s u → SessionsBacked u := fun hm =>
    hs.keep (claims_of_lessTraffic hm.frame) (watches_of_lessTraffic hm.frame) (fun q hq => by rw [hm.session q, hq])
  cases h with
  | nothing => exact hs
  | async _ _ _ h => exact hlink h
  | clocked _ _ _ h => exact (hlink h).changePort (fun x hx => by rw [presentNext_session, hx])
  | selected p => exact hs.changePort (fun x hx => by rw [select, presentNext_session]; exact hx)
  | deselected p => exact hs.changePort (fun x hx => by rw [deselect_eq]; exact hx)
  | calibrated p low _ hdown =>
    refine hs.keep rfl rfl (fun q hq => ?_)
    have hne : q ≠ p := fun hp => by rw [hp, hdown] at hq; cases hq
    rw [placeLinkup, portOf_updPort_other _ _ _ _ hne, portOf_updPort_other _ _ _ _ hne, hq]
  | attended p => exact hs.attend p
  | chosen => exact hsettle hs
  | refused => exact hsettle (htaken.answer _ _)
  | handled _ _ hpass hu => exact hsettle (hu.backed htaken (passed_of_dispatch hpass))
  | fetched => exact hsettle (hs.traffic (fetchDone_traffic _ _ s) (by simp))
  | programmed => exact hsettle (hs.traffic (programDone_traffic _ _ _ s) (by simp))
  | fetchLost => exact hsettle (hs.keep rfl rfl (fun _ h => h))
  | programLost => exact hsettle (hs.keep rfl rfl (fun _ h => h))
  | marked => exact hsettle (hs.traffic ((markerDone_traffic _ _).after rfl rfl) ((standing_markerDone _ _).trans rfl))
  | scanned => exact hsettle (hs.traffic (scanFetchDone_traffic _ _ _ s) (by simp))
  | ticked => exact hs.tick
  | asserted => exact hsettle (hs.traffic (assertPfw_traffic s) (by simp))
  | deasserted => exact hsettle (hs.traffic (deassertPfw_traffic s) (by simp))

theorem SessionsBacked.of_empty (hc : s.claims = []) (hw : s.watches = []) : SessionsBacked s := by
  refine ⟨?_, ?_, ?_, ?_, ?_, ?_⟩ <;> simp [hc, hw]

end

/-- Settles O55. -/
theorem claimsAndWatchesStayBacked : Obligations.ClaimsAndWatchesStayBacked := by
  intro s t hs h
  refine step_keeps (P := SessionsBacked) (fun s l hs => hs.keep rfl rfl (fun _ h => h)) (fun c s t hs _ hd => hd.backed hs)
    (fun cause torn s hs => ?_) (fun straps pfw r s _ _ => ?_) hs h
  · cases h : s.resetHold with
    | none => exact .of_empty (by rw [beginReset_out h]; rfl) (by rw [beginReset_out h]; rfl)
    | some r => rw [beginReset_held h]; exact hs.keep rfl rfl (fun _ h => h)
  · have hstanding : (endReset straps pfw r s).standing = (awakened straps pfw r s).standing := by
      rw [endReset_eq]
      exact standing_settle _
    obtain ⟨-, -, -, -, -, -, -, -, -, hclaims, hwatches⟩ := awakened_fields straps pfw r s
    exact .of_empty ((claims_of_standing hstanding).trans hclaims) ((watches_of_standing hstanding).trans hwatches)

end Sys2Proof.Machine

/-! SUPPORT. The request table in agreement with the lists that name its entries (R72 to R74, R87), entry by entry, and
the one lemma by which a step that touches one entry keeps it. -/

namespace Sys2Proof.Machine

/-! ### Agreement -/

/-- An entry is as its state has it, and named where its state says. -/
def Fits (s : State) (e : Entry) : Prop :=
  match e.state with
  | .dispatched => e.response.isSome ∧ e.id ∈ (portOf s e.port).held
  | .waitSpace => Unanswered s e ∧ e.args.record < Config.records ∧ changeGood (changeOf e) = true ∧ e.id ∈ s.spaceWait
  | .waitFetch => Unanswered s e ∧ e.args.record < Config.records ∧ e.id ∈ s.fetchWait
  | .fetching => Unanswered s e ∧ e.args.record < Config.records ∧ servedEntry s = some e.id
  | .orphan => e.response = none ∧ e.current = false ∧ e.args.record < Config.records ∧ servedEntry s = some e.id
  | .waitFlush => Unanswered s e ∧ ∃ f, (portOf s e.port).flush = some f ∧ e.tag = f.tag

/-- An entry numbered `id`, not one of those in X, that is so. -/
def Named (X : List Nat) (s : State) (id : Nat) (so : Entry → Prop) : Prop :=
  id ∉ X ∧ ∃ e ∈ s.table, e.id = id ∧ so e

/-- No two entries of a port wait for its FLUSH (R37). -/
abbrev FlushOnce (s : State) : Prop :=
  s.table.Pairwise (fun a b => ¬(a.port = b.port ∧ a.state = .waitFlush ∧ b.state = .waitFlush))

/-- Table and lists agree, but for the unanswered entries numbered in X, which no list names: what a command makes good
before it ends. The ports in F are as in s₀, have no session and have no such entry. -/
structure Agrees (F : PortId → Prop) (s₀ : State) (X : List Nat) (s : State) : Prop where
  table     : TableGood s
  once      : X.Nodup
  spaceOnce : s.spaceWait.Nodup
  fetchOnce : s.fetchWait.Nodup
  heldOnce  : ∀ p, (portOf s p).held.Nodup
  flushOnce : FlushOnce s
  fits      : ∀ e ∈ s.table, e.id ∉ X → Fits s e
  space     : ∀ id ∈ s.spaceWait, Named X s id (fun e => e.state = .waitSpace)
  fetch     : ∀ id ∈ s.fetchWait, Named X s id (fun e => e.state = .waitFetch)
  flight    : ∀ id, servedEntry s = some id → Named X s id (fun e => e.state = .fetching ∨ e.state = .orphan)
  held      : ∀ p, ∀ id ∈ (portOf s p).held, Named X s id (fun e => e.port = p ∧ e.state = .dispatched)
  flush     : ∀ p f, (portOf s p).flush = some f → ∃ e ∈ s.table, e.id ∉ X ∧ e.port = p ∧ e.state = .waitFlush
  exempt    : ∀ id ∈ X, ∃ e ∈ s.table, e.id = id ∧ e.response = none ∧ ¬F e.port
  frozen    : ∀ p, F p → portOf s p = portOf s₀ p ∧ (portOf s p).session ≠ .session

theorem FlushOnce.eq {s : State} (h : FlushOnce s) {d e : Entry} (hd : d ∈ s.table) (he : e ∈ s.table) (hp : d.port = e.port)
    (hds : d.state = .waitFlush) (hes : e.state = .waitFlush) : d = e := by
  by_contra hne
  have : Std.Symm (fun a b : Entry => ¬(a.port = b.port ∧ a.state = .waitFlush ∧ b.state = .waitFlush)) :=
    ⟨fun a b hab ⟨hp, hb, ha⟩ => hab ⟨hp.symm, ha, hb⟩⟩
  exact h.forall hd he hne ⟨hp, hds, hes⟩

section
variable {s t : State} {e : Entry}

theorem fits_dispatched (h : e.state = .dispatched) :
    Fits s e ↔ e.response.isSome ∧ e.id ∈ (portOf s e.port).held := by rw [Fits, h]

theorem fits_waitSpace (h : e.state = .waitSpace) : Fits s e ↔ Unanswered s e ∧ e.args.record < Config.records ∧
    changeGood (changeOf e) = true ∧ e.id ∈ s.spaceWait := by rw [Fits, h]

theorem fits_waitFetch (h : e.state = .waitFetch) :
    Fits s e ↔ Unanswered s e ∧ e.args.record < Config.records ∧ e.id ∈ s.fetchWait := by rw [Fits, h]

theorem fits_fetching (h : e.state = .fetching) :
    Fits s e ↔ Unanswered s e ∧ e.args.record < Config.records ∧ servedEntry s = some e.id := by rw [Fits, h]

theorem fits_orphan (h : e.state = .orphan) : Fits s e ↔ e.response = none ∧ e.current = false ∧
    e.args.record < Config.records ∧ servedEntry s = some e.id := by rw [Fits, h]

theorem fits_waitFlush (h : e.state = .waitFlush) :
    Fits s e ↔ Unanswered s e ∧ ∃ f, (portOf s e.port).flush = some f ∧ e.tag = f.tag := by rw [Fits, h]

/-- An entry that fits fits where its session and its names are kept. -/
theorem Fits.keep (h : Fits s e)
    (hsession : (portOf s e.port).session = .session → (portOf t e.port).session = .session)
    (hheld : e.id ∈ (portOf s e.port).held → e.id ∈ (portOf t e.port).held)
    (hspace : e.id ∈ s.spaceWait → e.id ∈ t.spaceWait) (hfetch : e.id ∈ s.fetchWait → e.id ∈ t.fetchWait)
    (hserved : servedEntry s = some e.id → servedEntry t = some e.id)
    (hflush : e.state = .waitFlush → (portOf t e.port).flush = (portOf s e.port).flush) : Fits t e := by
  have hun : Unanswered s e → Unanswered t e := fun hu => ⟨hu.1, hu.2.1, hsession hu.2.2⟩
  cases hst : e.state with
  | dispatched => rw [fits_dispatched hst] at h ⊢; exact ⟨h.1, hheld h.2⟩
  | waitSpace => rw [fits_waitSpace hst] at h ⊢; exact ⟨hun h.1, h.2.1, h.2.2.1, hspace h.2.2.2⟩
  | waitFetch => rw [fits_waitFetch hst] at h ⊢; exact ⟨hun h.1, h.2.1, hfetch h.2.2⟩
  | fetching => rw [fits_fetching hst] at h ⊢; exact ⟨hun h.1, h.2.1, hserved h.2.2⟩
  | orphan => rw [fits_orphan hst] at h ⊢; exact ⟨h.1, h.2.1, h.2.2.1, hserved h.2.2.2⟩
  | waitFlush => rw [fits_waitFlush hst] at h ⊢; rw [hflush hst]; exact ⟨hun h.1, h.2⟩

/-- An entry that is not answered in a session has no response, and answers in its session. -/
theorem Fits.unanswered (h : Fits s e) (hst : e.state ≠ .dispatched) : e.response = none := by
  cases hs : e.state with
  | dispatched => exact absurd hs hst
  | waitSpace => exact ((fits_waitSpace hs).1 h).1.1
  | waitFetch => exact ((fits_waitFetch hs).1 h).1.1
  | fetching => exact ((fits_fetching hs).1 h).1.1
  | orphan => exact ((fits_orphan hs).1 h).1
  | waitFlush => exact ((fits_waitFlush hs).1 h).1.1

theorem Fits.session (h : Fits s e) (hst : e.state ≠ .dispatched) (ho : e.state ≠ .orphan) :
    (portOf s e.port).session = .session := by
  cases hs : e.state with
  | dispatched => exact absurd hs hst
  | waitSpace => exact ((fits_waitSpace hs).1 h).1.2.2
  | waitFetch => exact ((fits_waitFetch hs).1 h).1.2.2
  | fetching => exact ((fits_fetching hs).1 h).1.2.2
  | orphan => exact absurd hs ho
  | waitFlush => exact ((fits_waitFlush hs).1 h).1.2.2

end

/-! ### Agreement is the law of the statement -/

theorem Agrees.good {F : PortId → Prop} {s₀ s : State} (h : Agrees F s₀ [] s) : ListsGood s := by
  have hfits : ∀ e ∈ s.table, Fits s e := fun e he => h.fits e he List.not_mem_nil
  have hheld : ∀ e ∈ s.table, e.response.isSome → e.state = .dispatched := fun e he hr => by
    by_contra hst
    rw [(hfits e he).unanswered hst] at hr
    cases hr
  refine ⟨h.table, h.spaceOnce, fun id hid => ?_, h.fetchOnce, fun id hid => ?_, fun id slot hop => ?_, fun p _ f hf => ?_,
    fun e he hst => ?_, h.flushOnce, fun p _ => h.heldOnce p, fun p _ id hid => ?_, fun e he hr => ?_, fun e he hst => ?_,
    fun e he hst => ?_, fun e he hst => ?_, fun e he hst => ?_⟩
  · obtain ⟨-, e, he, heid, hst⟩ := h.space id hid
    obtain ⟨hun, hr, hg, -⟩ := (fits_waitSpace hst).1 (hfits e he)
    exact ⟨e, he, heid, hst, hun, hr, hg⟩
  · obtain ⟨-, e, he, heid, hst⟩ := h.fetch id hid
    obtain ⟨hun, hr, -⟩ := (fits_waitFetch hst).1 (hfits e he)
    exact ⟨e, he, heid, hst, hun, hr⟩
  · obtain ⟨-, e, he, heid, hst⟩ := h.flight id (by rw [servedEntry, hop])
    refine ⟨e, he, heid, ?_⟩
    obtain hst | hst := hst
    · obtain ⟨hun, hr, -⟩ := (fits_fetching hst).1 (hfits e he)
      exact ⟨hr, .inl ⟨hst, hun⟩⟩
    · obtain ⟨hnone, hcur, hr, -⟩ := (fits_orphan hst).1 (hfits e he)
      exact ⟨hr, .inr ⟨hst, hnone, hcur⟩⟩
  · obtain ⟨e, he, -, hp, hst⟩ := h.flush p f hf
    obtain ⟨hun, g, hg, htag⟩ := (fits_waitFlush hst).1 (hfits e he)
    rw [hp, hf] at hg
    cases hg
    exact ⟨e, he, hp, htag, hst, hun⟩
  · obtain ⟨hun, g, hg, -⟩ := (fits_waitFlush hst).1 (hfits e he)
    exact ⟨by rw [hg]; rfl, hst, hun⟩
  · obtain ⟨-, e, he, heid, hp, hst⟩ := h.held p id hid
    exact ⟨e, he, heid, hp, ((fits_dispatched hst).1 (hfits e he)).1, hst⟩
  · exact ((fits_dispatched (hheld e he hr)).1 (hfits e he)).2
  · exact ((fits_waitSpace hst).1 (hfits e he)).2.2.2
  · exact ((fits_waitFetch hst).1 (hfits e he)).2.2
  · obtain hst | hst := hst
    · exact ((fits_fetching hst).1 (hfits e he)).2.2
    · exact ((fits_orphan hst).1 (hfits e he)).2.2.2
  · exact ((fits_dispatched hst).1 (hfits e he)).1

theorem mem_allPorts (p : PortId) : p ∈ allPorts := by cases p <;> decide

theorem servedEntry_iff {s : State} {id : Nat} : servedEntry s = some id ↔ ∃ slot, s.op = some (.fetch id slot) := by
  unfold servedEntry
  constructor
  · intro h
    split at h
    next id' slot hop => cases h; exact ⟨slot, hop⟩
    next => cases h
  · rintro ⟨slot, hop⟩
    rw [hop]

theorem ListsGood.agrees {F : PortId → Prop} {s : State} (h : ListsGood s) (hF : ∀ p, F p → (portOf s p).session ≠ .session) :
    Agrees F s [] s where
  table := h.table
  once := List.nodup_nil
  spaceOnce := h.spaceOnce
  fetchOnce := h.fetchOnce
  heldOnce p := h.heldOnce p (mem_allPorts p)
  flushOnce := h.flushOnce
  fits e he _ := by
    have hfound : ∀ {id d}, d ∈ s.table → d.id = id → e.id = id → d = e := fun hd hdid heid =>
      h.table.eq_of_id hd he (hdid.trans heid.symm)
    cases hst : e.state with
    | dispatched =>
      have hr := h.dispatched e he hst
      exact (fits_dispatched hst).2 ⟨hr, h.heldOnly e he hr⟩
    | waitSpace =>
      have hmem := h.spaceOnly e he hst
      obtain ⟨d, hd, hdid, -, hun, hr, hg⟩ := h.space e.id hmem
      obtain rfl := hfound hd hdid rfl
      exact (fits_waitSpace hst).2 ⟨hun, hr, hg, hmem⟩
    | waitFetch =>
      have hmem := h.fetchOnly e he hst
      obtain ⟨d, hd, hdid, -, hun, hr⟩ := h.fetch e.id hmem
      obtain rfl := hfound hd hdid rfl
      exact (fits_waitFetch hst).2 ⟨hun, hr, hmem⟩
    | fetching =>
      have hserved := h.flightOnly e he (.inl hst)
      obtain ⟨slot, hop⟩ := servedEntry_iff.1 hserved
      obtain ⟨d, hd, hdid, hr, hgood⟩ := h.inFlight e.id slot hop
      obtain rfl := hfound hd hdid rfl
      obtain ⟨-, hun⟩ | ⟨ho, -⟩ := hgood
      · exact (fits_fetching hst).2 ⟨hun, hr, hserved⟩
      · rw [hst] at ho; cases ho
    | orphan =>
      have hserved := h.flightOnly e he (.inr hst)
      obtain ⟨slot, hop⟩ := servedEntry_iff.1 hserved
      obtain ⟨d, hd, hdid, hr, hgood⟩ := h.inFlight e.id slot hop
      obtain rfl := hfound hd hdid rfl
      obtain ⟨hf, -⟩ | ⟨-, hnone, hcur⟩ := hgood
      · rw [hst] at hf; cases hf
      · exact (fits_orphan hst).2 ⟨hnone, hcur, hr, hserved⟩
    | waitFlush =>
      obtain ⟨hsome, -, hun⟩ := h.flushOnly e he hst
      obtain ⟨f, hf⟩ := Option.isSome_iff_exists.1 hsome
      obtain ⟨d, hd, hdp, htag, hdst, -⟩ := h.flushOpen e.port (mem_allPorts _) f hf
      obtain rfl := FlushOnce.eq h.flushOnce hd he hdp hdst hst
      exact (fits_waitFlush hst).2 ⟨hun, f, hf, htag⟩
  space id hid := by
    obtain ⟨e, he, heid, hst, -⟩ := h.space id hid
    exact ⟨List.not_mem_nil, e, he, heid, hst⟩
  fetch id hid := by
    obtain ⟨e, he, heid, hst, -⟩ := h.fetch id hid
    exact ⟨List.not_mem_nil, e, he, heid, hst⟩
  flight id hid := by
    obtain ⟨slot, hop⟩ := servedEntry_iff.1 hid
    obtain ⟨e, he, heid, -, hgood⟩ := h.inFlight id slot hop
    exact ⟨List.not_mem_nil, e, he, heid, hgood.imp And.left And.left⟩
  held p id hid := by
    obtain ⟨e, he, heid, hp, -, hst⟩ := h.held p (mem_allPorts p) id hid
    exact ⟨List.not_mem_nil, e, he, heid, hp, hst⟩
  flush p f hf := by
    obtain ⟨e, he, hp, -, hst, -⟩ := h.flushOpen p (mem_allPorts p) f hf
    exact ⟨e, he, List.not_mem_nil, hp, hst⟩
  exempt id hid := absurd hid List.not_mem_nil
  frozen p hp := ⟨rfl, hF p hp⟩

/-! ### A step at one entry -/

/-- The two states agree on every entry but that numbered `id`, and on what names them. -/
structure AgreeOff (id : Nat) (s t : State) : Prop where
  entries : ∀ e, e.id ≠ id → (e ∈ t.table ↔ e ∈ s.table)
  space   : ∀ j, j ≠ id → (j ∈ t.spaceWait ↔ j ∈ s.spaceWait)
  fetch   : ∀ j, j ≠ id → (j ∈ t.fetchWait ↔ j ∈ s.fetchWait)
  served  : ∀ j, j ≠ id → (servedEntry t = some j ↔ servedEntry s = some j)
  held    : ∀ p j, j ≠ id → (j ∈ (portOf t p).held ↔ j ∈ (portOf s p).held)
  session : ∀ p, (portOf s p).session = .session → (portOf t p).session = .session
  flush   : ∀ e ∈ s.table, e.id ≠ id → e.state = .waitFlush → (portOf t e.port).flush = (portOf s e.port).flush

section
variable {F : PortId → Prop} {s₀ s t : State} {X Y : List Nat} {id : Nat}

theorem Named.keep {so : Entry → Prop} {j : Nat} (h : Named X s j so) (hj : j ≠ id) (hX : ∀ k, k ≠ id → (k ∈ Y ↔ k ∈ X))
    (hentries : ∀ e, e.id ≠ id → (e ∈ t.table ↔ e ∈ s.table)) : Named Y t j so := by
  obtain ⟨hjX, e, he, rfl, hso⟩ := h
  exact ⟨fun hY => hjX ((hX _ hj).1 hY), e, (hentries e hj).2 he, rfl, hso⟩

/-- Agreement after a step that touches the entry numbered `id` alone, and what must hold there (the last six). -/
theorem Agrees.at (h : Agrees F s₀ X s) (hoff : AgreeOff id s t) (hX : ∀ j, j ≠ id → (j ∈ Y ↔ j ∈ X)) (hY : Y.Nodup)
    (htable : TableGood t) (hspace : t.spaceWait.Nodup) (hfetch : t.fetchWait.Nodup) (hheld : ∀ p, (portOf t p).held.Nodup)
    (honce : FlushOnce t) (hfrozen : ∀ p, F p → portOf t p = portOf s p)
    (fits : ∀ e ∈ t.table, e.id = id → id ∉ Y → Fits t e)
    (exempt : id ∈ Y → ∃ e ∈ t.table, e.id = id ∧ e.response = none ∧ ¬F e.port)
    (space : id ∈ t.spaceWait → Named Y t id (fun e => e.state = .waitSpace))
    (fetch : id ∈ t.fetchWait → Named Y t id (fun e => e.state = .waitFetch))
    (flight : servedEntry t = some id → Named Y t id (fun e => e.state = .fetching ∨ e.state = .orphan))
    (held : ∀ p, id ∈ (portOf t p).held → Named Y t id (fun e => e.port = p ∧ e.state = .dispatched))
    (flush : ∀ p f, (portOf t p).flush = some f → ∃ e ∈ t.table, e.id ∉ Y ∧ e.port = p ∧ e.state = .waitFlush) :
    Agrees F s₀ Y t where
  table := htable
  once := hY
  spaceOnce := hspace
  fetchOnce := hfetch
  heldOnce := hheld
  flushOnce := honce
  fits e he hno := by
    by_cases hid : e.id = id
    · exact fits e he hid (hid ▸ hno)
    · have hes := (hoff.entries e hid).1 he
      exact (h.fits e hes (fun hx => hno ((hX _ hid).2 hx))).keep (hoff.session _) (hoff.held _ _ hid).2 (hoff.space _ hid).2
        (hoff.fetch _ hid).2 (hoff.served _ hid).2 (hoff.flush e hes hid)
  space j hj := by
    by_cases hid : j = id
    · exact hid ▸ space (hid ▸ hj)
    · exact (h.space j ((hoff.space j hid).1 hj)).keep hid hX hoff.entries
  fetch j hj := by
    by_cases hid : j = id
    · exact hid ▸ fetch (hid ▸ hj)
    · exact (h.fetch j ((hoff.fetch j hid).1 hj)).keep hid hX hoff.entries
  flight j hj := by
    by_cases hid : j = id
    · exact hid ▸ flight (hid ▸ hj)
    · exact (h.flight j ((hoff.served j hid).1 hj)).keep hid hX hoff.entries
  held p j hj := by
    by_cases hid : j = id
    · exact hid ▸ held p (hid ▸ hj)
    · exact (h.held p j ((hoff.held p j hid).1 hj)).keep hid hX hoff.entries
  flush := flush
  exempt j hj := by
    by_cases hid : j = id
    · exact hid ▸ exempt (hid ▸ hj)
    · obtain ⟨e, he, rfl, hnone, hF⟩ := h.exempt j ((hX j hid).1 hj)
      exact ⟨e, (hoff.entries e hid).2 he, rfl, hnone, hF⟩
  frozen p hp := by rw [hfrozen p hp]; exact h.frozen p hp

/-- A step that leaves the table, the lists and what the ports have of both. -/
theorem Agrees.congr (h : Agrees F s₀ X s) (htable : t.table = s.table) (hspace : t.spaceWait = s.spaceWait)
    (hfetch : t.fetchWait = s.fetchWait) (hserved : servedEntry t = servedEntry s)
    (hports : ∀ p, (portOf t p).held = (portOf s p).held ∧ (portOf t p).flush = (portOf s p).flush ∧
      ((portOf s p).session = .session → (portOf t p).session = .session))
    (hfrozen : ∀ p, F p → portOf t p = portOf s p) : Agrees F s₀ X t := by
  have hnamed : ∀ {j so}, Named X s j so → Named X t j so := fun ⟨hj, e, he, hid, hso⟩ => ⟨hj, e, by rwa [htable], hid, hso⟩
  refine ⟨?_, h.once, by rw [hspace]; exact h.spaceOnce, by rw [hfetch]; exact h.fetchOnce,
    fun p => by rw [(hports p).1]; exact h.heldOnce p, by rw [FlushOnce, htable]; exact h.flushOnce, fun e he hno => ?_,
    fun j hj => hnamed (h.space j (hspace ▸ hj)), fun j hj => hnamed (h.fetch j (hfetch ▸ hj)),
    fun j hj => hnamed (h.flight j (hserved ▸ hj)), fun p j hj => hnamed (h.held p j ((hports p).1 ▸ hj)),
    fun p f hf => ?_, fun j hj => ?_, fun p hp => by rw [hfrozen p hp]; exact h.frozen p hp⟩
  · exact h.table.shrinks (by rw [htable]; exact .refl _)
  · refine (h.fits e (htable ▸ he) hno).keep (hports _).2.2 (fun hm => ?_) (fun hm => ?_) (fun hm => ?_) (fun hm => ?_)
      (fun _ => (hports _).2.1)
    · rwa [(hports _).1]
    · rwa [hspace]
    · rwa [hfetch]
    · rwa [hserved]
  · rw [(hports p).2.1] at hf
    rw [htable]
    exact h.flush p f hf
  · rw [htable]
    exact h.exempt j hj

/-- The order of the unanswered entries does not matter. -/
theorem Agrees.perm (h : Agrees F s₀ X s) (hX : ∀ j, j ∈ Y ↔ j ∈ X) (hY : Y.Nodup) : Agrees F s₀ Y s := by
  have hnamed : ∀ {j so}, Named X s j so → Named Y s j so := fun ⟨hj, rest⟩ => ⟨fun hy => hj ((hX _).1 hy), rest⟩
  exact ⟨h.table, hY, h.spaceOnce, h.fetchOnce, h.heldOnce, h.flushOnce, fun e he hno => h.fits e he (fun hx => hno ((hX _).2 hx)),
    fun j hj => hnamed (h.space j hj), fun j hj => hnamed (h.fetch j hj), fun j hj => hnamed (h.flight j hj),
    fun p j hj => hnamed (h.held p j hj),
    fun p f hf => by
      obtain ⟨e, he, hno, hrest⟩ := h.flush p f hf
      exact ⟨e, he, fun hy => hno ((hX _).1 hy), hrest⟩,
    fun j hj => h.exempt j ((hX j).1 hj), h.frozen⟩

end

end Sys2Proof.Machine

/-! SUPPORT. The steps at one entry that keep table and lists in agreement: an entry leaves its list, is answered, joins a
list, is taken or freed. -/

namespace Sys2Proof.Machine

section
variable {F : PortId → Prop} {s₀ s t : State} {X : List Nat} {id : Nat}

/-! ### The table -/

theorem mem_freeEntry {e : Entry} : e ∈ (freeEntry id s).table ↔ e ∈ s.table ∧ e.id ≠ id := by
  rw [freeEntry, List.mem_filter, bne_iff_ne]

theorem mem_updEntry_other {f : Entry → Entry} (hf : ∀ e, (f e).id = e.id) {e : Entry} (h : e.id ≠ id) :
    e ∈ (updEntry id f s).table ↔ e ∈ s.table := by
  rw [updEntry, List.mem_map]
  constructor
  · rintro ⟨d, hd, rfl⟩
    by_cases hdid : d.id = id
    · rw [if_pos hdid, hf] at h
      exact absurd hdid h
    · rwa [if_neg hdid]
  · exact fun he => ⟨e, he, if_neg h⟩

theorem mem_updEntry_same {f : Entry → Entry} {e : Entry} (h : e.id = id) :
    e ∈ (updEntry id f s).table ↔ ∃ d ∈ s.table, d.id = id ∧ e = f d := by
  rw [updEntry, List.mem_map]
  constructor
  · rintro ⟨d, hd, rfl⟩
    by_cases hdid : d.id = id
    · exact ⟨d, hd, hdid, if_pos hdid⟩
    · rw [if_neg hdid] at h
      exact absurd h hdid
  · rintro ⟨d, hd, hdid, rfl⟩
    exact ⟨d, hd, if_pos hdid⟩

theorem FlushOnce.updEntry (h : FlushOnce s) {f : Entry → Entry}
    (hstate : ∀ e, (f e).state ≠ .waitFlush) : FlushOnce (updEntry id f s) := by
  refine List.pairwise_map.2 (h.imp (fun {a b} hab => ?_))
  split
  · exact fun ⟨_, ha, _⟩ => hstate a ha
  · split
    · exact fun ⟨_, _, hb⟩ => hstate b hb
    · exact hab

theorem entryOf_of_mem (h : TableGood s) {e : Entry} (he : e ∈ s.table) : entryOf s e.id = some e := by
  cases hf : entryOf s e.id with
  | none => exact absurd (List.find?_eq_none.1 hf e he) (by simp)
  | some d =>
    have hid : d.id = e.id := of_decide_eq_true (List.find?_some hf :)
    rw [h.eq_of_id (List.mem_of_find?_eq_some hf) he hid]

/-! ### Agreement off an entry -/

theorem AgreeOff.updEntry (h : AgreeOff id s t) {f : Entry → Entry} (hf : ∀ e, (f e).id = e.id) :
    AgreeOff id s (updEntry id f t) where
  entries e he := (mem_updEntry_other hf he).trans (h.entries e he)
  space := h.space
  fetch := h.fetch
  served := h.served
  held p j hj := by rw [updEntry_portOf]; exact h.held p j hj
  session p hp := by rw [updEntry_portOf]; exact h.session p hp
  flush e he hid hst := by rw [updEntry_portOf]; exact h.flush e he hid hst

theorem mem_cons_off (X : List Nat) {j : Nat} (h : j ≠ id) : j ∈ id :: X ↔ j ∈ X := by simp [h]

/-- An unanswered entry that no list names. -/
theorem Agrees.unnamed (h : Agrees F s₀ (id :: X) s) :
    id ∉ X ∧ id ∉ s.spaceWait ∧ id ∉ s.fetchWait ∧ servedEntry s ≠ some id ∧ ∀ p, id ∉ (portOf s p).held :=
  ⟨(List.nodup_cons.1 h.once).1, fun hm => (h.space id hm).1 List.mem_cons_self, fun hm => (h.fetch id hm).1 List.mem_cons_self,
    fun hm => (h.flight id hm).1 List.mem_cons_self, fun p hm => (h.held p id hm).1 List.mem_cons_self⟩

/-- The open FLUSH records, seen from a state that agrees off an entry. -/
theorem Agrees.flush_off (h : Agrees F s₀ (id :: X) s) (hoff : AgreeOff id s t)
    (hflush : ∀ p, (portOf t p).flush = (portOf s p).flush) (p : PortId) (f : FlushRecord) (hf : (portOf t p).flush = some f) :
    ∃ e ∈ t.table, e.id ∉ X ∧ e.port = p ∧ e.state = .waitFlush := by
  rw [hflush] at hf
  obtain ⟨e, he, hno, hp, hst⟩ := h.flush p f hf
  obtain ⟨hid, hX⟩ : e.id ≠ id ∧ e.id ∉ X := by simpa using hno
  exact ⟨e, (hoff.entries e hid).2 he, hX, hp, hst⟩

/-! ### An unanswered entry is freed or answered -/

theorem Agrees.free (h : Agrees F s₀ (id :: X) s) : Agrees F s₀ X (freeEntry id s) := by
  obtain ⟨hX, hspace, hfetch, hserved, hheld⟩ := h.unnamed
  have hoff : AgreeOff id s (freeEntry id s) :=
    ⟨fun e he => by rw [mem_freeEntry]; exact and_iff_left he, fun _ _ => .rfl, fun _ _ => .rfl, fun _ _ => .rfl,
      fun p _ _ => by rw [freeEntry_portOf], fun p hp => by rwa [freeEntry_portOf], fun _ _ _ _ => by rw [freeEntry_portOf]⟩
  refine h.at hoff (fun j hj => (mem_cons_off X hj).symm) (List.nodup_cons.1 h.once).2 (h.table.shrinks (.filter _ _))
    h.spaceOnce h.fetchOnce (fun p => by rw [freeEntry_portOf]; exact h.heldOnce p) (h.flushOnce.filter _)
    (fun p _ => freeEntry_portOf ..) (fun e he hid => absurd hid (mem_freeEntry.1 he).2) (fun hm => absurd hm hX)
    (fun hm => absurd hm hspace) (fun hm => absurd hm hfetch) (fun hm => absurd hm hserved) (fun p hm => ?_)
    (h.flush_off hoff (fun p => by rw [freeEntry_portOf]))
  rw [freeEntry_portOf] at hm
  exact absurd hm (hheld p)

/-- A port's transmit queue and flags may change as long as it is not frozen. -/
theorem Agrees.changePort (h : Agrees F s₀ X s) {p : PortId} {f : Port → Port} (hp : ¬F p) (hheld : ∀ x, (f x).held = x.held)
    (hflush : ∀ x, (f x).flush = x.flush) (hsession : ∀ x, x.session = .session → (f x).session = .session) :
    Agrees F s₀ X (updPort p f s) := by
  refine h.congr rfl rfl rfl rfl (fun q => ?_) (fun q hq => ?_)
  · rw [portOf_updPort]
    split
    next heq => rw [heq, hheld, hflush]; exact ⟨rfl, rfl, hsession _⟩
    next => exact ⟨rfl, rfl, id⟩
  · exact portOf_updPort_other _ _ _ _ (fun heq => hp (heq ▸ hq))

/-- An entry whose response is formed and held (R87). -/
def answered (a : Answer) (x : Entry) : Entry := { x with state := .dispatched, response := some ⟨x.tag, a⟩ }

/-- A port that holds one response more. -/
def holding (id : Nat) (x : Port) : Port := { x with held := x.held ++ [id] }

/-- An unanswered entry is answered (R74, R87). -/
theorem Agrees.answer (h : Agrees F s₀ (id :: X) s) (a : Answer) :
    Agrees F s₀ X (answer id a s) := by
  obtain ⟨e, he, heid, hnone, hport⟩ := h.exempt id List.mem_cons_self
  have hfound : entryOf s id = some e := heid ▸ entryOf_of_mem h.table he
  cases hc : canPlace (portOf s e.port) with
  | true =>
    rw [answer_of_canPlace a hfound hc]
    exact (h.changePort (f := pushTx (.response ⟨e.tag, a⟩)) hport (fun _ => rfl) (fun _ => rfl) (fun _ hs => hs)).free
  | false =>
    rw [answer_of_not_canPlace a hfound hc]
    obtain ⟨hX, hspace, hfetch, hserved, hheld⟩ := h.unnamed
    have hothers : ∀ {q}, q ≠ e.port → portOf (updPort e.port (holding id) s) q = portOf s q :=
      fun hq => portOf_updPort_other _ _ _ _ hq
    have hsame : portOf (updPort e.port (holding id) s) e.port = holding id (portOf s e.port) := portOf_updPort_same _ _ _
    have hports : ∀ q, (portOf (updPort e.port (holding id) s) q).flush = (portOf s q).flush ∧
        (portOf (updPort e.port (holding id) s) q).session = (portOf s q).session ∧
        ∀ j, j ∈ (portOf (updPort e.port (holding id) s) q).held ↔ j ∈ (portOf s q).held ∨ j = id ∧ q = e.port := fun q => by
      by_cases hq : q = e.port
      · rw [hq, hsame]
        exact ⟨rfl, rfl, fun j => by simp [holding]⟩
      · rw [hothers hq]
        exact ⟨rfl, rfl, fun j => by simp [hq]⟩
    have hoff : AgreeOff id s (updEntry id (answered a) (updPort e.port (holding id) s)) :=
      AgreeOff.updEntry (s := s) (t := Machine.updPort e.port (holding id) s)
        ⟨fun _ _ => .rfl, fun _ _ => .rfl, fun _ _ => .rfl, fun _ _ => .rfl,
          fun q j hj => ((hports q).2.2 j).trans (or_iff_left (fun (h : j = id ∧ q = e.port) => hj h.1)), fun q hq => (hports q).2.1.trans hq,
          fun d _ _ _ => (hports _).1⟩ (fun _ => rfl)
    have hentry : ∀ d ∈ (updEntry id (answered a) (updPort e.port (holding id) s)).table, d.id = id → d = answered a e :=
      fun d hd hid => by
        obtain ⟨d', hd', hid', rfl⟩ := (mem_updEntry_same hid).1 hd
        rw [h.table.eq_of_id hd' he (hid'.trans heid.symm)]
    have hmem : answered a e ∈ (updEntry id (answered a) (updPort e.port (holding id) s)).table :=
      (mem_updEntry_same (s := Machine.updPort e.port (holding id) s) (f := answered a) (e := answered a e) heid).2
        ⟨e, he, heid, rfl⟩
    show Agrees F s₀ X (updEntry id (answered a) (updPort e.port (holding id) s))
    refine h.at hoff (fun j hj => (mem_cons_off X hj).symm) (List.nodup_cons.1 h.once).2
      (h.table.shrinks (.updEntry (f := answered a) (fun _ => ⟨rfl, rfl, rfl, rfl, rfl, fun h => h⟩) id
        (Machine.updPort e.port (holding id) s)))
      h.spaceOnce h.fetchOnce (fun q => ?_) (FlushOnce.updEntry h.flushOnce (fun _ => nofun)) (fun q hq => ?_)
      (fun d hd hid _ => ?_) (fun hm => absurd hm hX) (fun hm => absurd hm hspace) (fun hm => absurd hm hfetch)
      (fun hm => absurd hm hserved) (fun q hm => ?_) (h.flush_off hoff (fun q => by rw [updEntry_portOf, (hports q).1]))
    · rw [updEntry_portOf]
      by_cases hq : q = e.port
      · rw [hq, hsame]
        exact List.nodup_append.2 ⟨h.heldOnce _, by simp, fun j hj k hk hjk =>
          hheld e.port (by rw [← List.mem_singleton.1 hk, ← hjk]; exact hj)⟩
      · rw [hothers hq]; exact h.heldOnce q
    · rw [updEntry_portOf, hothers (fun heq => hport (heq ▸ hq))]
    · rw [hentry d hd hid, fits_dispatched rfl, updEntry_portOf]
      exact ⟨rfl, ((hports e.port).2.2 _).2 (.inr ⟨heid, rfl⟩)⟩
    · rw [updEntry_portOf] at hm
      obtain hm | ⟨-, rfl⟩ := ((hports q).2.2 id).1 hm
      · exact absurd hm (hheld q)
      · exact ⟨hX, answered a e, hmem, heid, rfl, rfl⟩

end

end Sys2Proof.Machine

/-! SUPPORT. The steps at one entry that keep table and lists in agreement, continued: an entry leaves its list and is
for the moment unanswered and unnamed; a list takes it up; a frame's entry is new. -/

namespace Sys2Proof.Machine

section
variable {F : PortId → Prop} {s₀ s t : State} {X : List Nat} {id : Nat} {e : Entry}

theorem Named.entry {so : Entry → Prop} (h : Named X s e.id so) (ht : TableGood s) (he : e ∈ s.table) : so e := by
  obtain ⟨-, d, hd, hid, hso⟩ := h
  rwa [← ht.eq_of_id hd he hid]

/-- Changes of everything but table, lists and ports. -/
theorem Agrees.of_eq (h : Agrees F s₀ X s) (hports : t.ports = s.ports) (htable : t.table = s.table)
    (hspace : t.spaceWait = s.spaceWait) (hfetch : t.fetchWait = s.fetchWait) (hserved : servedEntry t = servedEntry s) :
    Agrees F s₀ X t :=
  h.congr htable hspace hfetch hserved (fun p => by rw [portOf_congr hports]; exact ⟨rfl, rfl, id⟩)
    (fun p _ => portOf_congr hports p)

/-! ### An entry leaves the list that names it -/

/-- An unanswered entry of a session that no list names any more. -/
theorem Agrees.expose (h : Agrees F s₀ X s) (he : e ∈ s.table) (hX : e.id ∉ X) (hst : e.state ≠ .dispatched)
    (ho : e.state ≠ .orphan) (htable : t.table = s.table) (hoff : AgreeOff e.id s t) (hspace : t.spaceWait.Nodup)
    (hfetch : t.fetchWait.Nodup) (hheld : ∀ p, (portOf t p).held = (portOf s p).held)
    (hfrozen : ∀ p, F p → portOf t p = portOf s p) (hnospace : e.id ∉ t.spaceWait) (hnofetch : e.id ∉ t.fetchWait)
    (hnoflight : servedEntry t ≠ some e.id)
    (hflush : ∀ p f, (portOf t p).flush = some f → (portOf s p).flush = some f ∧ (e.state = .waitFlush → p ≠ e.port)) :
    Agrees F s₀ (e.id :: X) t := by
  have hfits := h.fits e he hX
  have hF : ¬F e.port := fun hp => (h.frozen _ hp).2 (hfits.session hst ho)
  refine h.at hoff (fun j hj => mem_cons_off X hj) (List.nodup_cons.2 ⟨hX, h.once⟩)
    (h.table.shrinks (by rw [htable]; exact .refl _)) hspace hfetch (fun p => by rw [hheld]; exact h.heldOnce p)
    (by rw [FlushOnce, htable]; exact h.flushOnce) hfrozen (fun _ _ _ hno => absurd List.mem_cons_self hno)
    (fun _ => ⟨e, htable ▸ he, rfl, hfits.unanswered hst, hF⟩) (fun hm => absurd hm hnospace) (fun hm => absurd hm hnofetch)
    (fun hm => absurd hm hnoflight) (fun p hm => ?_) (fun p f hf => ?_)
  · rw [hheld] at hm
    exact absurd ((h.held p _ hm).entry h.table he).2 hst
  · obtain ⟨hs, hother⟩ := hflush p f hf
    obtain ⟨d, hd, hno, hp, hdst⟩ := h.flush p f hs
    refine ⟨d, htable ▸ hd, fun hm => ?_, hp, hdst⟩
    obtain hid | hm := List.mem_cons.1 hm
    · obtain rfl := h.table.eq_of_id hd he hid
      exact hother hdst hp.symm
    · exact hno hm

/-- A space waiter leaves the list. -/
theorem Agrees.leaveSpace (h : Agrees F s₀ X s) {l : List Nat} (hid : id ∈ s.spaceWait) (hl : l.Nodup) (hno : id ∉ l)
    (hmem : ∀ j, j ≠ id → (j ∈ l ↔ j ∈ s.spaceWait)) : Agrees F s₀ (id :: X) { s with spaceWait := l } := by
  obtain ⟨hX, e, he, rfl, hst⟩ := h.space id hid
  refine h.expose he hX (by rw [hst]; decide) (by rw [hst]; decide) rfl ?_ hl h.fetchOnce (fun _ => rfl) (fun _ _ => rfl)
    hno (fun hm => ?_) (fun hm => ?_) (fun p f hf => ⟨hf, fun hw => ?_⟩)
  · exact ⟨fun _ _ => .rfl, hmem, fun _ _ => .rfl, fun _ _ => .rfl, fun _ _ _ => .rfl, fun _ hs => hs, fun _ _ _ _ => rfl⟩
  · have := (h.fetch _ hm).entry h.table he
    rw [hst] at this
    cases this
  · have := (h.flight _ hm).entry h.table he
    rw [hst] at this
    cases this <;> contradiction
  · rw [hst] at hw
    cases hw

/-- A READ leaves the fetch waiting list. -/
theorem Agrees.leaveFetch (h : Agrees F s₀ X s) {l : List Nat} {n : Nat} (hid : id ∈ s.fetchWait) (hl : l.Nodup)
    (hno : id ∉ l) (hmem : ∀ j, j ≠ id → (j ∈ l ↔ j ∈ s.fetchWait)) :
    Agrees F s₀ (id :: X) { s with fetchWait := l, starvation := n } := by
  obtain ⟨hX, e, he, rfl, hst⟩ := h.fetch id hid
  refine h.expose he hX (by rw [hst]; decide) (by rw [hst]; decide) rfl ?_ h.spaceOnce hl (fun _ => rfl) (fun _ _ => rfl)
    (fun hm => ?_) hno (fun hm => ?_) (fun p f hf => ⟨hf, fun hw => ?_⟩)
  · exact ⟨fun _ _ => .rfl, fun _ _ => .rfl, hmem, fun _ _ => .rfl, fun _ _ _ => .rfl, fun _ hs => hs, fun _ _ _ _ => rfl⟩
  · have := (h.space _ hm).entry h.table he
    rw [hst] at this
    cases this
  · have := (h.flight _ hm).entry h.table he
    rw [hst] at this
    cases this <;> contradiction
  · rw [hst] at hw
    cases hw

/-- The fetch in flight ends, and its READ is for the moment unanswered. -/
theorem Agrees.leaveFlight (h : Agrees F s₀ X s) (hserved : servedEntry s = some e.id) (he : e ∈ s.table)
    (ho : e.state ≠ .orphan) : Agrees F s₀ (e.id :: X) { s with op := none } := by
  have hst : e.state = .fetching := ((h.flight _ hserved).entry h.table he).resolve_right ho
  refine h.expose he (h.flight _ hserved).1 (by rw [hst]; decide) ho rfl ?_ h.spaceOnce h.fetchOnce (fun _ => rfl)
    (fun _ _ => rfl) (fun hm => ?_) (fun hm => ?_) (by simp [servedEntry]) (fun p f hf => ⟨hf, fun hw => ?_⟩)
  · refine ⟨fun _ _ => .rfl, fun _ _ => .rfl, fun _ _ => .rfl, fun j hj => ?_, fun _ _ _ => .rfl, fun _ hs => hs,
      fun _ _ _ _ => rfl⟩
    rw [hserved]
    exact ⟨nofun, fun hm => absurd (Option.some.inj hm).symm hj⟩
  · have := (h.space _ hm).entry h.table he
    rw [hst] at this
    cases this
  · have := (h.fetch _ hm).entry h.table he
    rw [hst] at this
    cases this
  · rw [hst] at hw
    cases hw

/-- The port with its FLUSH record closed. -/
def flushClosed (x : Port) : Port := { x with flush := none }

/-- A FLUSH record is closed, and its FLUSH is for the moment unanswered. -/
theorem Agrees.closeFlush (h : Agrees F s₀ X s) (he : e ∈ s.table) (hX : e.id ∉ X) (hst : e.state = .waitFlush) :
    Agrees F s₀ (e.id :: X) (updPort e.port flushClosed s) := by
  have hport : ∀ p, (portOf (updPort e.port flushClosed s) p).held = (portOf s p).held ∧
      (portOf (updPort e.port flushClosed s) p).session = (portOf s p).session ∧
      (p ≠ e.port → portOf (updPort e.port flushClosed s) p = portOf s p) ∧
      (p = e.port → (portOf (updPort e.port flushClosed s) p).flush = none) := fun p => by
    rw [portOf_updPort]
    split
    next heq => rw [heq]; exact ⟨rfl, rfl, fun hne => absurd rfl hne, fun _ => rfl⟩
    next hne => exact ⟨rfl, rfl, fun _ => rfl, fun heq => absurd heq hne⟩
  have hF : ¬F e.port := fun hp => (h.frozen _ hp).2 ((h.fits e he hX).session (by rw [hst]; decide) (by rw [hst]; decide))
  refine h.expose he hX (by rw [hst]; decide) (by rw [hst]; decide) rfl ?_ h.spaceOnce h.fetchOnce (fun p => (hport p).1)
    (fun p hp => (hport p).2.2.1 (fun heq => hF (heq ▸ hp))) (fun hm => ?_) (fun hm => ?_) (fun hm => ?_) (fun p f hf => ?_)
  · refine ⟨fun _ _ => .rfl, fun _ _ => .rfl, fun _ _ => .rfl, fun _ _ => .rfl, fun p j _ => by rw [(hport p).1],
      fun p hp => by rw [(hport p).2.1]; exact hp, fun d hd hid hdst => ?_⟩
    rw [(hport d.port).2.2.1 (fun hp => hid (congrArg Entry.id (h.flushOnce.eq hd he hp hdst hst)))]
  · have := (h.space _ hm).entry h.table he
    rw [hst] at this
    cases this
  · have := (h.fetch _ hm).entry h.table he
    rw [hst] at this
    cases this
  · have := (h.flight _ hm).entry h.table he
    rw [hst] at this
    cases this <;> contradiction
  · have hne : p ≠ e.port := fun heq => by
      rw [(hport p).2.2.2 heq] at hf
      cases hf
    rw [(hport p).2.2.1 hne] at hf
    exact ⟨hf, fun _ => hne⟩

end

end Sys2Proof.Machine

/-! SUPPORT. An unanswered entry takes its place: it joins a list, its fetch starts, its FLUSH opens; a frame's entry is
new; a held response is placed. -/

namespace Sys2Proof.Machine

section
variable {F : PortId → Prop} {s₀ s t u : State} {X : List Nat} {id : Nat} {e : Entry}

/-- An entry in another state. -/
def inState (st : EntryState) (x : Entry) : Entry := { x with state := st }

theorem FlushOnce.inState (h : FlushOnce s) (ht : TableGood s) (he : e ∈ s.table) {st : EntryState}
    (hst : st = .waitFlush → ∀ d ∈ s.table, d.id ≠ e.id → d.port = e.port → d.state ≠ .waitFlush) :
    FlushOnce (Machine.updEntry e.id (inState st) s) := by
  have hids : s.table.Pairwise (fun a b => a.id ≠ b.id) := List.pairwise_map.1 ht.1
  refine List.pairwise_map.2 ((h.and hids).imp_of_mem (fun {a b} ha hb hab => ?_))
  split
  next hae =>
    obtain rfl := ht.eq_of_id ha he hae
    rw [if_neg (Ne.symm hab.2)]
    exact fun ⟨hp, hs, hbs⟩ => hst hs b hb (Ne.symm hab.2) hp.symm hbs
  next hae =>
    split
    next hbe =>
      obtain rfl := ht.eq_of_id hb he hbe
      exact fun ⟨hp, has, hs⟩ => hst hs a ha hab.2 hp has
    next => exact hab.1

/-- An unanswered entry takes a place in a state that differs in its names alone. -/
theorem Agrees.place (h : Agrees F s₀ (e.id :: X) s) (he : e ∈ s.table) {st : EntryState} (htable : u.table = s.table)
    (hoff : AgreeOff e.id s u) (hspace : u.spaceWait.Nodup) (hfetch : u.fetchWait.Nodup)
    (hheld : ∀ p, (portOf u p).held = (portOf s p).held) (hfrozen : ∀ p, F p → portOf u p = portOf s p)
    (honce : st = .waitFlush → ∀ d ∈ s.table, d.id ≠ e.id → d.port = e.port → d.state ≠ .waitFlush)
    (fits : Fits u (inState st e)) (inspace : e.id ∈ u.spaceWait → st = .waitSpace)
    (infetch : e.id ∈ u.fetchWait → st = .waitFetch) (inflight : servedEntry u = some e.id → st = .fetching)
    (hflush : ∀ p f, (portOf u p).flush = some f → (portOf s p).flush = some f ∨ e.port = p ∧ st = .waitFlush) :
    Agrees F s₀ X (updEntry e.id (inState st) u) := by
  obtain ⟨hX, -, -, -, hnoheld⟩ := h.unnamed
  have htg : TableGood u := h.table.shrinks (by rw [htable]; exact .refl _)
  have heu : e ∈ u.table := htable ▸ he
  have hoff' : AgreeOff e.id s (updEntry e.id (inState st) u) := hoff.updEntry (fun _ => rfl)
  have hmem : inState st e ∈ (updEntry e.id (inState st) u).table :=
    (mem_updEntry_same (e := inState st e) rfl).2 ⟨e, heu, rfl, rfl⟩
  have hnamed : ∀ {so : Entry → Prop}, so (inState st e) → Named X (updEntry e.id (inState st) u) e.id so :=
    fun hso => ⟨hX, _, hmem, rfl, hso⟩
  refine h.at hoff' (fun j hj => (mem_cons_off X hj).symm) (List.nodup_cons.1 h.once).2
    (htg.shrinks (.updEntry (f := inState st) (fun _ => ⟨rfl, rfl, rfl, rfl, rfl, fun hc => hc⟩) e.id u))
    hspace hfetch (fun p => by rw [updEntry_portOf, hheld]; exact h.heldOnce p) ?_
    (fun p hp => by rw [updEntry_portOf]; exact hfrozen p hp) (fun d hd hid _ => ?_) (fun hm => absurd hm hX)
    (fun hm => hnamed (inspace hm)) (fun hm => hnamed (infetch hm)) (fun hm => hnamed (.inl (inflight hm)))
    (fun p hm => ?_) (fun p f hf => ?_)
  · exact FlushOnce.inState (by rw [FlushOnce, htable]; exact h.flushOnce) htg heu
      (fun hs d hd => honce hs d (htable ▸ hd))
  · obtain ⟨d', hd', hid', rfl⟩ := (mem_updEntry_same hid).1 hd
    obtain rfl := htg.eq_of_id hd' heu hid'
    exact fits.keep (by rw [updEntry_portOf]; exact fun hs => hs) (by rw [updEntry_portOf]; exact fun hs => hs)
      (fun hs => hs) (fun hs => hs) (fun hs => hs) (fun _ => by rw [updEntry_portOf])
  · rw [updEntry_portOf, hheld] at hm
    exact absurd hm (hnoheld p)
  · rw [updEntry_portOf] at hf
    obtain hf | ⟨hp, hst⟩ := hflush p f hf
    · obtain ⟨d, hd, hno, hp, hdst⟩ := h.flush p f hf
      obtain ⟨hid, hdX⟩ : d.id ≠ e.id ∧ d.id ∉ X := by simpa using hno
      exact ⟨d, (hoff'.entries d hid).2 hd, hdX, hp, hdst⟩
    · exact ⟨_, hmem, hX, hp, hst⟩

/-- What a joining entry is (R73): current, and of an open session. -/
abbrev Live (s : State) (e : Entry) : Prop := e ∈ s.table ∧ e.current = true ∧ (portOf s e.port).session = .session

theorem Agrees.live_unanswered (h : Agrees F s₀ (e.id :: X) s) (hl : Live s e) (st : EntryState) :
    Unanswered s (Machine.inState st e) := by
  obtain ⟨he, hcur, hs⟩ := hl
  obtain ⟨d, hd, hid, hnone, -⟩ := h.exempt e.id List.mem_cons_self
  obtain rfl := h.table.eq_of_id hd he hid
  exact ⟨hnone, hcur, hs⟩

theorem nodup_join {l : List Nat} (h : l.Nodup) (hid : id ∉ l) : (l ++ [id]).Nodup :=
  List.nodup_append.2 ⟨h, by simp, fun j hj k hk hjk => hid (by rw [← List.mem_singleton.1 hk, ← hjk]; exact hj)⟩

theorem mem_join {l : List Nat} {j : Nat} (hj : j ≠ id) : j ∈ l ++ [id] ↔ j ∈ l := by simp [hj]

/-- A change joins the space waiters (R34). -/
theorem Agrees.joinWaiters (h : Agrees F s₀ (e.id :: X) s) (hl : Live s e) (hr : e.args.record < Config.records)
    (hg : changeGood (changeOf e) = true) : Agrees F s₀ X (joinWaiters e s) := by
  obtain ⟨hX, hnospace, hnofetch, hnoflight, -⟩ := h.unnamed
  refine h.place (u := { s with spaceWait := s.spaceWait ++ [e.id] }) (st := .waitSpace) hl.1 rfl ?_
    (nodup_join h.spaceOnce hnospace) h.fetchOnce (fun _ => rfl) (fun _ _ => rfl) nofun ?_ (fun _ => rfl)
    (fun hm => absurd hm hnofetch) (fun hm => absurd hm hnoflight) (fun p f hf => .inl hf)
  · exact ⟨fun _ _ => .rfl, fun j hj => mem_join hj, fun _ _ => .rfl, fun _ _ => .rfl, fun _ _ _ => .rfl, fun _ hs => hs,
      fun _ _ _ _ => rfl⟩
  · exact (fits_waitSpace rfl).2 ⟨h.live_unanswered hl .waitSpace, hr, hg,
      List.mem_append_right _ (List.mem_singleton.2 rfl)⟩

/-- A READ joins the fetch waiting list (R50). -/
theorem Agrees.joinFetch (h : Agrees F s₀ (e.id :: X) s) (hl : Live s e) (hr : e.args.record < Config.records) :
    Agrees F s₀ X (joinFetch e s) := by
  obtain ⟨hX, hnospace, hnofetch, hnoflight, -⟩ := h.unnamed
  refine h.place (u := { s with fetchWait := s.fetchWait ++ [e.id] }) (st := .waitFetch) hl.1 rfl ?_
    h.spaceOnce (nodup_join h.fetchOnce hnofetch) (fun _ => rfl) (fun _ _ => rfl) nofun ?_ (fun hm => absurd hm hnospace)
    (fun _ => rfl) (fun hm => absurd hm hnoflight) (fun p f hf => .inl hf)
  · exact ⟨fun _ _ => .rfl, fun _ _ => .rfl, fun j hj => mem_join hj, fun _ _ => .rfl, fun _ _ _ => .rfl, fun _ hs => hs,
      fun _ _ _ _ => rfl⟩
  · exact (fits_waitFetch rfl).2 ⟨h.live_unanswered hl .waitFetch, hr, List.mem_append_right _ (List.mem_singleton.2 rfl)⟩

/-- The fetch of a READ starts on an idle array (R51). -/
theorem Agrees.startFetch (h : Agrees F s₀ (e.id :: X) s) (hl : Live s e) (hr : e.args.record < Config.records)
    (hidle : servedEntry s = none) : Agrees F s₀ X (startFetch e s) := by
  obtain ⟨hX, hnospace, hnofetch, hnoflight, -⟩ := h.unnamed
  refine h.place (u := { s with op := _, starvation := 0 }) (st := .fetching) hl.1 rfl ?_ h.spaceOnce h.fetchOnce
    (fun _ => rfl) (fun _ _ => rfl) nofun ?_ (fun hm => absurd hm hnospace) (fun hm => absurd hm hnofetch) (fun _ => rfl)
    (fun p f hf => .inl hf)
  · refine ⟨fun _ _ => .rfl, fun _ _ => .rfl, fun _ _ => .rfl, fun j hj => ?_, fun _ _ _ => .rfl, fun _ hs => hs,
      fun _ _ _ _ => rfl⟩
    rw [hidle]
    exact ⟨fun hm => absurd (Option.some.inj hm).symm hj, nofun⟩
  · exact (fits_fetching rfl).2 ⟨h.live_unanswered hl .fetching, hr, rfl⟩

/-- The port with its FLUSH record open. -/
def flushOpened (f : FlushRecord) (x : Port) : Port := { x with flush := some f }

/-- A FLUSH opens where none is open (R37). -/
theorem Agrees.openFlush (h : Agrees F s₀ (e.id :: X) s) (hl : Live s e) (hnone : (portOf s e.port).flush = none)
    (hX : X = []) : Agrees F s₀ X (openFlush e s) := by
  obtain ⟨-, hnospace, hnofetch, hnoflight, -⟩ := h.unnamed
  have hport : ∀ p f, p ≠ e.port → portOf (updPort e.port (flushOpened f) { s with queue := markQueue e.port s.queue }) p =
      portOf s p := fun p f hp => portOf_updPort_other _ _ _ _ hp
  have hsame : ∀ f, portOf (updPort e.port (flushOpened f) { s with queue := markQueue e.port s.queue }) e.port =
      flushOpened f (portOf s e.port) := fun f => portOf_updPort_same _ _ _
  have hF : ¬F e.port := fun hp => (h.frozen _ hp).2 hl.2.2
  have hclosed : ∀ d ∈ s.table, d.id ≠ e.id → d.port = e.port → d.state ≠ .waitFlush := fun d hd hid hp hst => by
    obtain ⟨-, f, hf, -⟩ := (fits_waitFlush hst).1 (h.fits d hd (by simpa [hX] using hid))
    rw [hp, hnone] at hf
    cases hf
  refine h.place (u := updPort e.port (flushOpened ⟨e.tag, originCount e.port s.queue, false⟩)
    { s with queue := markQueue e.port s.queue }) (st := .waitFlush) hl.1 rfl ?_ h.spaceOnce h.fetchOnce (fun p => ?_)
    (fun p hp => hport p _ (fun heq => hF (heq ▸ hp))) (fun _ => hclosed) ?_ (fun hm => absurd hm hnospace)
    (fun hm => absurd hm hnofetch) (fun hm => absurd hm hnoflight) (fun p f hf => ?_)
  · refine ⟨fun _ _ => .rfl, fun _ _ => .rfl, fun _ _ => .rfl, fun _ _ => .rfl, fun p j _ => ?_, fun p hp => ?_,
      fun d hd hid hst => by rw [hport _ _ (fun hp => hclosed d hd hid hp hst)]⟩
    · by_cases hp : p = e.port
      · rw [hp, hsame]; rfl
      · rw [hport _ _ hp]
    · by_cases heq : p = e.port
      · rw [heq, hsame]; exact hl.2.2
      · rwa [hport _ _ heq]
  · by_cases hp : p = e.port
    · rw [hp, hsame]; rfl
    · rw [hport _ _ hp]
  · obtain ⟨hr, hc, hs⟩ := h.live_unanswered hl .waitFlush
    refine (fits_waitFlush rfl).2 ⟨⟨hr, hc, ?_⟩, ⟨e.tag, originCount e.port s.queue, false⟩, ?_, rfl⟩
    · show (portOf (updPort _ _ _) e.port).session = _
      rw [hsame]; exact hs
    · show (portOf (updPort _ _ _) e.port).flush = _
      rw [hsame]; rfl
  · by_cases hp : p = e.port
    · exact .inr ⟨hp.symm, rfl⟩
    · rw [hport _ _ hp] at hf
      exact .inl hf

end

end Sys2Proof.Machine

/-! SUPPORT. A new entry, a held response that is placed, and the end of a session, which touches the entries of one
port alone, keep table and lists in agreement. -/

namespace Sys2Proof.Machine

section
variable {F : PortId → Prop} {s₀ s t u : State} {X : List Nat} {id : Nat} {e : Entry} {p : PortId}

/-! ### A frame's entry is new -/

theorem Agrees.taken (h : Agrees F s₀ [] s) {f : RxFrame} {rest : List RxFrame} (ht : Takes s p id f rest) (hp : ¬F p)
    (last : PortId) : Agrees F s₀ [id] (taken p id f rest last s) := by
  have htable : (Machine.taken p id f rest last s).table = s.table ++ [newEntry id p f] := rfl
  have hport : ∀ q, (portOf (Machine.taken p id f rest last s) q).held = (portOf s q).held ∧
      (portOf (Machine.taken p id f rest last s) q).flush = (portOf s q).flush ∧
      (portOf (Machine.taken p id f rest last s) q).session = (portOf s q).session := fun q => by
    by_cases hq : q = p
    · rw [hq, taken_portOf_same]; exact ⟨rfl, rfl, rfl⟩
    · rw [taken_portOf_other _ _ _ _ _ _ hq]; exact ⟨rfl, rfl, rfl⟩
  have hnew : ∀ {so : Entry → Prop}, ¬Named [] s id so := fun ⟨_, e, he, hid, _⟩ => ht.free e he hid
  have hids : ∀ e ∈ s.table, e.id ∉ [id] := fun e he hm => ht.free e he (List.mem_singleton.1 hm)
  refine h.at (id := id) ⟨fun e he => ?_, fun _ _ => .rfl, fun _ _ => .rfl, fun _ _ => .rfl,
      fun q j _ => by rw [(hport q).1], fun q hq => (hport q).2.2.trans hq, fun d _ _ _ => (hport _).2.1⟩
    (fun j hj => mem_cons_off [] hj) (List.nodup_singleton _) (TableGood.taken h.table ht last) h.spaceOnce h.fetchOnce
    (fun q => by rw [(hport q).1]; exact h.heldOnce q) ?_ (fun q hq => taken_portOf_other _ _ _ _ _ _ (fun heq => hp (heq ▸ hq)))
    (fun _ _ _ hno => absurd (List.mem_singleton.2 rfl) hno)
    (fun _ => ⟨newEntry id p f, List.mem_append_right _ (List.mem_singleton.2 rfl), rfl, rfl, hp⟩)
    (fun hm => absurd (h.space id hm) hnew) (fun hm => absurd (h.fetch id hm) hnew) (fun hm => absurd (h.flight id hm) hnew)
    (fun q hm => absurd (h.held q id ((hport q).1 ▸ hm)) hnew) (fun q g hg => ?_)
  · rw [htable, List.mem_append, List.mem_singleton]
    exact or_iff_left (fun heq => he (heq ▸ rfl))
  · rw [FlushOnce, htable]
    exact List.pairwise_append.2 ⟨h.flushOnce, List.pairwise_singleton _ _, fun a _ b hb hab => by
      rw [List.mem_singleton.1 hb] at hab
      exact absurd hab.2.2 nofun⟩
  · obtain ⟨e, he, -, hrest⟩ := h.flush q g ((hport q).2.1 ▸ hg)
    exact ⟨e, List.mem_append_left _ he, hids e he, hrest⟩

/-! ### A held response is placed -/

/-- The oldest held response of a port leaves for the transmit queue, and its entry is freed (R87). -/
theorem Agrees.placeHeld (h : Agrees F s₀ X s) {ids : List Nat} (hheld : (portOf s p).held = id :: ids) (hp : ¬F p)
    {f : Port → Port} (hf : ∀ x, (f x).held = ids) (hflush : ∀ x, (f x).flush = x.flush)
    (hsession : ∀ x, (f x).session = x.session) : Agrees F s₀ X (freeEntry id (updPort p f s)) := by
  have hother : ∀ {q}, q ≠ p → portOf (freeEntry id (updPort p f s)) q = portOf s q := fun hq => by
    rw [freeEntry_portOf]; exact portOf_updPort_other _ _ _ _ hq
  have hsame : portOf (freeEntry id (updPort p f s)) p = f (portOf s p) := by
    rw [freeEntry_portOf]; exact portOf_updPort_same _ _ _
  have honce := h.heldOnce p
  rw [hheld] at honce
  obtain ⟨hno, hrest⟩ := List.nodup_cons.1 honce
  obtain ⟨hX, e, he, rfl, hep, hst⟩ := h.held p id (by rw [hheld]; exact List.mem_cons_self)
  have hentry : ∀ {so : Entry → Prop}, Named X s e.id so → so e := fun hn => hn.entry h.table he
  have hport : ∀ q, (portOf (freeEntry e.id (updPort p f s)) q).flush = (portOf s q).flush ∧
      (portOf (freeEntry e.id (updPort p f s)) q).session = (portOf s q).session := fun q => by
    by_cases hq : q = p
    · rw [hq, hsame, hflush, hsession]; exact ⟨rfl, rfl⟩
    · rw [hother hq]; exact ⟨rfl, rfl⟩
  have hoff : AgreeOff e.id s (freeEntry e.id (updPort p f s)) :=
    ⟨fun d hd => by rw [mem_freeEntry]; exact and_iff_left hd, fun _ _ => .rfl, fun _ _ => .rfl, fun _ _ => .rfl,
      fun q j hj => by
        by_cases hq : q = p
        · rw [hq, hsame, hf, hheld]; exact (mem_cons_off ids hj).symm
        · rw [hother hq],
      fun q hq => (hport q).2.trans hq, fun d _ _ _ => (hport _).1⟩
  refine h.at hoff (fun _ _ => .rfl) h.once (h.table.shrinks (.filter s.table _)) h.spaceOnce h.fetchOnce (fun q => ?_)
    (h.flushOnce.filter _) (fun q hq => hother (fun heq => hp (heq ▸ hq))) (fun d hd hid => absurd hid (mem_freeEntry.1 hd).2)
    (fun hm => absurd hm hX) (fun hm => ?_) (fun hm => ?_) (fun hm => ?_) (fun q hm => ?_) (fun q g hg => ?_)
  · by_cases hq : q = p
    · rw [hq, hsame, hf]; exact hrest
    · rw [hother hq]; exact h.heldOnce q
  · have := hentry (h.space _ hm)
    rw [hst] at this; cases this
  · have := hentry (h.fetch _ hm)
    rw [hst] at this; cases this
  · have := hentry (h.flight _ hm)
    rw [hst] at this; cases this <;> contradiction
  · by_cases hq : q = p
    · rw [hq, hsame, hf] at hm
      exact absurd hm hno
    · rw [hother hq] at hm
      exact absurd ((hentry (h.held q _ hm)).1.symm.trans hep) hq
  · rw [(hport q).1] at hg
    obtain ⟨d, hd, hdX, hdp, hdst⟩ := h.flush q g hg
    exact ⟨d, mem_freeEntry.2 ⟨hd, fun hid => by
      obtain rfl := h.table.eq_of_id hd he hid
      rw [hst] at hdst; cases hdst⟩, hdX, hdp, hdst⟩

/-! ### The entries of one port end -/

/-- The entries of p but those in X end, by their state (R88, R123, R139), and no list names them any more but for held
responses and a fetch in flight; nothing of another port changes. -/
structure Thins (p : PortId) (X : List Nat) (s t : State) : Prop where
  table     : Shrinks s.table t.table
  entries   : ∀ x ∈ t.table, x ∈ s.table ∧ (x.port ≠ p ∨ x.id ∈ X) ∨ ∃ e ∈ s.table, e.id ∉ X ∧ e.id = x.id ∧ e.port = p ∧
    x.port = p ∧ e.args = x.args ∧ e.response = x.response ∧
    (e.state = .dispatched ∧ x.state = .dispatched ∨
      (e.state = .fetching ∨ e.state = .orphan) ∧ x.state = .orphan ∧ x.current = false)
  keeps     : ∀ e ∈ s.table, e.port ≠ p ∨ e.id ∈ X → e ∈ t.table
  served    : servedEntry t = servedEntry s
  orphans   : ∀ e ∈ s.table, e.port = p → e.state = .fetching ∨ e.state = .orphan → e.id ∉ X →
    ∃ x ∈ t.table, x.id = e.id ∧ x.state = .orphan
  ports     : ∀ q, q ≠ p → portOf t q = portOf s q
  flush     : (portOf t p).flush = none
  held      : (portOf t p).held = (portOf s p).held ∧ (∀ e ∈ s.table, e.port = p → e.state = .dispatched → e.id ∉ X →
      ∃ x ∈ t.table, x.id = e.id ∧ x.port = p ∧ x.state = .dispatched) ∨
    (portOf t p).held = [] ∧ ∀ x ∈ t.table, x.port = p → x.id ∉ X → x.state ≠ .dispatched
  space     : List.Sublist t.spaceWait s.spaceWait
  spaceKept : ∀ e ∈ s.table, e.port ≠ p → e.id ∈ s.spaceWait → e.id ∈ t.spaceWait
  spaceGone : ∀ e ∈ s.table, e.port = p → e.id ∉ X → e.state = .waitSpace → e.id ∉ t.spaceWait
  fetch     : List.Sublist t.fetchWait s.fetchWait
  fetchKept : ∀ e ∈ s.table, e.port ≠ p → e.id ∈ s.fetchWait → e.id ∈ t.fetchWait
  fetchGone : ∀ e ∈ s.table, e.port = p → e.id ∉ X → e.state = .waitFetch → e.id ∉ t.fetchWait

theorem Agrees.thin (h : Agrees F s₀ X s) (ht : Thins p X s t) (hp : ¬F p) : Agrees F s₀ X t := by
  have htg : TableGood t := h.table.shrinks ht.table
  have hids : t.table.Pairwise (fun a b => a.id ≠ b.id) := List.pairwise_map.1 htg.1
  refine ⟨htg, h.once, ht.space.nodup h.spaceOnce, ht.fetch.nodup h.fetchOnce, fun q => ?_, ?_, fun x hx hX => ?_,
    fun id hid => ?_, fun id hid => ?_, fun id hid => ?_, fun q id hid => ?_, fun q f hf => ?_, fun id hid => ?_,
    fun q hq => ?_⟩
  · by_cases hq : q = p
    · subst hq
      obtain ⟨heq, -⟩ | ⟨heq, -⟩ := ht.held
      · rw [heq]; exact h.heldOnce q
      · rw [heq]; exact List.nodup_nil
    · rw [ht.ports q hq]; exact h.heldOnce q
  · refine hids.imp_of_mem (fun {a b} ha hb hab ⟨hport, hast, hbst⟩ => hab ?_)
    have hold : ∀ x ∈ t.table, x.state = .waitFlush → x ∈ s.table := fun x hx hst => by
      obtain ⟨hs, -⟩ | ⟨e, -, -, -, -, -, -, -, hstate⟩ := ht.entries x hx
      · exact hs
      · rw [hst] at hstate
        obtain ⟨-, hbad⟩ | ⟨-, hbad, -⟩ := hstate <;> cases hbad
    rw [h.flushOnce.eq (hold a ha hast) (hold b hb hbst) hport hast hbst]
  · obtain ⟨hs, hkept⟩ | ⟨e, he, heX, heid, hep, hxp, hargs, hresp, hstate⟩ := ht.entries x hx
    · have hxp : x.port ≠ p := hkept.resolve_right hX
      refine (h.fits x hs hX).keep ?_ ?_ (ht.spaceKept x hs hxp) (ht.fetchKept x hs hxp) (by rw [ht.served]; exact fun hm => hm)
        (fun _ => by rw [ht.ports _ hxp])
      · rw [ht.ports _ hxp]; exact fun hm => hm
      · rw [ht.ports _ hxp]; exact fun hm => hm
    · have hfits := h.fits e he heX
      obtain ⟨hst, hxst⟩ | ⟨hst, hxst, hcur⟩ := hstate
      · obtain ⟨hsome, hheld⟩ := (fits_dispatched hst).1 hfits
        refine (fits_dispatched hxst).2 ⟨hresp ▸ hsome, ?_⟩
        rw [hep, heid] at hheld
        obtain ⟨heq, -⟩ | ⟨-, hnone⟩ := ht.held
        · rw [hxp, heq]; exact hheld
        · exact absurd hxst (hnone x hx hxp hX)
      · have hrec : e.args.record < Config.records ∧ servedEntry s = some e.id := by
          obtain hst | hst := hst
          · exact ((fits_fetching hst).1 hfits).2
          · exact ((fits_orphan hst).1 hfits).2.2
        refine (fits_orphan hxst).2 ⟨?_, hcur, hargs ▸ hrec.1, by rw [ht.served, hrec.2, heid]⟩
        rw [← hresp]
        exact hfits.unanswered (by rintro hbad; rw [hbad] at hst; obtain hbad | hbad := hst <;> cases hbad)
  · obtain ⟨hX, e, he, rfl, hst⟩ := h.space id (ht.space.subset hid)
    have hep : e.port ≠ p := fun hep => ht.spaceGone e he hep hX hst hid
    exact ⟨hX, e, ht.keeps e he (.inl hep), rfl, hst⟩
  · obtain ⟨hX, e, he, rfl, hst⟩ := h.fetch id (ht.fetch.subset hid)
    have hep : e.port ≠ p := fun hep => ht.fetchGone e he hep hX hst hid
    exact ⟨hX, e, ht.keeps e he (.inl hep), rfl, hst⟩
  · obtain ⟨hX, e, he, rfl, hst⟩ := h.flight id (ht.served ▸ hid)
    by_cases hep : e.port = p
    · obtain ⟨x, hx, hxid, hxst⟩ := ht.orphans e he hep hst hX
      exact ⟨hX, x, hx, hxid, .inr hxst⟩
    · exact ⟨hX, e, ht.keeps e he (.inl hep), rfl, hst⟩
  · by_cases hq : q = p
    · subst hq
      obtain ⟨heq, hkept⟩ | ⟨heq, -⟩ := ht.held
      · rw [heq] at hid
        obtain ⟨hX, e, he, rfl, hep, hst⟩ := h.held q id hid
        obtain ⟨x, hx, hxid, hxp, hxst⟩ := hkept e he hep hst hX
        exact ⟨hX, x, hx, hxid, hxp, hxst⟩
      · rw [heq] at hid
        cases hid
    · rw [ht.ports q hq] at hid
      obtain ⟨hX, e, he, rfl, hep, hst⟩ := h.held q id hid
      exact ⟨hX, e, ht.keeps e he (.inl (hep ▸ hq)), rfl, hep, hst⟩
  · have hq : q ≠ p := fun heq => by
      rw [heq, ht.flush] at hf
      cases hf
    rw [ht.ports q hq] at hf
    obtain ⟨e, he, hX, hep, hst⟩ := h.flush q f hf
    exact ⟨e, ht.keeps e he (.inl (hep ▸ hq)), hX, hep, hst⟩
  · obtain ⟨e, he, heid, hnone, hF⟩ := h.exempt id hid
    exact ⟨e, ht.keeps e he (.inr (heid ▸ hid)), heid, hnone, hF⟩
  · have hqp : q ≠ p := fun heq => hp (heq ▸ hq)
    rw [ht.ports q hqp]
    exact h.frozen q hq

end

end Sys2Proof.Machine

/-! SUPPORT. The teardown of a session, an OPEN without one and attention thin out the entries of their port (R120, R123,
R139). -/

namespace Sys2Proof.Machine

section
variable {F : PortId → Prop} {s₀ s t : State} {X : List Nat} {e : Entry} {p : PortId}

theorem Fits.cases (h : Fits s e) : e.state = .dispatched ∨ (e.state = .orphan ∧ e.current = false) ∨ Unanswered s e := by
  cases hst : e.state with
  | dispatched => exact .inl rfl
  | orphan => exact .inr (.inl ⟨rfl, ((fits_orphan hst).1 h).2.1⟩)
  | waitSpace => exact .inr (.inr ((fits_waitSpace hst).1 h).1)
  | waitFetch => exact .inr (.inr ((fits_waitFetch hst).1 h).1)
  | fetching => exact .inr (.inr ((fits_fetching hst).1 h).1)
  | waitFlush => exact .inr (.inr ((fits_waitFlush hst).1 h).1)

/-- Only a current entry of a session waits (R73). -/
theorem Fits.quiet (h : Fits s e) (hno : e.current = false ∨ (portOf s e.port).session ≠ .session) :
    e.state = .dispatched ∨ e.state = .orphan ∧ e.current = false := by
  obtain hst | hst | ⟨-, hcur, hs⟩ := h.cases
  · exact .inl hst
  · exact .inr hst
  · obtain hno | hno := hno
    · rw [hcur] at hno; cases hno
    · exact absurd hs hno

theorem Thins.changePort (h : Thins p X s t) {f : Port → Port} (hheld : ∀ x, (f x).held = x.held)
    (hflush : ∀ x, (f x).flush = x.flush) : Thins p X s (updPort p f t) := by
  have hsame : portOf (updPort p f t) p = f (portOf t p) := portOf_updPort_same _ _ _
  exact {
    table := h.table
    entries := h.entries
    keeps := h.keeps
    served := h.served
    orphans := h.orphans
    ports := fun q hq => (portOf_updPort_other _ _ _ _ hq).trans (h.ports q hq)
    flush := by rw [hsame, hflush]; exact h.flush
    held := by rw [hsame, hheld]; exact h.held
    space := h.space
    spaceKept := h.spaceKept
    spaceGone := h.spaceGone
    fetch := h.fetch
    fetchKept := h.fetchKept
    fetchGone := h.fetchGone }

/-! ### The teardown -/

theorem not_contains_endingIds {keep : Option Nat} (ht : TableGood s) (he : e ∈ s.table) (hp : e.port ≠ p) :
    (endingIds p keep s).contains e.id = false := by
  rw [contains_endingIds, List.any_eq_false]
  intro d hd hends
  simp only [Bool.and_eq_true, beq_iff_eq] at hends
  exact hp (ht.eq_of_id hd he hends.1.1.1 ▸ hends.1.1.2)

theorem endEntry_of_dispatched (h : e.state = .dispatched) : endEntry e = some { e with current := false } := by
  rw [endEntry, h]

theorem endEntry_of_flight (h : e.state = .fetching ∨ e.state = .orphan) :
    endEntry e = some { e with current := false, state := .orphan } := by
  unfold endEntry
  obtain h | h := h <;> rw [h]

theorem endEntry_cases {x : Entry} (h : endEntry e = some x) :
    e.state = .dispatched ∧ x = { e with current := false } ∨
      (e.state = .fetching ∨ e.state = .orphan) ∧ x = { e with current := false, state := .orphan } := by
  unfold endEntry at h
  split at h
  next hst => exact .inl ⟨hst, (Option.some.inj h).symm⟩
  next hst => exact .inr ⟨.inl hst, (Option.some.inj h).symm⟩
  next hst => exact .inr ⟨.inr hst, by rw [← Option.some.inj h, ← hst]⟩
  all_goals cases h

theorem Agrees.teardown (h : Agrees F s₀ X s) {keep : Option Nat} (hX : ∀ id, id ∈ X ↔ keep = some id) :
    Thins p X s (teardown p keep s) := by
  have hends : ∀ e : Entry, endsWith p keep e = false → e.port = p → e.id ∉ X → e.current = false := fun e hno hp hid => by
    by_contra hcur
    rw [endsWith_iff.2 ⟨hp, by simpa using hcur, fun hk => hid ((hX _).2 hk)⟩] at hno
    cases hno
  have hpsame : portOf (Machine.teardown p keep s) p = { portOf s p with rxBuffer := [], flush := none } :=
    (portOf_congr (s := updPort p (fun x => { x with rxBuffer := [], flush := none }) s) rfl p).trans
      (portOf_updPort_same p _ s)
  have hwaits : ∀ e ∈ s.table, e.port = p → e.id ∉ X → e.state = .waitSpace ∨ e.state = .waitFetch →
      endsWith p keep e = true := fun e he hp hid hst => by
    cases hno : endsWith p keep e with
    | true => rfl
    | false =>
      obtain hbad | ⟨hbad, -⟩ := (h.fits e he hid).quiet (.inl (hends e hno hp hid)) <;>
        rw [hbad] at hst <;> obtain hst | hst := hst <;> cases hst
  refine {
    table := teardown_shrinks p keep s
    entries := fun x hx => ?_
    keeps := fun e he hk => mem_teardown.2 (.inl ⟨he, ?_⟩)
    served := rfl
    orphans := fun e he hp hst hid => ?_
    ports := fun q hq => teardown_portOf_other p keep s hq
    flush := by rw [hpsame]
    held := .inl ⟨by rw [hpsame], fun e he hp hst hid => ?_⟩
    space := List.filter_sublist
    spaceKept := fun e he hp hm => List.mem_filter.2 ⟨hm, by rw [not_contains_endingIds h.table he hp]; rfl⟩
    spaceGone := fun e he hp hid hst => not_mem_filter_endingIds he (hwaits e he hp hid (.inl hst)) _
    fetch := List.filter_sublist
    fetchKept := fun e he hp hm => List.mem_filter.2 ⟨hm, by rw [not_contains_endingIds h.table he hp]; rfl⟩
    fetchGone := fun e he hp hid hst => not_mem_filter_endingIds he (hwaits e he hp hid (.inr hst)) _ }
  · obtain ⟨hs, hno⟩ | ⟨d, hd, hyes, hdx⟩ := mem_teardown.1 hx
    · by_cases hk : x.port ≠ p ∨ x.id ∈ X
      · exact .inl ⟨hs, hk⟩
      · obtain ⟨hp, hid⟩ := not_or.1 hk
        have hp := not_not.1 hp
        refine .inr ⟨x, hs, hid, rfl, hp, hp, rfl, rfl, ?_⟩
        obtain hst | ⟨hst, hcur⟩ := (h.fits x hs hid).quiet (.inl (hends x hno hp hid))
        · exact .inl ⟨hst, hst⟩
        · exact .inr ⟨.inr hst, hst, hcur⟩
    · obtain ⟨hp, -, hkeep⟩ := endsWith_iff.1 hyes
      have hid : d.id ∉ X := fun hm => hkeep ((hX _).1 hm)
      obtain ⟨hst, rfl⟩ | ⟨hst, rfl⟩ := endEntry_cases hdx
      · exact .inr ⟨d, hd, hid, rfl, hp, hp, rfl, rfl, .inl ⟨hst, hst⟩⟩
      · exact .inr ⟨d, hd, hid, rfl, hp, hp, rfl, rfl, .inr ⟨hst, rfl, rfl⟩⟩
  · by_contra hyes
    obtain ⟨hp, -, hkeep⟩ := endsWith_iff.1 (by simpa using hyes)
    obtain hk | hk := hk
    · exact hk hp
    · exact hkeep ((hX _).1 hk)
  · cases hno : endsWith p keep e with
    | true => exact ⟨_, mem_teardown.2 (.inr ⟨e, he, hno, endEntry_of_flight hst⟩), rfl, rfl⟩
    | false =>
      refine ⟨e, mem_teardown.2 (.inl ⟨he, hno⟩), rfl, ?_⟩
      obtain hbad | ⟨hst, -⟩ := (h.fits e he hid).quiet (.inl (hends e hno hp hid))
      · rw [hbad] at hst; obtain hst | hst := hst <;> cases hst
      · exact hst
  · cases hno : endsWith p keep e with
    | true => exact ⟨_, mem_teardown.2 (.inr ⟨e, he, hno, endEntry_of_dispatched hst⟩), rfl, hp, hst⟩
    | false => exact ⟨e, mem_teardown.2 (.inl ⟨he, hno⟩), rfl, hp, hst⟩

/-! ### A port without a session -/

/-- The entries of a port without a session may turn ended (R120). -/
theorem Agrees.sessionless (h : Agrees F s₀ X s) (hs : (portOf s p).session ≠ .session) {ends : Entry → Bool}
    (hends : ∀ e, ends e = true → e.port = p ∧ e.id ∉ X) :
    Thins p X s { s with table := s.table.map (fun e => if ends e then { e with current := false } else e) } := by
  have hquiet : ∀ e ∈ s.table, e.port = p → e.id ∉ X → e.state = .dispatched ∨ e.state = .orphan ∧ e.current = false :=
    fun e he hp hid => (h.fits e he hid).quiet (.inr (hp ▸ hs))
  have hmem : ∀ {x}, x ∈ s.table.map (fun e => if ends e then { e with current := false } else e) ↔
      (∃ e ∈ s.table, ends e = true ∧ x = { e with current := false }) ∨ x ∈ s.table ∧ ends x = false := fun {x} => by
    rw [List.mem_map]
    constructor
    · rintro ⟨e, he, rfl⟩
      split
      next hyes => exact .inl ⟨e, he, hyes, rfl⟩
      next hno => exact .inr ⟨he, by simpa using hno⟩
    · rintro (⟨e, he, hyes, rfl⟩ | ⟨he, hno⟩)
      · exact ⟨e, he, if_pos hyes⟩
      · exact ⟨x, he, if_neg (by simp [hno])⟩
  have hstays : ∀ e ∈ s.table, ∃ x ∈ s.table.map (fun e => if ends e then { e with current := false } else e),
      x.id = e.id ∧ x.port = e.port ∧ x.state = e.state := fun e he =>
    ⟨_, List.mem_map.2 ⟨e, he, rfl⟩, by split <;> rfl, by split <;> rfl, by split <;> rfl⟩
  refine {
    table := .map _ (fun e => by split <;> exact ⟨rfl, rfl, rfl, rfl, rfl, by simp⟩)
    entries := fun x hx => ?_
    keeps := fun e he hk => hmem.2 (.inr ⟨he, ?_⟩)
    served := rfl
    orphans := fun e he hp hst hid => ?_
    ports := fun _ _ => rfl
    flush := ?_
    held := .inl ⟨rfl, fun e he hp hst _ => ?_⟩
    space := .refl _
    spaceKept := fun _ _ _ hm => hm
    spaceGone := fun e he hp hid hst => ?_
    fetch := .refl _
    fetchKept := fun _ _ _ hm => hm
    fetchGone := fun e he hp hid hst => ?_ }
  · obtain ⟨e, he, hyes, rfl⟩ | ⟨he, hno⟩ := hmem.1 hx
    · obtain ⟨hp, hid⟩ := hends e hyes
      refine .inr ⟨e, he, hid, rfl, hp, hp, rfl, rfl, ?_⟩
      obtain hst | ⟨hst, -⟩ := hquiet e he hp hid
      · exact .inl ⟨hst, hst⟩
      · exact .inr ⟨.inr hst, hst, rfl⟩
    · by_cases hk : x.port ≠ p ∨ x.id ∈ X
      · exact .inl ⟨he, hk⟩
      · obtain ⟨hp, hid⟩ := not_or.1 hk
        have hp := not_not.1 hp
        refine .inr ⟨x, he, hid, rfl, hp, hp, rfl, rfl, ?_⟩
        obtain hst | ⟨hst, hcur⟩ := hquiet x he hp hid
        · exact .inl ⟨hst, hst⟩
        · exact .inr ⟨.inr hst, hst, hcur⟩
  · by_contra hyes
    obtain ⟨hp, hid⟩ := hends e (by simpa using hyes)
    exact hk.elim (fun hne => hne hp) hid
  · obtain ⟨x, hx, hxid, -, hxst⟩ := hstays e he
    refine ⟨x, hx, hxid, hxst.trans ?_⟩
    obtain hbad | ⟨hst, -⟩ := hquiet e he hp hid
    · rw [hbad] at hst; obtain hst | hst := hst <;> cases hst
    · exact hst
  · show (portOf s p).flush = none
    cases hf : (portOf s p).flush with
    | none => rfl
    | some f =>
      obtain ⟨e, he, hid, hp, hst⟩ := h.flush p f hf
      obtain hbad | ⟨hbad, -⟩ := hquiet e he hp hid <;> rw [hst] at hbad <;> cases hbad
  · obtain ⟨x, hx, hxid, hxp, hxst⟩ := hstays e he
    exact ⟨x, hx, hxid, hxp.trans hp, hxst.trans hst⟩
  · obtain hbad | ⟨hbad, -⟩ := hquiet e he hp hid <;> rw [hst] at hbad <;> cases hbad
  · obtain hbad | ⟨hbad, -⟩ := hquiet e he hp hid <;> rw [hst] at hbad <;> cases hbad

theorem Agrees.openedFrom (h : Agrees F s₀ [e.id] s) : Thins e.port [e.id] s (openedFrom e s) := by
  unfold Machine.openedFrom
  split
  case isTrue => exact h.teardown (fun id => by rw [List.mem_singleton, Option.some.injEq, eq_comm])
  case isFalse hs =>
    refine h.sessionless hs (fun d hd => ?_)
    obtain ⟨hp, -, hid⟩ := endsWith_iff.1 hd
    exact ⟨hp, fun hm => hid (by rw [List.mem_singleton.1 hm])⟩

/-! ### Attention -/

theorem Agrees.sessionEnded (h : Agrees F s₀ [] s) : Thins p [] s (sessionEnded p s) := by
  unfold Machine.sessionEnded
  split
  case isTrue => exact h.teardown (by simp)
  case isFalse hs =>
    have := h.sessionless hs (ends := fun _ => false) (fun _ hd => nomatch hd)
    simpa using this

theorem Agrees.attend (h : Agrees F s₀ [] s) : Thins p [] s (attend p s) := by
  have hu : Thins p [] s (Machine.sessionEnded p s) := h.sessionEnded
  have hframe := attend_lessTraffic p s
  have hspace : (Machine.attend p s).spaceWait = (Machine.sessionEnded p s).spaceWait := spaceWait_of_lessTraffic hframe
  have hfetch : (Machine.attend p s).fetchWait = (Machine.sessionEnded p s).fetchWait := fetchWait_of_lessTraffic hframe
  have hop : servedEntry (Machine.attend p s) = servedEntry (Machine.sessionEnded p s) := by
    simp only [servedEntry, op_of_lessTraffic hframe]
  refine {
    table := attend_shrinks p s
    entries := fun x hx => hu.entries x (mem_attend.1 hx).1
    keeps := fun e he hk => mem_attend.2 ⟨hu.keeps e he hk, .inl (hk.resolve_right List.not_mem_nil)⟩
    served := hop.trans hu.served
    orphans := fun e he hp hst hid => ?_
    ports := fun q hq => attend_portOf_other p s hq
    flush := ?_
    held := .inr ⟨by rw [attend_portOf_same], fun x hx hp _ hst => ?_⟩
    space := hspace ▸ hu.space
    spaceKept := fun e he hp hm => hspace ▸ hu.spaceKept e he hp hm
    spaceGone := fun e he hp hid hst => hspace ▸ hu.spaceGone e he hp hid hst
    fetch := hfetch ▸ hu.fetch
    fetchKept := fun e he hp hm => hfetch ▸ hu.fetchKept e he hp hm
    fetchGone := fun e he hp hid hst => hfetch ▸ hu.fetchGone e he hp hid hst }
  · obtain ⟨x, hx, hxid, hxst⟩ := hu.orphans e he hp hst hid
    exact ⟨x, mem_attend.2 ⟨hx, .inr hxst⟩, hxid, hxst⟩
  · have hflush := hu.flush
    rw [sessionEnded_portOf_same] at hflush
    rw [attend_portOf_same]
    exact hflush
  · obtain hne | ho := (mem_attend.1 hx).2
    · exact hne hp
    · rw [ho] at hst
      cases hst

end

end Sys2Proof.Machine

/-! SUPPORT. Notices, marks, acceptances, the retry pass and the controller's choice keep table and lists in agreement. -/

namespace Sys2Proof.Machine

section
variable {F : PortId → Prop} {s₀ s t : State} {X : List Nat} {id : Nat} {e : Entry} {p : PortId}

theorem servedEntry_congr (h : t.op = s.op) : servedEntry t = servedEntry s := by rw [servedEntry, servedEntry, h]

theorem forPorts_keeps {P : State → Prop} {f : PortId → State → State} (hf : ∀ p u, P u → P (f p u)) (hs : P s) :
    P (forPorts f s) := hf _ _ (hf _ _ (hf _ _ (hf _ _ hs)))

/-! ### Notices -/

theorem Agrees.notify (h : Agrees F s₀ X s) (n : Notice) (p : PortId) : Agrees F s₀ X (notify n p s) := by
  unfold Machine.notify
  split
  case isFalse => exact h
  case isTrue hs =>
    refine h.changePort (fun hp => (h.frozen p hp).2 hs) (fun x => ?_) (fun x => ?_) (fun x hx => ?_) <;>
      unfold offerNotice <;> split <;> first | rfl | exact hx

theorem Agrees.reportChange (h : Agrees F s₀ X s) (p : PortId) (r : Nat) (v : Half) (kind : ChangeKind) :
    Agrees F s₀ X (reportChange p r v kind s) :=
  forPorts_keeps (P := Agrees F s₀ X) (fun q u hu => by split; exacts [hu.notify _ q, hu]) h

theorem Agrees.reportFault (h : Agrees F s₀ X s) (r : Nat) (v : Half) (origins : PortSet) :
    Agrees F s₀ X (reportFault r v origins s) :=
  forPorts_keeps (P := Agrees F s₀ X) (fun q u hu => by split; exacts [hu.notify _ q, hu]) h

theorem Agrees.announce (h : Agrees F s₀ X s) : Agrees F s₀ X (announce s) :=
  forPorts_keeps (P := Agrees F s₀ X) (fun _ _ hu => hu.notify _ _) h

theorem Agrees.notifyExpired (h : Agrees F s₀ X s) (l : List (Nat × Claim)) : Agrees F s₀ X (notifyExpired l s) := by
  induction l generalizing s with
  | nil => exact h
  | cons c rest ih => exact ih (h.notify _ _)

/-! ### Marks -/

theorem flushEntry_some {e : Entry} (h : flushEntry s p = some e) : e ∈ s.table ∧ e.port = p ∧ e.state = .waitFlush := by
  have := List.find?_some h
  simp only [Bool.and_eq_true, beq_iff_eq] at this
  exact ⟨List.mem_of_find?_eq_some h, this⟩

/-- An open FLUSH record counts on (R41). -/
theorem Agrees.recount (h : Agrees F s₀ [] s) {d : Entry} (hd : d ∈ s.table) (hst : d.state = .waitFlush) {f g : FlushRecord}
    (hf : (portOf s d.port).flush = some f) (htag : g.tag = f.tag) :
    Agrees F s₀ [] (updPort d.port (flushOpened g) s) := by
  have hp : ¬F d.port := fun hp =>
    (h.frozen _ hp).2 ((h.fits d hd List.not_mem_nil).session (by rw [hst]; decide) (by rw [hst]; decide))
  have hsame : portOf (updPort d.port (flushOpened g) s) d.port = flushOpened g (portOf s d.port) := portOf_updPort_same _ _ _
  have hother : ∀ {q}, q ≠ d.port → portOf (updPort d.port (flushOpened g) s) q = portOf s q := fun hq =>
    portOf_updPort_other _ _ _ _ hq
  have hports : ∀ q, (portOf (updPort d.port (flushOpened g) s) q).held = (portOf s q).held ∧
      (portOf (updPort d.port (flushOpened g) s) q).session = (portOf s q).session := fun q => by
    by_cases hq : q = d.port
    · rw [hq, hsame]; exact ⟨rfl, rfl⟩
    · rw [hother hq]; exact ⟨rfl, rfl⟩
  have hoff : AgreeOff d.id s (updPort d.port (flushOpened g) s) :=
    ⟨fun _ _ => .rfl, fun _ _ => .rfl, fun _ _ => .rfl, fun _ _ => .rfl, fun q j _ => by rw [(hports q).1],
      fun q hq => (hports q).2.trans hq,
      fun x hx hid hxst => by rw [hother (fun hp => hid (congrArg Entry.id (h.flushOnce.eq hx hd hp hxst hst)))]⟩
  refine h.at hoff (fun _ _ => .rfl) h.once h.table h.spaceOnce h.fetchOnce (fun q => by rw [(hports q).1]; exact h.heldOnce q)
    h.flushOnce (fun q hq => hother (fun heq => hp (heq ▸ hq))) (fun x hx hid _ => ?_) (fun hm => absurd hm List.not_mem_nil)
    (h.space _) (h.fetch _) (h.flight _) (fun q hm => h.held q _ ((hports q).1 ▸ hm)) (fun q f' hf' => ?_)
  · obtain rfl := h.table.eq_of_id hx hd hid
    obtain ⟨⟨hnone, hcur, hs⟩, f', hf', hxtag⟩ := (fits_waitFlush hst).1 (h.fits x hx List.not_mem_nil)
    rw [hf] at hf'
    cases hf'
    exact (fits_waitFlush hst).2 ⟨⟨hnone, hcur, (hports _).2.trans hs⟩, g, by rw [hsame]; rfl, hxtag.trans htag.symm⟩
  · by_cases hq : q = d.port
    · exact ⟨d, hd, List.not_mem_nil, hq.symm, hst⟩
    · rw [hother hq] at hf'
      exact h.flush q f' hf'

theorem Agrees.dropMarks (h : Agrees F s₀ [] s) (p : PortId) (n : Nat) (fault : Bool) :
    Agrees F s₀ [] (dropMarks p n fault s) := by
  by_cases hn : n = 0
  · subst hn
    rw [dropMarks_zero]
    exact h
  cases hf : (portOf s p).flush with
  | none => rw [dropMarks_closed hf]; exact h
  | some f =>
    obtain ⟨d, hd, -, rfl, hst⟩ := h.flush p f hf
    by_cases hlt : n < f.count
    · rw [dropMarks_counts hf hn hlt]
      exact h.recount hd hst hf (g := { f with count := f.count - n, fault := f.fault || fault }) rfl
    · cases he : flushEntry s d.port with
      | none =>
        have := List.find?_eq_none.1 he d hd
        simp [hst] at this
      | some x =>
        obtain ⟨hx, hxp, hxst⟩ := flushEntry_some he
        rw [dropMarks_last hf hn (Nat.not_lt.1 hlt) he, ← hxp]
        exact (h.closeFlush hx List.not_mem_nil hxst).answer _

theorem Agrees.dropAllMarks (h : Agrees F s₀ [] s) (removed : List QueueEntry) (fault : Bool) :
    Agrees F s₀ [] (dropAllMarks removed fault s) :=
  forPorts_keeps (P := Agrees F s₀ []) (fun _ _ hu => hu.dropMarks _ _ _) h

/-! ### Changes -/

theorem Agrees.modeAfterAcceptance (h : Agrees F s₀ X s) : Agrees F s₀ X (modeAfterAcceptance s) := by
  obtain ⟨m, hm⟩ := modeAfterAcceptance_eq s
  rw [hm]
  exact h.of_eq rfl rfl rfl rfl rfl

theorem Agrees.modeAfterRemoval (h : Agrees F s₀ X s) : Agrees F s₀ X (modeAfterRemoval s) := by
  obtain ⟨m, hm⟩ := modeAfterRemoval_eq s
  rw [hm]
  exact h.of_eq rfl rfl rfl rfl rfl

theorem Agrees.placeChange (h : Agrees F s₀ X s) (p : PortId) (r : Nat) (change : Change) (v : Half) (coalesced : Bool) :
    Agrees F s₀ X (placeChange p r change v coalesced s) := by
  unfold Machine.placeChange
  exact Agrees.modeAfterAcceptance (h.of_eq rfl rfl rfl rfl rfl)

theorem Agrees.acceptChange (h : Agrees F s₀ (e.id :: X) s) (coalesced : Bool) :
    Agrees F s₀ X (acceptChange e coalesced s) := ((h.placeChange _ _ _ _ _).answer _).reportChange _ _ _ _

theorem Agrees.settleChange (h : Agrees F s₀ (e.id :: X) s) {d : Decision} (hd : d ≠ .wait) :
    Agrees F s₀ X (settleChange e d s) := by
  cases d with
  | refused code => exact h.answer _
  | merge => exact h.acceptChange true
  | append => exact h.acceptChange false
  | wait => exact absurd rfl hd

theorem entryOf_id (h : entryOf s id = some e) : e.id = id := of_decide_eq_true (List.find?_some h :)

theorem mem_of_entryOf (h : entryOf s id = some e) : e ∈ s.table := List.mem_of_find?_eq_some h

theorem Agrees.leaveWaiters (h : Agrees F s₀ X s) (hid : id ∈ s.spaceWait) : Agrees F s₀ (id :: X) (leaveWaiters id s) :=
  h.leaveSpace hid (h.spaceOnce.filter _) (by simp) (fun j hj => by simp [hj])

theorem Agrees.retryWalk {l : List Nat} (h : Agrees F s₀ [] s) (hl : ∀ id ∈ l, id ∈ s.spaceWait) (hn : l.Nodup)
    (blocked : PortSet) : Agrees F s₀ [] (retryWalk l blocked s) := by
  induction l generalizing s blocked with
  | nil => exact h
  | cons id rest ih =>
    obtain ⟨hno, hrest⟩ := List.nodup_cons.1 hn
    have hids : ∀ j ∈ rest, j ∈ s.spaceWait := fun j hj => hl j (List.mem_cons_of_mem _ hj)
    cases he : entryOf s id with
    | none =>
      rw [Machine.retryWalk, he]
      exact ih h hids hrest blocked
    | some e =>
      cases hb : inPorts blocked e.port with
      | true =>
        rw [retryWalk_blocked he hb]
        exact ih h hids hrest blocked
      | false =>
        by_cases hd : decisionOf e s = .wait
        · rw [retryWalk_waits he hb hd]
          exact ih h hids hrest _
        · rw [retryWalk_decided he hb rfl hd]
          obtain rfl := entryOf_id he
          refine ih ((h.leaveWaiters (hl _ List.mem_cons_self)).settleChange hd) (fun j hj => ?_) hrest blocked
          rw [settleChange_spaceWait]
          exact List.mem_filter.2 ⟨hids j hj, by simpa using fun heq : j = e.id => hno (heq ▸ hj)⟩

theorem Agrees.retryPass (h : Agrees F s₀ [] s) : Agrees F s₀ [] (retryPass s) :=
  h.retryWalk (fun _ hid => hid) h.spaceOnce _

theorem Agrees.afterRemoval (h : Agrees F s₀ [] s) (removed : List QueueEntry) (fault : Bool) :
    Agrees F s₀ [] (Machine.retryPass (Machine.dropAllMarks removed fault s)) := (h.dropAllMarks removed fault).retryPass

/-! ### The controller's choice -/

theorem Agrees.takeRead (h : Agrees F s₀ X s) {rest : List Nat} (hw : s.fetchWait = id :: rest) :
    Agrees F s₀ (id :: X) (setFetchWait rest s) := by
  have honce := h.fetchOnce
  rw [hw] at honce
  obtain ⟨hno, hrest⟩ := List.nodup_cons.1 honce
  exact h.leaveFetch (by rw [hw]; exact List.mem_cons_self) hrest hno (fun j hj => by rw [hw, mem_cons_off rest hj])

theorem Agrees.choiceMove (h : Agrees F s₀ [] s) (hm : ChoiceMove s t) : Agrees F s₀ [] t := by
  have hidle : s.op = none → servedEntry s = none := fun hop => by rw [servedEntry, hop]
  cases hm with
  | @readLost id rest hs hw he =>
    obtain ⟨-, e, hmem, rfl, -⟩ := h.fetch id (by rw [hw]; exact List.mem_cons_self)
    rw [entryOf_of_mem h.table hmem] at he
    cases he
  | readAnswered hs hw he a => exact (h.takeRead hw).answer a
  | @fetchStarts id rest e hs hw he hmode =>
    have hfound := h.fetch id (by rw [hw]; exact List.mem_cons_self)
    obtain rfl := entryOf_id he
    have hst := hfound.entry h.table (mem_of_entryOf he)
    obtain ⟨⟨-, hcur, hsession⟩, hr, -⟩ := (fits_waitFetch hst).1 (h.fits e (mem_of_entryOf he) List.not_mem_nil)
    exact (h.takeRead hw).startFetch ⟨mem_of_entryOf he, hcur, by rwa [setFetchWait_portOf]⟩ hr (hidle hs.idle)
  | programStarts hs he hmode =>
    unfold startProgram
    rw [he]
    exact h.of_eq rfl rfl rfl rfl (by rw [hidle hs.idle]; rfl)
  | scanStarts hs hmode ho hn => exact h.of_eq rfl rfl rfl rfl (by rw [hidle hs.idle]; rfl)
  | markerStarts hop hr => exact h.of_eq rfl rfl rfl rfl (by rw [hidle hop]; rfl)
  | programAgain hop hr he => exact h.of_eq rfl rfl rfl rfl (by rw [hidle hop]; rfl)
  | cleanBegins hpart hq hop hseq => exact h.of_eq rfl rfl rfl rfl rfl

theorem Agrees.settle (h : Agrees F s₀ [] s) : Agrees F s₀ [] (settle s) :=
  settle_keeps (fun _ _ hu hm => hu.choiceMove hm) h

end

end Sys2Proof.Machine

/-! SUPPORT. The completions, the power manager, the requests and the link commands keep table and lists in agreement. -/

namespace Sys2Proof.Machine

section
variable {F : PortId → Prop} {s₀ s t : State} {X : List Nat} {id : Nat} {e : Entry} {p : PortId}

/-! ### Completions -/

/-- The fetch of an ORPHAN ends, and the ORPHAN is freed (R53). -/
theorem Agrees.freeOrphan (h : Agrees F s₀ X s) (hserved : servedEntry s = some e.id) (he : e ∈ s.table)
    (ho : e.state = .orphan) : Agrees F s₀ X (freeEntry e.id { s with op := none }) := by
  have hentry : ∀ {so : Entry → Prop}, Named X s e.id so → so e := fun hn => hn.entry h.table he
  have hX : e.id ∉ X := (h.flight _ hserved).1
  have hport : ∀ q, portOf (freeEntry e.id { s with op := none }) q = portOf s q := fun q => by cases q <;> rfl
  have hoff : AgreeOff e.id s (freeEntry e.id { s with op := none }) := by
    refine ⟨fun d hd => by rw [mem_freeEntry]; exact and_iff_left hd, fun _ _ => .rfl, fun _ _ => .rfl, fun j hj => ?_,
      fun q _ _ => by rw [hport], fun q hq => by rwa [hport], fun _ _ _ _ => by rw [hport]⟩
    rw [hserved]
    exact ⟨nofun, fun hm => absurd (Option.some.inj hm).symm hj⟩
  refine h.at hoff (fun _ _ => .rfl) h.once (h.table.shrinks (.filter s.table _)) h.spaceOnce h.fetchOnce
    (fun q => by rw [hport]; exact h.heldOnce q) (h.flushOnce.filter _) (fun q _ => hport q)
    (fun d hd hid => absurd hid (mem_freeEntry.1 hd).2) (fun hm => absurd hm hX) (fun hm => ?_) (fun hm => ?_) nofun
    (fun q hm => ?_) (fun q g hg => ?_)
  · have := hentry (h.space _ hm)
    rw [ho] at this; cases this
  · have := hentry (h.fetch _ hm)
    rw [ho] at this; cases this
  · rw [hport] at hm
    have := (hentry (h.held q _ hm)).2
    rw [ho] at this; cases this
  · rw [hport] at hg
    obtain ⟨d, hd, hdX, hdp, hdst⟩ := h.flush q g hg
    exact ⟨d, mem_freeEntry.2 ⟨hd, fun hid => by
      obtain rfl := h.table.eq_of_id hd he hid
      rw [ho] at hdst; cases hdst⟩, hdX, hdp, hdst⟩

theorem Agrees.applyCheck (h : Agrees F s₀ X s) (r : Nat) (good : Bool) : Agrees F s₀ X (applyCheck r good s) := by
  unfold Machine.applyCheck
  split
  · exact h
  · exact h.of_eq rfl rfl rfl rfl rfl

theorem Agrees.fetchDone (h : Agrees F s₀ [] s) {slot : Nat} (hop : s.op = some (.fetch id slot)) (he : entryOf s id = some e)
    (image : List Byte) : Agrees F s₀ [] (fetchDone e image s) := by
  obtain rfl := entryOf_id he
  have hserved : servedEntry s = some e.id := servedEntry_iff.2 ⟨slot, hop⟩
  unfold Machine.fetchDone
  dsimp only
  split
  case isTrue ho =>
    unfold Machine.applyCheck
    split
    · exact h.freeOrphan hserved (mem_of_entryOf he) ho
    · exact (h.freeOrphan hserved (mem_of_entryOf he) ho).of_eq rfl rfl rfl rfl rfl
  case isFalse ho => exact ((h.leaveFlight hserved (mem_of_entryOf he) ho).applyCheck _ _).answer _

/-- The operation in flight ends, or another takes its place; neither is a fetch. -/
theorem Agrees.endOp (h : Agrees F s₀ X s) (hop : servedEntry s = none) {op : Option ArrayOp}
    (hnew : servedEntry { s with op := op } = none) : Agrees F s₀ X { s with op := op } :=
  h.of_eq rfl rfl rfl rfl (hnew.trans hop.symm)

theorem Agrees.retire (h : Agrees F s₀ X s) (l : Location) : Agrees F s₀ X (retire l s) := by
  cases l with
  | primary => exact h
  | spare n => exact h.of_eq rfl rfl rfl rfl rfl

theorem Agrees.retireReserved (h : Agrees F s₀ X s) (r : Nat) (l : Location) : Agrees F s₀ X (retireReserved r l s) := by
  unfold Machine.retireReserved
  split
  · exact h
  · exact h.retire l

theorem Agrees.dropTarget (h : Agrees F s₀ X s) (e : QueueEntry) : Agrees F s₀ X (dropTarget e s) := by
  unfold Machine.dropTarget
  split
  · exact h.retireReserved _ _
  · exact h

theorem Agrees.setRow (h : Agrees F s₀ X s) (r : Nat) (row : Row) : Agrees F s₀ X (setRow r row s) :=
  h.of_eq rfl rfl rfl rfl rfl

theorem Agrees.setQueue (h : Agrees F s₀ X s) (q : List QueueEntry) : Agrees F s₀ X { s with queue := q } :=
  h.of_eq rfl rfl rfl rfl rfl

theorem Agrees.commit (h : Agrees F s₀ [] s) (e : QueueEntry) : Agrees F s₀ [] (commit e s) := by
  have hretired : Agrees F s₀ [] (if e.target.getD (rowOf s e.record).location = (rowOf s e.record).location then s
      else Machine.retire (rowOf s e.record).location s) := by
    split
    · exact h
    · exact h.retire _
  exact ((hretired.setRow _ _).setQueue _).modeAfterRemoval.afterRemoval [e] false

theorem Agrees.faultRecord (h : Agrees F s₀ [] s) (e : QueueEntry) : Agrees F s₀ [] (faultRecord e s) :=
  (((h.setRow _ _).setQueue _).modeAfterRemoval.reportFault _ _ _).afterRemoval _ true

theorem Agrees.programFailed (h : Agrees F s₀ [] s) (e : QueueEntry) : Agrees F s₀ [] (programFailed e s) := by
  unfold Machine.programFailed
  split
  · exact h.setQueue _
  · split
    · rw [remap_eq]
      exact (h.dropTarget e).of_eq rfl rfl rfl rfl rfl
    · rw [giveUp_eq]
      exact (h.dropTarget e).faultRecord e

theorem Agrees.programDone (h : Agrees F s₀ [] s) {slot : Nat} (hop : s.op = some (.program slot)) (e : QueueEntry) (got : Cells) :
    Agrees F s₀ [] (programDone e slot got s) := by
  have hdone : Agrees F s₀ [] (writeSlot slot (cellsLeft (entryImage e) got) { s with op := none }) :=
    h.of_eq rfl rfl rfl rfl (by simp [servedEntry, hop])
  unfold Machine.programDone
  dsimp only
  split
  · exact hdone.commit e
  · exact hdone.programFailed e

theorem Agrees.scanFetchDone (h : Agrees F s₀ [] s) {slot : Nat} {withdrawn : Bool}
    (hop : s.op = some (.scanFetch slot withdrawn)) (got : Cells) : Agrees F s₀ [] (scanFetchDone slot withdrawn got s) := by
  have hframe := scanFetchDone_frame slot withdrawn got s
  refine h.of_eq (congrArg State.ports hframe :) (congrArg State.table hframe :) (congrArg State.spaceWait hframe :)
    (congrArg State.fetchWait hframe :) ?_
  have : (Machine.scanFetchDone slot withdrawn got s).op = none := (congrArg State.op hframe :)
  simp [servedEntry, this, hop]

/-! ### The power manager -/

theorem Agrees.announceOf (h : Agrees F s₀ X s) (hports : t.ports = s.ports) (htable : t.table = s.table)
    (hspace : t.spaceWait = s.spaceWait) (hfetch : t.fetchWait = s.fetchWait) (hop : t.op = s.op) :
    Agrees F s₀ X (Machine.announce t) := (h.of_eq hports htable hspace hfetch (servedEntry_congr hop)).announce

theorem Agrees.markerDone (h : Agrees F s₀ X s) (ok : Bool) : Agrees F s₀ X (markerDone ok s) := by
  unfold Machine.markerDone
  split
  · unfold dirtyDone
    split
    · exact h.announceOf rfl rfl rfl rfl rfl
    split
    · exact h.announceOf rfl rfl rfl rfl rfl
    split
    · exact h.of_eq rfl rfl rfl rfl rfl
    · exact h.announceOf rfl rfl rfl rfl rfl
  · unfold cleanDone
    split
    · split
      · exact h.announceOf rfl rfl rfl rfl rfl
      split
      · exact h.of_eq rfl rfl rfl rfl rfl
      · exact h.announceOf rfl rfl rfl rfl rfl
    · exact h.of_eq rfl rfl rfl rfl rfl
  · exact h

theorem Agrees.permuted {Y : List Nat} (h : Agrees F s₀ X s) (hXY : Y.Perm X) : Agrees F s₀ Y s :=
  h.perm (fun _ => hXY.mem_iff) (hXY.nodup_iff.2 h.once)

/-- The space waiters leave their list together. -/
theorem Agrees.leaveAllSpace {l : List Nat} (h : Agrees F s₀ X s) (hw : s.spaceWait = l) :
    Agrees F s₀ (l ++ X) { s with spaceWait := [] } := by
  induction l generalizing s X with
  | nil => exact h.of_eq rfl rfl hw.symm rfl rfl
  | cons id rest ih =>
    have honce := h.spaceOnce
    rw [hw] at honce
    obtain ⟨hno, hrest⟩ := List.nodup_cons.1 honce
    have hleft : Agrees F s₀ (id :: X) { s with spaceWait := rest } :=
      h.leaveSpace (by rw [hw]; exact List.mem_cons_self) hrest hno (fun j hj => by rw [hw, mem_cons_off rest hj])
    exact (ih hleft rfl).permuted List.perm_middle.symm

/-- The READs leave the fetch waiting list together. -/
theorem Agrees.leaveAllFetch {l : List Nat} (h : Agrees F s₀ X s) (hw : s.fetchWait = l) :
    Agrees F s₀ (l ++ X) (setFetchWait [] s) := by
  induction l generalizing s X with
  | nil => exact h.of_eq rfl rfl rfl hw.symm rfl
  | cons id rest ih => exact ((ih (h.takeRead hw) rfl).permuted List.perm_middle.symm).of_eq rfl rfl rfl rfl rfl

theorem Agrees.refuseAll {l : List Nat} (h : Agrees F s₀ (l ++ X) s) : Agrees F s₀ X (refuseAll l s) := by
  induction l generalizing s with
  | nil => exact h
  | cons id rest ih =>
    obtain ⟨e, he, rfl, -⟩ := h.exempt id List.mem_cons_self
    rw [Machine.refuseAll, entryOf_of_mem h.table he]
    exact ih (h.answer _)

theorem Agrees.holdupFromRun (h : Agrees F s₀ X s) : Agrees F s₀ X (holdupFromRun s) := by
  have hentered : Agrees F s₀ X (enterHoldup s) := h.announceOf rfl rfl rfl rfl rfl
  have hwaiters : Agrees F s₀ X (refuseWaiters (enterHoldup s)) := (hentered.leaveAllSpace rfl).refuseAll
  exact (hwaiters.leaveAllFetch rfl).refuseAll

theorem servedEntry_withdrawScan (s : State) : servedEntry { s with op := withdrawScan s.op } = servedEntry s := by
  unfold servedEntry
  cases s.op with
  | none => rfl
  | some op => cases op <;> rfl

theorem Agrees.assertPfw (h : Agrees F s₀ X s) : Agrees F s₀ X (assertPfw s) := by
  have hlevel : Agrees F s₀ X { s with pfwAsserted := true } := h.of_eq rfl rfl rfl rfl rfl
  unfold Machine.assertPfw
  dsimp only
  split
  · exact hlevel.holdupFromRun
  · split
    · exact (h.of_eq (t := { s with pfwAsserted := true, scanOrder := false, op := withdrawScan s.op, partState := .parked })
        rfl rfl rfl rfl (servedEntry_withdrawScan s)).announce
    · exact hlevel
  all_goals exact hlevel

theorem Agrees.deassertPfw (h : Agrees F s₀ X s) : Agrees F s₀ X (deassertPfw s) := by
  have hlevel : Agrees F s₀ X { s with pfwAsserted := false } := h.of_eq rfl rfl rfl rfl rfl
  unfold Machine.deassertPfw
  dsimp only
  split
  · split
    · exact h.announceOf rfl rfl rfl rfl rfl
    · exact hlevel
  · split
    · exact h.of_eq rfl rfl rfl rfl rfl
    · exact h.of_eq rfl rfl rfl rfl rfl
  all_goals exact hlevel

/-! ### Requests -/

theorem checkArgs_change {f : RxFrame} (h : checkArgs f = none) (hk : isChange (bodyKind f.body)) (id : Nat) (p : PortId) :
    changeGood (changeOf (newEntry id p f)) = true := by
  have hkind : (newEntry id p f).kind = bodyKind f.body := rfl
  unfold changeOf
  rw [hkind]
  split
  case isTrue => rfl
  case isFalse he =>
    have hw : bodyKind f.body = kindWrite ∨ bodyKind f.body = kindWriteIf := by
      obtain hw | hw | hw := hk
      · exact .inl hw
      · exact .inr hw
      · exact absurd hw he
    have hpayload : (newEntry id p f).args.payload = f.body.drop (payloadLengthAt (bodyKind f.body) + 1) := if_pos hw
    have hgood : payloadBad f.body = false := by
      unfold checkArgs at h
      dsimp only at h
      split at h
      · cases h
      split at h
      · cases h
      split at h
      · cases h
      next hno =>
        have hyes : (bodyKind f.body == kindWrite || bodyKind f.body == kindWriteIf) = true := by
          obtain hw | hw := hw <;> simp [hw]
        simpa [hyes] using hno
    rw [hpayload]
    unfold payloadBad at hgood
    simp only [Bool.or_eq_false_iff, beq_eq_false_iff_ne, bne_eq_false_iff_eq, decide_eq_false_iff_not] at hgood
    obtain ⟨⟨hzero, hmax⟩, hlen⟩ := hgood
    simp only [changeGood, Bool.and_eq_true, decide_eq_true_eq, hlen]
    omega

theorem Agrees.changeOne (h : Agrees F s₀ [id] s) (he : e ∈ s.table) (hid : e.id = id) : ¬F e.port := by
  obtain ⟨d, hd, hdid, -, hF⟩ := h.exempt id List.mem_cons_self
  rwa [← h.table.eq_of_id hd he (hdid.trans hid.symm)]

theorem Handled.agrees {f : RxFrame} {u : State} (h : Handled (newEntry id p f) s u) (hs : Agrees F s₀ [id] s)
    (hmem : newEntry id p f ∈ s.table) (hp : Passed s p f) : Agrees F s₀ [] u := by
  have hF : ¬F p := hs.changeOne hmem rfl
  have hkind : (newEntry id p f).kind = bodyKind f.body := rfl
  have hlive : ∀ kind, (newEntry id p f).kind = kind → sessionless kind = false → Live s (newEntry id p f) :=
    fun kind hk hless => ⟨hmem, rfl, hp.session (by rw [← hkind, hk]; exact hless)⟩
  have hrecord : (newEntry id p f).args.record < Config.records := checkArgs_record hp.args
  cases h with
  | answered a => exact hs.answer a
  | readWaits hk => exact Agrees.joinFetch hs (hlive _ hk (by decide)) hrecord
  | changeWaits hk =>
    refine Agrees.joinWaiters hs (hlive _ rfl ?_) hrecord (checkArgs_change hp.args hk id p)
    obtain hk | hk | hk := hk <;> rw [hk] <;> decide
  | changed _ _ b _ => exact Agrees.acceptChange (e := newEntry id p f) hs b
  | flushOpens hk hf => exact Agrees.openFlush hs (hlive _ hk (by decide)) hf rfl
  | claimed => refine Agrees.answer (id := id) ?_ _; exact hs.of_eq rfl rfl rfl rfl rfl
  | released => refine Agrees.answer (id := id) ?_ _; exact hs.of_eq rfl rfl rfl rfl rfl
  | watched => refine Agrees.answer (id := id) ?_ _; exact hs.of_eq rfl rfl rfl rfl rfl
  | unwatched => refine Agrees.answer (id := id) ?_ _; exact hs.of_eq rfl rfl rfl rfl rfl
  | opened =>
    rw [handleOpen_eq]
    have hthin := (Agrees.openedFrom (e := newEntry id p f) hs).changePort (f := beginSession) (fun _ => rfl) (fun _ => rfl)
    exact (hs.thin hthin hF).answer _
  | closed =>
    have hanswered := hs.answer (.closed (portOf s p).epoch)
    exact hanswered.thin ((hanswered.teardown (by simp)).changePort (f := fun x => { x with session := .linkUp })
      (fun _ => rfl) (fun _ => rfl)) hF
  | statusTold =>
    exact (hs.answer (.statusInfo (statusInfoOf s p))).changePort (f := clearFrameErr) hF (fun _ => rfl) (fun _ => rfl)
      (fun _ hx => hx)

/-! ### Link commands -/

theorem Agrees.frameLeaves (h : Agrees F s₀ [] s) (hp : ¬F p) : Agrees F s₀ [] (frameLeaves p s) := by
  obtain ⟨-, heq⟩ | ⟨f, rest, -, -, heq⟩ | ⟨f, rest, id, ids, -, -, hheld, hnone, -⟩ |
    ⟨f, rest, id, ids, e, r, -, -, hheld, -, -, heq⟩ := frameLeaves_cases p s
  · rwa [heq]
  · rw [heq]
    exact h.changePort (f := dropHead rest) hp (fun _ => rfl) (fun _ => rfl) (fun _ hx => hx)
  · obtain ⟨-, e, he, rfl, -, hst⟩ := h.held p id (by rw [hheld]; exact List.mem_cons_self)
    rw [entryOf_of_mem h.table he] at hnone
    have hsome := ((fits_dispatched hst).1 (h.fits e he List.not_mem_nil)).1
    rw [show e.response = none from hnone] at hsome
    cases hsome
  · rw [heq]
    exact h.placeHeld hheld hp (f := fun x => pushTx (.response r) { dropHead rest x with held := ids }) (fun _ => rfl)
      (fun _ => rfl) (fun _ => rfl)

theorem presentNext_kept (x : Port) : (presentNext x).held = x.held ∧ (presentNext x).flush = x.flush ∧
    (presentNext x).session = x.session := by
  unfold presentNext
  split <;> exact ⟨rfl, rfl, rfl⟩

theorem Agrees.presentNext (h : Agrees F s₀ X s) (hp : ¬F p) : Agrees F s₀ X (updPort p presentNext s) :=
  h.changePort hp (fun x => (presentNext_kept x).1) (fun x => (presentNext_kept x).2.1)
    (fun x hx => (presentNext_kept x).2.2.trans hx)

theorem Agrees.linkMove (h : Agrees F s₀ [] s) {fails : Bool} (hm : LinkMove p fails s t) (hp : ¬F p) : Agrees F s₀ [] t := by
  cases hm with
  | frameSent => exact h.frameLeaves hp
  | boundary => exact h.presentNext hp
  | _ => exact h.changePort hp (fun _ => rfl) (fun _ => rfl) (fun _ hx => hx)

end

end Sys2Proof.Machine

/-! SUPPORT. Every command keeps table and lists in agreement. -/

namespace Sys2Proof.Machine

section
variable {F : PortId → Prop} {s₀ s t : State}

/-- The ports in F are those that no command but a calibration of their own reaches: ASYNC, in LINK_DOWN and with an empty
receive buffer. -/
structure Untouched (F : PortId → Prop) (s : State) (c : Instr) : Prop where
  mode    : ∀ p, F p → (portOf s p).mode = .async
  session : ∀ p, F p → (portOf s p).session = .linkDown
  buffer  : ∀ p, F p → (portOf s p).rxBuffer = []
  command : ∀ p low, F p → c ≠ .calibration p low

theorem Does.agrees {c : Instr} (h : Does s c t) (hs : Agrees F s₀ [] s) (hF : Untouched F s c) : Agrees F s₀ [] t := by
  have hlink : ∀ {p fails u}, ¬F p → LinkMoves p fails s u → Agrees F s₀ [] u := fun hp hm =>
    LinkMoves.keeps (fun _ _ hu hm => hu.linkMove hm hp) hm hs
  have hclocked : ∀ {p}, (portOf s p).mode = .clocked → ¬F p := fun hm hp => by
    rw [hF.mode _ hp] at hm
    cases hm
  have hup : ∀ {p}, (portOf s p).session ≠ .linkDown → ¬F p := fun hup hp => hup (hF.session _ hp)
  have htaken : ∀ {p last id f rest}, Takes s p id f rest → Agrees F s₀ [id] (taken p id f rest last s) :=
    fun {p last id f rest} ht => hs.taken ht (fun hp => by
      have hhead := ht.head
      rw [hF.buffer p hp] at hhead
      cases hhead) last
  cases h with
  | nothing => exact hs
  | async _ _ hu h => exact hlink (hup hu) h
  | clocked _ hm _ h => exact (hlink (hclocked hm) h).presentNext (hclocked hm)
  | selected p _ _ hm =>
    refine hs.changePort (hclocked hm) (fun x => ?_) (fun x => ?_) (fun x hx => ?_) <;> rw [select]
    · exact (presentNext_kept _).1
    · exact (presentNext_kept _).2.1
    · exact (presentNext_kept _).2.2.trans hx
  | deselected p hm =>
    refine hs.changePort (hclocked hm) (fun x => ?_) (fun x => ?_) (fun x hx => ?_) <;> rw [deselect_eq]
    exact hx
  | calibrated p low hm hdown =>
    have hp : ¬F p := fun hp => hF.command p low hp rfl
    have hports : ∀ q, q ≠ p → portOf (placeLinkup p
        (updPort p (fun x => { x with bitPeriod := some low, session := .linkUp }) s)) q = portOf s q := fun q hq => by
      rw [placeLinkup, portOf_updPort_other _ _ _ _ hq, portOf_updPort_other _ _ _ _ hq]
    have hsame : (portOf (placeLinkup p
        (updPort p (fun x => { x with bitPeriod := some low, session := .linkUp }) s)) p).held = (portOf s p).held ∧
        (portOf (placeLinkup p
        (updPort p (fun x => { x with bitPeriod := some low, session := .linkUp }) s)) p).flush = (portOf s p).flush := by
      rw [placeLinkup, portOf_updPort_same, portOf_updPort_same]
      unfold offerNotice
      split <;> exact ⟨rfl, rfl⟩
    refine hs.congr rfl rfl rfl rfl (fun q => ?_) (fun q hq => hports q (fun heq => hp (heq ▸ hq)))
    by_cases hq : q = p
    · rw [hq]
      refine ⟨hsame.1, hsame.2, fun hbad => ?_⟩
      rw [hdown] at hbad
      cases hbad
    · rw [hports q hq]
      exact ⟨rfl, rfl, id⟩
  | attended p hu => exact hs.thin hs.attend (hup hu)
  | chosen => exact hs.settle
  | refused _ ht code => exact ((htaken ht).answer _).settle
  | handled _ ht hpass hu =>
    exact (hu.agrees (htaken ht) (List.mem_append_right _ (List.mem_singleton.2 rfl)) (passed_of_dispatch hpass)).settle
  | fetched got hop he => exact (hs.fetchDone hop he _).settle
  | programmed got hop he => exact (hs.programDone hop _ got).settle
  | @fetchLost got id slot hop he =>
    obtain ⟨-, e, hmem, rfl, -⟩ := hs.flight id (servedEntry_iff.2 ⟨slot, hop⟩)
    rw [entryOf_of_mem hs.table hmem] at he
    cases he
  | programLost got hop he => exact (hs.endOp (by rw [servedEntry, hop]) rfl).settle
  | marked got hop =>
    refine (Agrees.markerDone ?_ _).settle
    exact hs.of_eq rfl rfl rfl rfl (by simp [servedEntry, hop])
  | scanned got hop => exact (hs.scanFetchDone hop got).settle
  | ticked =>
    unfold tick
    refine Agrees.notifyExpired ?_ _
    exact hs.of_eq rfl rfl rfl rfl rfl
  | asserted => exact hs.assertPfw.settle
  | deasserted => exact hs.deassertPfw.settle

theorem untouched_none (s : State) (c : Instr) : Untouched (fun _ => False) s c := ⟨nofun, nofun, nofun, nofun⟩

theorem ListsGood.does {c : Instr} (hs : ListsGood s) (h : Does s c t) : ListsGood t :=
  (h.agrees (hs.agrees (F := fun _ => False) (fun _ hp => hp.elim)) (untouched_none s c)).good

theorem ListsGood.of_empty (htable : s.table = []) (hspace : s.spaceWait = []) (hfetch : s.fetchWait = [])
    (hserved : servedEntry s = none) (hports : ∀ p, (portOf s p).held = [] ∧ (portOf s p).flush = none) : ListsGood s := by
  refine Agrees.good (F := fun _ => False) (s₀ := s) ⟨?_, List.nodup_nil, ?_, ?_, fun p => ?_, ?_, fun e he => ?_,
    fun id hid => ?_, fun id hid => ?_, fun id hid => ?_, fun p id hid => ?_, fun p f hf => ?_, fun id hid => ?_, fun _ hp => hp.elim⟩
  · refine ⟨?_, fun e he => ?_⟩
    · rw [htable]; exact List.nodup_nil
    · rw [htable] at he; cases he
  · rw [hspace]; exact List.nodup_nil
  · rw [hfetch]; exact List.nodup_nil
  · rw [(hports p).1]; exact List.nodup_nil
  · rw [FlushOnce, htable]; exact .nil
  · rw [htable] at he; cases he
  · rw [hspace] at hid; cases hid
  · rw [hfetch] at hid; cases hid
  · rw [hserved] at hid; cases hid
  · rw [(hports p).1] at hid; cases hid
  · rw [(hports p).2] at hf; cases hf
  · cases hid

theorem ListsGood.of_eq (h : ListsGood s) (hports : t.ports = s.ports) (htable : t.table = s.table)
    (hspace : t.spaceWait = s.spaceWait) (hfetch : t.fetchWait = s.fetchWait) (hop : t.op = s.op) : ListsGood t :=
  ((h.agrees (F := fun _ => False) (fun _ hp => hp.elim)).of_eq hports htable hspace hfetch (servedEntry_congr hop)).good

theorem listsGood_beginReset (h : ListsGood s) (cause : ResetEvent) (torn : Torn) : ListsGood (beginReset cause torn s) := by
  cases hr : s.resetHold with
  | none =>
    have hports : ∀ p, portOf (beginReset cause torn s) p = Port.reset (portOf s p).mode := portOf_beginReset hr cause torn
    refine .of_empty ?_ ?_ ?_ ?_ (fun p => by rw [hports]; exact ⟨rfl, rfl⟩) <;> rw [beginReset_out hr] <;> rfl
  | some r => rw [beginReset_held hr]; exact h.of_eq rfl rfl rfl rfl rfl

theorem awakened_lists (straps : Straps) (pfw : Level) (r : ResetRecord) (s : State) :
    (awakened straps pfw r s).spaceWait = [] ∧ (awakened straps pfw r s).fetchWait = [] ∧
      (awakened straps pfw r s).op = none ∧ (awakened straps pfw r s).queue = [] := by
  rw [awakened_eq]
  cases pfw <;> exact ⟨rfl, rfl, rfl, rfl⟩

theorem listsGood_endReset (straps : Straps) (pfw : Level) (r : ResetRecord) (s : State) :
    ListsGood (endReset straps pfw r s) := by
  obtain ⟨-, -, -, -, -, -, -, -, htable, -⟩ := awakened_fields straps pfw r s
  obtain ⟨hspace, hfetch, hop, -⟩ := awakened_lists straps pfw r s
  have hports : ∀ p, (portOf (awakened straps pfw r s) p).held = [] ∧ (portOf (awakened straps pfw r s) p).flush = none :=
    fun p => by
      rw [portOf_awakened, awakenedPort_reset p _ rfl]
      exact ⟨rfl, rfl⟩
  have heq : endReset straps pfw r s = settle (awakened straps pfw r s) := endReset_eq straps pfw r s
  generalize awakened straps pfw r s = u at *
  rw [heq]
  have hgood : ListsGood u := .of_empty htable hspace hfetch (by rw [servedEntry, hop]) hports
  exact (hgood.agrees (F := fun _ => False) (fun _ hp => hp.elim)).settle.good

theorem waitingListsAgree {t : State} (hs : ListsGood s) (h : step s = .next t) : ListsGood t :=
  step_keeps (P := ListsGood) (fun _ _ hs => hs.of_eq rfl rfl rfl rfl rfl) (fun _ _ _ hs _ hd => hs.does hd)
    (fun cause torn _ hs => listsGood_beginReset hs cause torn) (fun straps pfw r u _ _ => listsGood_endReset straps pfw r u) hs h

end

end Sys2Proof.Machine

/-! SUPPORT. Each FLUSH record's count is the number of its port's marks (R37). O58 is settled here. -/

namespace Sys2Proof.Machine

section
variable {s t u : State} {p : PortId}

/-! ### Steps that leave the FLUSH records and the marks -/

/-- Neither a FLUSH record nor the number of a port's marks changes. -/
structure Steady (s t : State) : Prop where
  flush : ∀ q, (portOf t q).flush = (portOf s q).flush
  marks : ∀ q, markCount q t.queue = markCount q s.queue

theorem Steady.trans (h : Steady s t) (k : Steady t u) : Steady s u :=
  ⟨fun q => (k.flush q).trans (h.flush q), fun q => (k.marks q).trans (h.marks q)⟩

theorem Steady.refl (s : State) : Steady s s := ⟨fun _ => rfl, fun _ => rfl⟩

theorem Steady.of_eq (hports : t.ports = s.ports) (hq : t.queue = s.queue) : Steady s t :=
  ⟨fun q => by rw [portOf_congr hports], fun q => by rw [hq]⟩

theorem Steady.after (h : Steady u t) (hports : u.ports = s.ports) (hq : u.queue = s.queue) : Steady s t :=
  (Steady.of_eq hports hq).trans h

theorem Steady.changePort {f : Port → Port} (hf : ∀ x, (f x).flush = x.flush) : Steady s (updPort p f s) := by
  refine ⟨fun q => ?_, fun _ => rfl⟩
  rw [portOf_updPort]
  split
  next heq => rw [hf, heq]
  next => rfl

theorem markCount_map {g : QueueEntry → QueueEntry} (q : PortId) (l : List QueueEntry)
    (hg : ∀ e, inPorts (g e).marks q = inPorts e.marks q) : markCount q (l.map g) = markCount q l := by
  induction l with
  | nil => rfl
  | cons e l ih =>
    simp only [markCount, List.map_cons, List.filter_cons, hg] at ih ⊢
    split <;> simp [ih]

theorem answer_steady (id : Nat) (a : Answer) (s : State) : Steady s (answer id a s) := by
  cases he : entryOf s id with
  | none => rw [answer, he]; exact .refl s
  | some e =>
    cases hc : canPlace (portOf s e.port) with
    | true =>
      rw [answer_of_canPlace a he hc]
      exact (Steady.changePort (p := e.port) (f := pushTx (.response ⟨e.tag, a⟩)) (fun _ => rfl)).trans (.of_eq rfl rfl)
    | false =>
      rw [answer_of_not_canPlace a he hc]
      exact (Steady.changePort (p := e.port) (f := holding id) (fun _ => rfl)).trans (.of_eq rfl rfl)

theorem offerNotice_flush (n : Notice) (x : Port) : (offerNotice n x).flush = x.flush := by
  unfold offerNotice
  split <;> rfl

theorem notify_steady (n : Notice) (p : PortId) (s : State) : Steady s (notify n p s) := by
  unfold notify
  split
  · exact .changePort (offerNotice_flush n)
  · exact .refl s

theorem Steady.forPorts {f : PortId → State → State} (hf : ∀ p u, Steady u (f p u)) (s : State) : Steady s (forPorts f s) :=
  forPorts_keeps (P := Steady s) (fun p u hu => hu.trans (hf p u)) (.refl s)

theorem announce_steady (s : State) : Steady s (announce s) := .forPorts (fun _ _ => notify_steady _ _ _) s

theorem reportChange_steady (p : PortId) (r : Nat) (v : Half) (kind : ChangeKind) (s : State) :
    Steady s (reportChange p r v kind s) :=
  Steady.forPorts (fun q u => by split; exacts [notify_steady _ q u, .refl u]) s

theorem reportFault_steady (r : Nat) (v : Half) (origins : PortSet) (s : State) : Steady s (reportFault r v origins s) :=
  Steady.forPorts (fun q u => by split; exacts [notify_steady _ q u, .refl u]) s

theorem notifyExpired_steady (l : List (Nat × Claim)) (s : State) : Steady s (notifyExpired l s) := by
  induction l generalizing s with
  | nil => exact .refl s
  | cons c l ih => exact (notify_steady _ _ s).trans (ih _)

theorem refuseAll_steady (l : List Nat) (s : State) : Steady s (refuseAll l s) := by
  induction l generalizing s with
  | nil => exact .refl s
  | cons id l ih =>
    rw [refuseAll]
    split
    · exact (answer_steady _ _ s).trans (ih _)
    · exact ih s

theorem placeChange_steady (p : PortId) (r : Nat) (change : Change) (v : Half) (coalesced : Bool) (s : State) :
    Steady s (placeChange p r change v coalesced s) := by
  obtain ⟨m, hm⟩ := modeAfterAcceptance_eq { s with queue :=
    (if coalesced then mergeChange p r change v s.queue else s.queue ++ [freshEntry p r change v]) }
  rw [placeChange, hm]
  refine ⟨fun q => rfl, fun q => ?_⟩
  show markCount q (if coalesced = true then _ else _) = _
  split
  · exact markCount_map q _ (fun e => by split <;> rfl)
  · have hno : inPorts (freshEntry p r change v).marks q = false := by cases q <;> rfl
    simp [markCount, hno]

theorem acceptChange_steady (e : Entry) (coalesced : Bool) (s : State) : Steady s (acceptChange e coalesced s) :=
  ((placeChange_steady _ _ _ _ _ s).trans (answer_steady _ _ _)).trans (reportChange_steady _ _ _ _ _)

theorem settleChange_steady (e : Entry) (d : Decision) (s : State) : Steady s (settleChange e d s) := by
  cases d with
  | refused code => exact answer_steady _ _ s
  | merge => exact acceptChange_steady e true s
  | append => exact acceptChange_steady e false s
  | wait => exact .refl s

theorem retryWalk_steady (l : List Nat) (blocked : PortSet) (s : State) : Steady s (retryWalk l blocked s) := by
  induction l generalizing blocked s with
  | nil => exact .refl s
  | cons id l ih =>
    rw [retryWalk]
    split
    · exact ih _ _
    split
    · exact ih _ _
    split
    · exact ih _ _
    · exact (Steady.after (s := s) (settleChange_steady _ _ (leaveWaiters id s)) rfl rfl).trans (ih _ _)

theorem startFirst_marks (target : QueueEntry → Location) (q : PortId) (l : List QueueEntry) :
    markCount q (startFirst target l) = markCount q l := by
  induction l with
  | nil => rfl
  | cons e l ih =>
    rw [startFirst]
    split
    · simp only [markCount, List.filter_cons]
      split <;> rfl
    · simp only [markCount, List.filter_cons] at ih ⊢
      split <;> simp [ih]

theorem ChoiceMove.steady (h : ChoiceMove s t) : Steady s t := by
  cases h with
  | readAnswered hs hw he a => exact (answer_steady _ _ (setFetchWait _ s)).after rfl rfl
  | programStarts hs he hmode =>
    rw [startProgram, he]
    exact ⟨fun _ => rfl, fun q => startFirst_marks _ q _⟩
  | _ => exact .of_eq rfl rfl

theorem settle_steady (s : State) : Steady s (settle s) :=
  settle_keeps (fun _ _ hu hm => hu.trans hm.steady) (.refl s)

theorem markerDone_steady (ok : Bool) (s : State) : Steady s (markerDone ok s) := by
  have hannounced : ∀ {u : State}, u.ports = s.ports → u.queue = s.queue → Steady s (announce u) := fun hp hq =>
    (announce_steady _).after hp hq
  unfold markerDone
  split
  · unfold dirtyDone
    split
    · exact hannounced rfl rfl
    split
    · exact hannounced rfl rfl
    split
    · exact .of_eq rfl rfl
    · exact hannounced rfl rfl
  · unfold cleanDone
    split
    · split
      · exact hannounced rfl rfl
      split
      · exact .of_eq rfl rfl
      · exact hannounced rfl rfl
    · exact .of_eq rfl rfl
  · exact .refl s

theorem holdupFromRun_steady (s : State) : Steady s (holdupFromRun s) := by
  have hentered : Steady s (enterHoldup s) := (announce_steady _).after rfl rfl
  have hwaiters : ∀ u, Steady u (refuseWaiters u) := fun u => (refuseAll_steady u.spaceWait _).after rfl rfl
  have hreads : ∀ u, Steady u (refuseReads u) := fun u => (refuseAll_steady u.fetchWait _).after rfl rfl
  exact (hentered.trans (hwaiters _)).trans (hreads _)

theorem assertPfw_steady (s : State) : Steady s (assertPfw s) := by
  unfold assertPfw
  dsimp only
  split
  · exact (holdupFromRun_steady _).after rfl rfl
  · split
    · exact (announce_steady _).after rfl rfl
    · exact .of_eq rfl rfl
  all_goals exact .of_eq rfl rfl

theorem deassertPfw_steady (s : State) : Steady s (deassertPfw s) := by
  unfold deassertPfw
  dsimp only
  split
  · split
    · exact (announce_steady _).after rfl rfl
    · exact .of_eq rfl rfl
  · split <;> exact .of_eq rfl rfl
  all_goals exact .of_eq rfl rfl

theorem fetchDone_steady (e : Entry) (image : List Byte) (s : State) : Steady s (fetchDone e image s) := by
  have hchecked : ∀ r good, Steady s (applyCheck r good { s with op := none }) := fun r good => by
    unfold applyCheck
    split <;> exact .of_eq rfl rfl
  unfold fetchDone
  dsimp only
  split
  · exact (hchecked _ _).trans (.of_eq rfl rfl)
  · exact (hchecked _ _).trans (answer_steady _ _ _)

theorem frameLeaves_steady (p : PortId) (s : State) : Steady s (frameLeaves p s) := by
  obtain ⟨-, heq⟩ | ⟨f, rest, -, -, heq⟩ | ⟨f, rest, id, ids, -, -, -, -, heq⟩ |
    ⟨f, rest, id, ids, e, r, -, -, -, -, -, heq⟩ := frameLeaves_cases p s <;> rw [heq]
  · exact .refl s
  · exact .changePort (fun _ => rfl)
  · exact .changePort (fun _ => rfl)
  · exact (Steady.changePort (f := fun x => pushTx (.response r) { dropHead rest x with held := ids }) (fun _ => rfl)).trans
      (.of_eq rfl rfl)

theorem LinkMoves.steady {fails : Bool} (h : LinkMoves p fails s t) : Steady s t := by
  refine LinkMoves.keeps (P := Steady s) (fun u v hu hm => hu.trans ?_) h (.refl s)
  cases hm with
  | frameSent => exact frameLeaves_steady p u
  | boundary => exact .changePort (fun x => (presentNext_kept x).2.1)
  | _ => exact .changePort (fun _ => rfl)

/-! ### The law -/

/-- Every FLUSH record counts its port's marks. -/
abbrev Counted (s : State) : Prop := ∀ p, FlushCounted s p

theorem Steady.counted (h : Steady s t) (hs : Counted s) : Counted t := fun p => by
  rw [FlushCounted, h.flush, h.marks]
  exact hs p

/-- Of n marks of p that have left the queue the FLUSH record does not know yet. -/
structure Owes (p : PortId) (n : Nat) (s : State) : Prop where
  openCount : ∀ f, (portOf s p).flush = some f → f.count = markCount p s.queue + n ∧ f.count ≠ 0
  closed : (portOf s p).flush = none → markCount p s.queue + n = 0

theorem flushCounted_iff : FlushCounted s p ↔ Owes p 0 s := by
  refine ⟨fun ⟨h, k⟩ => ⟨fun f hf => h f (by rw [hf]; exact List.mem_singleton.2 rfl), k⟩, fun ⟨h, k⟩ => ⟨fun f hf => ?_, k⟩⟩
  exact h f (Option.mem_toList.1 hf)

theorem Owes.of_steady {n : Nat} (h : Owes p n s) (ht : Steady s t) : Owes p n t := by
  refine ⟨fun f hf => ?_, fun hf => ?_⟩
  · rw [ht.marks]; exact h.openCount f ((ht.flush p).symm.trans hf)
  · rw [ht.marks]; exact h.closed ((ht.flush p).symm.trans hf)

theorem dropMarks_other {n : Nat} {fault : Bool} {q : PortId} (hq : q ≠ p) (s : State) :
    (portOf (dropMarks p n fault s) q).flush = (portOf s q).flush := by
  have hport : ∀ f : Port → Port, (portOf (updPort p f s) q).flush = (portOf s q).flush := fun f => by
    rw [portOf_updPort_other _ _ _ _ hq]
  unfold dropMarks
  split
  · rfl
  split
  · rfl
  split
  · split
    · rw [(answer_steady _ _ _).flush, hport]
    · exact hport _
  · exact hport _

theorem Owes.dropMarks {n : Nat} (h : Owes p n s) (fault : Bool) : Owes p 0 (dropMarks p n fault s) := by
  have hqueue : (Machine.dropMarks p n fault s).queue = s.queue := queue_of_lessTraffic (dropMarks_frame p n fault s)
  by_cases hn : n = 0
  · subst hn
    rw [dropMarks_zero]
    exact h
  cases hf : (portOf s p).flush with
  | none =>
    have := h.closed hf
    omega
  | some f =>
    obtain ⟨hcount, -⟩ := h.openCount f hf
    by_cases hlt : n < f.count
    · rw [dropMarks_counts hf hn hlt]
      have hsame : (portOf (updPort p (flushOpened { f with count := f.count - n, fault := f.fault || fault }) s) p).flush =
          some { f with count := f.count - n, fault := f.fault || fault } := by rw [portOf_updPort_same]; rfl
      refine ⟨fun g hg => ?_, fun hg => ?_⟩
      · cases hsame.symm.trans hg
        show f.count - n = markCount p s.queue + 0 ∧ f.count - n ≠ 0
        omega
      · cases hsame.symm.trans hg
    · have hnone : (portOf (Machine.dropMarks p n fault s) p).flush = none := by
        have hclosed : (portOf (updPort p flushClosed s) p).flush = none := by rw [portOf_updPort_same]; rfl
        unfold Machine.dropMarks
        rw [if_neg hn, hf]
        dsimp only
        rw [if_pos (Nat.not_lt.1 hlt)]
        split
        · rw [(answer_steady _ _ _).flush]; exact hclosed
        · exact hclosed
      refine ⟨fun g hg => ?_, fun _ => ?_⟩
      · rw [hnone] at hg; cases hg
      · rw [hqueue]
        omega

/-- Marked entries have left the queue, and every FLUSH record is told. -/
theorem dropAllMarks_counted {removed : List QueueEntry} (h : ∀ q, Owes q (markCount q removed) s) (fault : Bool) :
    Counted (dropAllMarks removed fault s) := by
  have hother : ∀ {q r n u}, Owes q n u → q ≠ r → Owes q n (dropMarks r (markCount r removed) fault u) := fun {q r n u} hu hq => by
    have hqueue := queue_of_lessTraffic (dropMarks_frame r (markCount r removed) fault u)
    refine ⟨fun f hf => ?_, fun hf => ?_⟩
    · rw [hqueue]; exact hu.openCount f ((dropMarks_other hq u).symm.trans hf)
    · rw [hqueue]; exact hu.closed ((dropMarks_other hq u).symm.trans hf)
  intro q
  rw [flushCounted_iff]
  cases q with
  | p0 => exact hother (hother (hother ((h .p0).dropMarks fault) (by decide)) (by decide)) (by decide)
  | p1 => exact hother (hother ((hother (h .p1) (by decide)).dropMarks fault) (by decide)) (by decide)
  | p2 => exact hother ((hother (hother (h .p2) (by decide)) (by decide)).dropMarks fault) (by decide)
  | p3 => exact (hother (hother (hother (h .p3) (by decide)) (by decide)) (by decide)).dropMarks fault

theorem afterRemoval_counted {removed : List QueueEntry} (h : ∀ q, Owes q (markCount q removed) s) (fault : Bool) :
    Counted (retryPass (dropAllMarks removed fault s)) :=
  (retryWalk_steady _ _ _).counted (dropAllMarks_counted h fault)

end

end Sys2Proof.Machine

/-! SUPPORT. What leaves the queue takes its marks along, and what else changes marks. O58 is settled here. -/

namespace Sys2Proof.Machine

section
variable {s t u : State} {p : PortId}

/-! ### Removals -/

theorem filter_eq_toList_find {α : Type} {l : List α} {f : α → Bool}
    (h : l.Pairwise (fun a b => ¬(f a = true ∧ f b = true))) : l.filter f = (l.find? f).toList := by
  induction l with
  | nil => rfl
  | cons a l ih =>
    obtain ⟨ha, hl⟩ := List.pairwise_cons.1 h
    rw [List.filter_cons, List.find?_cons]
    cases hfa : f a with
    | false => simpa using ih hl
    | true =>
      have : l.filter f = [] := List.filter_eq_nil_iff.2 (fun b hb hfb => ha b hb ⟨hfa, hfb⟩)
      simp [this]

theorem markCount_split (q : PortId) (l : List QueueEntry) (f : QueueEntry → Bool) :
    markCount q l = markCount q (l.filter f) + markCount q (l.filter (fun x => !f x)) := by
  rw [markCount, List.length_eq_length_filter_add f, markCount, markCount]
  simp only [List.filter_filter, Bool.and_comm]

theorem QueueGood.filter_phase (h : QueueGood s) (r : Nat) (phase : Phase) :
    s.queue.filter (fun e => e.record == r && e.phase == phase) =
      (s.queue.find? (fun e => e.record == r && e.phase == phase)).toList :=
  filter_eq_toList_find (h.apart.imp (fun {a b} hab ⟨ha, hb⟩ => by
    simp only [Bool.and_eq_true, beq_iff_eq] at ha hb
    exact hab.1 ⟨ha.1.trans hb.1.symm, ha.2.trans hb.2.symm⟩))

theorem QueueGood.programmingEntry (h : QueueGood s) {e : QueueEntry} (he : inProgramming s = some e) :
    programmingEntry s e.record = some e := by
  have hmem := List.mem_of_find?_eq_some he
  have hphase := phase_of_inProgramming he
  cases hf : Machine.programmingEntry s e.record with
  | none => exact absurd (List.find?_eq_none.1 hf e hmem) (by simp [hphase])
  | some x =>
    have hx := List.find?_some hf
    simp only [Bool.and_eq_true, beq_iff_eq] at hx
    rw [h.eq_inProgramming he (List.mem_of_find?_eq_some hf) hx.2]

theorem QueueGood.marks_commit (h : QueueGood s) {e : QueueEntry} (he : inProgramming s = some e) (q : PortId) :
    markCount q s.queue =
      markCount q (s.queue.filter (fun x => !(x.record == e.record && x.phase == .programming))) + markCount q [e] := by
  rw [markCount_split q s.queue (fun x => x.record == e.record && x.phase == .programming), h.filter_phase, Nat.add_comm]
  have := h.programmingEntry he
  unfold Machine.programmingEntry at this
  rw [this]
  rfl

theorem QueueGood.marks_fault (h : QueueGood s) {e : QueueEntry} (he : inProgramming s = some e) (q : PortId) :
    markCount q s.queue = markCount q (s.queue.filter (fun x => x.record != e.record)) +
      markCount q (e :: (pendingEntry s e.record).toList) := by
  have hprogramming := h.programmingEntry he
  unfold Machine.programmingEntry at hprogramming
  have hpending : s.queue.filter (fun x => x.record == e.record && x.phase == .pending) = (pendingEntry s e.record).toList :=
    h.filter_phase e.record .pending
  have hrecord : (s.queue.filter (fun x => x.record == e.record)).filter (fun x => x.phase == .programming) = [e] := by
    rw [List.filter_filter]
    simp only [Bool.and_comm]
    rw [h.filter_phase, hprogramming]
    rfl
  have hother : (s.queue.filter (fun x => x.record == e.record)).filter (fun x => !(x.phase == .programming)) =
      (pendingEntry s e.record).toList := by
    rw [← hpending, List.filter_filter]
    refine List.filter_congr (fun x _ => ?_)
    cases x.phase <;> simp
  rw [markCount_split q s.queue (fun x => x.record != e.record)]
  simp only [bne, Bool.not_not]
  rw [markCount_split q (s.queue.filter (fun x => x.record == e.record)) (fun x => x.phase == .programming), hrecord, hother]
  have hcons : markCount q (e :: (pendingEntry s e.record).toList) =
      markCount q [e] + markCount q (pendingEntry s e.record).toList := by
    simp only [markCount, List.filter_cons]
    cases inPorts e.marks q <;> simp [Nat.add_comm]
  rw [hcons]

theorem Owes.of_counted {n : Nat} (h : Counted s) (hports : u.ports = s.ports)
    (hm : markCount p s.queue = markCount p u.queue + n) : Owes p n u := by
  obtain ⟨hopen, hclosed⟩ := flushCounted_iff.1 (h p)
  refine ⟨fun f hf => ?_, fun hf => ?_⟩
  · rw [← hm]; exact hopen f (by rwa [portOf_congr hports] at hf)
  · rw [← hm]; exact hclosed (by rwa [portOf_congr hports] at hf)

theorem Counted.commit (h : Counted s) (hq : QueueGood s) {e : QueueEntry} (he : inProgramming s = some e) :
    Counted (commit e s) := by
  have hretired : (if e.target.getD (rowOf s e.record).location = (rowOf s e.record).location then s
        else retire (rowOf s e.record).location s).queue = s.queue ∧
      (if e.target.getD (rowOf s e.record).location = (rowOf s e.record).location then s
        else retire (rowOf s e.record).location s).ports = s.ports := by
    split
    · exact ⟨rfl, rfl⟩
    · cases (rowOf s e.record).location <;> exact ⟨rfl, rfl⟩
  refine afterRemoval_counted (fun q => Owes.of_counted h ?_ ?_) false
  · rw [modeAfterRemoval_ports]
    exact hretired.2
  · rw [modeAfterRemoval_queue, hq.marks_commit he q]
    exact congrArg (fun l => markCount q (l.filter (fun x => !(x.record == e.record && x.phase == .programming))) +
      markCount q [e]) hretired.1.symm

theorem Counted.faultRecord (h : Counted s) (hq : QueueGood s) {e : QueueEntry} (he : inProgramming s = some e) :
    Counted (faultRecord e s) := by
  refine afterRemoval_counted (fun q => Owes.of_steady (Owes.of_counted h ?_ ?_) (reportFault_steady _ _ _ _)) true
  · rw [modeAfterRemoval_ports]
    rfl
  · rw [modeAfterRemoval_queue]
    exact hq.marks_fault he q

theorem updProgramming_steady {f : QueueEntry → QueueEntry} (hf : ∀ e, (f e).marks = e.marks) (s : State) :
    Steady s (updProgramming f s) :=
  ⟨fun _ => rfl, fun q => markCount_map q s.queue (fun e => by split; exacts [by rw [hf], rfl])⟩

theorem dropTarget_steady (e : QueueEntry) (s : State) : Steady s (dropTarget e s) := by
  have hretired : ∀ r l, Steady s (retireReserved r l s) := fun r l => by
    unfold retireReserved
    split
    · exact .refl s
    · cases l <;> exact .of_eq rfl rfl
  unfold dropTarget
  split
  · exact hretired _ _
  · exact .refl s

theorem dropTarget_queue (e : QueueEntry) (s : State) : (dropTarget e s).queue = s.queue := by
  have hretired : ∀ r l, (retireReserved r l s).queue = s.queue := fun r l => by
    unfold retireReserved
    split
    · rfl
    · cases l <;> rfl
  unfold dropTarget
  split
  · exact hretired _ _
  · rfl

theorem Counted.programDone (h : Counted s) (hq : QueueGood s) {e : QueueEntry} (he : inProgramming s = some e) (slot : Nat)
    (got : Cells) : Counted (programDone e slot got s) := by
  have hs : Counted (writeSlot slot (cellsLeft (entryImage e) got) { s with op := none }) := (Steady.of_eq rfl rfl).counted h
  have hqs : QueueGood (writeSlot slot (cellsLeft (entryImage e) got) { s with op := none }) := hq.of_queue rfl
  have hes : inProgramming (writeSlot slot (cellsLeft (entryImage e) got) { s with op := none }) = some e := he
  unfold Machine.programDone
  dsimp only
  generalize writeSlot slot (cellsLeft (entryImage e) got) { s with op := none } = u at *
  split
  · exact hs.commit hqs hes
  · unfold programFailed
    split
    · exact (updProgramming_steady (f := fun x => { x with attempts := x.attempts + 1 }) (fun _ => rfl) u).counted hs
    · have hdropped := (dropTarget_steady e u).counted hs
      split
      next n _ =>
        rw [remap_eq]
        refine Steady.counted ?_ hdropped
        exact (updProgramming_steady (f := fun x => { x with attempts := 1, target := some (.spare n) }) (fun _ => rfl)
          (setSpare n (.inUse e.record) (dropTarget e u))).after rfl rfl
      · rw [giveUp_eq]
        refine hdropped.faultRecord (hqs.of_queue (dropTarget_queue e u)) ?_
        rw [inProgramming, dropTarget_queue]
        exact hes

/-! ### FLUSH, teardown and attention -/

theorem markCount_eq_zero {q : PortId} {l : List QueueEntry} : markCount q l = 0 ↔ ∀ e ∈ l, inPorts e.marks q = false := by
  rw [markCount, List.length_eq_zero_iff, List.filter_eq_nil_iff]
  simp

theorem Counted.openFlush (h : Counted s) {e : Entry} (hnone : (portOf s e.port).flush = none)
    (hn : originCount e.port s.queue ≠ 0) : Counted (openFlush e s) := by
  have hunmarked := markCount_eq_zero.1 ((h e.port).2 hnone)
  have hflush : ∀ q, (portOf (Machine.openFlush e s) q).flush =
      if q = e.port then some ⟨e.tag, originCount e.port s.queue, false⟩ else (portOf s q).flush := fun q => by
    rw [Machine.openFlush, updEntry_portOf, portOf_updPort]
    split
    · rfl
    · rfl
  have hsame : markCount e.port (Machine.openFlush e s).queue = originCount e.port s.queue := by
    show markCount e.port (markQueue e.port s.queue) = _
    unfold markCount originCount markQueue
    rw [List.filter_map, List.length_map]
    congr 1
    refine List.filter_congr (fun x hx => ?_)
    dsimp only [Function.comp]
    split
    next ho => rw [ho]; exact (inPorts_addPort _ _ _).2 (.inl rfl)
    next ho => rw [hunmarked x hx, (by simpa using ho : inPorts x.origins e.port = false)]
  have hother : ∀ q, q ≠ e.port → markCount q (Machine.openFlush e s).queue = markCount q s.queue := fun q hq => by
    refine markCount_map q s.queue (fun x => ?_)
    split
    · exact Bool.eq_iff_iff.2 ((inPorts_addPort _ _ _).trans (or_iff_right hq))
    · rfl
  intro q
  rw [flushCounted_iff]
  by_cases hq : q = e.port
  · subst hq
    refine ⟨fun f hf => ?_, fun hf => ?_⟩
    · rw [hflush, if_pos rfl] at hf
      cases hf
      exact ⟨hsame.symm, hn⟩
    · rw [hflush, if_pos rfl] at hf
      cases hf
  · obtain ⟨hopen, hclosed⟩ := flushCounted_iff.1 (h q)
    refine ⟨fun f hf => ?_, fun hf => ?_⟩
    · rw [hflush, if_neg hq] at hf
      rw [hother q hq]
      exact hopen f hf
    · rw [hflush, if_neg hq] at hf
      rw [hother q hq]
      exact hclosed hf

theorem Counted.teardown (h : Counted s) (p : PortId) (keep : Option Nat) : Counted (teardown p keep s) := by
  have hmarks : ∀ q, (portOf (Machine.teardown p keep s) q).flush = (if q = p then none else (portOf s q).flush) ∧
      markCount q (Machine.teardown p keep s).queue = if q = p then 0 else markCount q s.queue := fun q => by
    by_cases hq : q = p
    · subst hq
      rw [if_pos rfl, if_pos rfl]
      refine ⟨?_, markCount_eq_zero.2 (fun x hx => ?_)⟩
      · have hport : portOf (Machine.teardown q keep s) q = { portOf s q with rxBuffer := [], flush := none } :=
          (portOf_congr (s := updPort q (fun x => { x with rxBuffer := [], flush := none }) s) rfl q).trans
            (portOf_updPort_same q _ s)
        rw [hport]
      · obtain ⟨d, -, rfl⟩ := List.mem_map.1 hx
        exact Bool.eq_false_iff.2 (fun hm => ((inPorts_dropPort _ _ _).1 hm).1 rfl)
    · rw [if_neg hq, if_neg hq, teardown_portOf_other _ _ _ hq]
      exact ⟨rfl, markCount_map q s.queue (fun x =>
        Bool.eq_iff_iff.2 ((inPorts_dropPort _ _ _).trans (and_iff_right hq)))⟩
  intro q
  obtain ⟨hf, hm⟩ := hmarks q
  rw [FlushCounted, hf, hm]
  by_cases hq : q = p
  · rw [if_pos hq, if_pos hq]
    exact ⟨nofun, fun _ => rfl⟩
  · rw [if_neg hq, if_neg hq]
    exact h q

theorem Counted.sessionEnded (h : Counted s) (p : PortId) : Counted (sessionEnded p s) := by
  unfold Machine.sessionEnded
  split
  · exact h.teardown p none
  · exact h

theorem attend_steady (p : PortId) (s : State) : Steady (sessionEnded p s) (attend p s) := by
  refine ⟨fun q => ?_, fun q => by rw [queue_of_lessTraffic (attend_lessTraffic p s)]⟩
  by_cases hq : q = p
  · rw [hq, attend_portOf_same, sessionEnded_portOf_same]
  · rw [attend_portOf_other p s hq, sessionEnded_portOf_other p s hq]

theorem Counted.openedFrom (h : Counted s) (e : Entry) : Counted (openedFrom e s) := by
  unfold Machine.openedFrom
  split
  · exact h.teardown _ _
  · exact (Steady.of_eq rfl rfl).counted h

theorem Handled.counted {e : Entry} (h : Handled e s u) (hs : Counted s) : Counted u := by
  have hanswered : ∀ {v : State} {id a}, v.ports = s.ports → v.queue = s.queue → Counted (answer id a v) := fun hp hq =>
    ((answer_steady _ _ _).after hp hq).counted hs
  cases h with
  | answered a => exact hanswered rfl rfl
  | readWaits => exact (Steady.of_eq rfl rfl).counted hs
  | changeWaits => exact (Steady.of_eq rfl rfl).counted hs
  | changed _ _ b _ => exact (acceptChange_steady _ b s).counted hs
  | flushOpens _ hf hn => exact hs.openFlush hf hn
  | claimed => exact hanswered rfl rfl
  | released => exact hanswered rfl rfl
  | watched => exact hanswered rfl rfl
  | unwatched => exact hanswered rfl rfl
  | opened =>
    rw [handleOpen_eq]
    exact ((Steady.changePort (f := beginSession) (fun _ => rfl)).trans (answer_steady _ _ _)).counted (hs.openedFrom e)
  | closed =>
    refine (Steady.changePort (f := fun x => { x with session := .linkUp }) (fun _ => rfl)).counted ?_
    exact ((answer_steady _ _ _).counted hs).teardown _ _
  | statusTold =>
    exact ((answer_steady _ _ s).trans (Steady.changePort (f := clearFrameErr) (fun _ => rfl))).counted hs

/-! ### Every command -/

theorem taken_steady (p : PortId) (id : Nat) (f : RxFrame) (rest : List RxFrame) (last : PortId) (s : State) :
    Steady s (taken p id f rest last s) := by
  refine ⟨fun q => ?_, fun _ => rfl⟩
  by_cases hq : q = p
  · rw [hq, taken_portOf_same]
  · rw [taken_portOf_other _ _ _ _ _ _ hq]

theorem Does.counted {c : Instr} (h : Does s c t) (hq : QueueGood s) (hs : Counted s) : Counted t := by
  have hsettle : ∀ {v}, Counted v → Counted (settle v) := fun hv => (settle_steady _).counted hv
  cases h with
  | nothing => exact hs
  | async _ _ _ h => exact h.steady.counted hs
  | clocked _ _ _ h => exact (h.steady.trans (.changePort (fun x => (presentNext_kept x).2.1))).counted hs
  | selected p => exact (Steady.changePort (fun x => by rw [select, (presentNext_kept _).2.1])).counted hs
  | deselected p => exact (Steady.changePort (fun x => by rw [deselect_eq])).counted hs
  | calibrated p low =>
    refine Steady.counted ?_ hs
    exact (Steady.changePort (f := fun x => { x with bitPeriod := some low, session := .linkUp }) (fun _ => rfl)).trans
      (.changePort (offerNotice_flush _))
  | attended p => exact (attend_steady p s).counted (hs.sessionEnded p)
  | chosen => exact hsettle hs
  | refused => exact hsettle (((taken_steady _ _ _ _ _ s).trans (answer_steady _ _ _)).counted hs)
  | handled _ _ _ hu => exact hsettle (hu.counted ((taken_steady _ _ _ _ _ s).counted hs))
  | fetched => exact hsettle ((fetchDone_steady _ _ s).counted hs)
  | programmed got hop he => exact hsettle (hs.programDone hq he _ got)
  | fetchLost => exact hsettle ((Steady.of_eq rfl rfl).counted hs)
  | programLost => exact hsettle ((Steady.of_eq rfl rfl).counted hs)
  | marked =>
    refine hsettle (Steady.counted ?_ hs)
    exact (markerDone_steady _ _).after rfl rfl
  | @scanned got slot withdrawn =>
    have hframe := scanFetchDone_frame slot withdrawn got s
    exact hsettle ((Steady.of_eq (congrArg State.ports hframe :) (congrArg State.queue hframe :)).counted hs)
  | ticked =>
    refine Steady.counted ?_ hs
    unfold tick
    exact (notifyExpired_steady _ _).after rfl rfl
  | asserted => exact hsettle ((assertPfw_steady s).counted hs)
  | deasserted => exact hsettle ((deassertPfw_steady s).counted hs)

theorem Counted.of_empty (hq : s.queue = []) (hports : ∀ p, (portOf s p).flush = none) : Counted s := fun p => by
  rw [FlushCounted, hports, hq]
  exact ⟨nofun, fun _ => rfl⟩

theorem counted_beginReset (h : Counted s) (cause : ResetEvent) (torn : Torn) : Counted (beginReset cause torn s) := by
  cases hr : s.resetHold with
  | none =>
    refine .of_empty ?_ (fun p => by rw [portOf_beginReset hr]; rfl)
    rw [beginReset_out hr]
    rfl
  | some r => rw [beginReset_held hr]; exact (Steady.of_eq rfl rfl).counted h

theorem counted_endReset (straps : Straps) (pfw : Level) (r : ResetRecord) (s : State) : Counted (endReset straps pfw r s) := by
  obtain ⟨-, -, -, hqueue⟩ := awakened_lists straps pfw r s
  have hports : ∀ p, (portOf (awakened straps pfw r s) p).flush = none := fun p => by
    rw [portOf_awakened, awakenedPort_reset p _ rfl]
  have heq : endReset straps pfw r s = settle (awakened straps pfw r s) := endReset_eq straps pfw r s
  generalize awakened straps pfw r s = u at *
  rw [heq]
  exact (settle_steady u).counted (.of_empty hqueue hports)

end

/-- Settles O58: table and lists agree entry by entry, and each step tells the FLUSH records of the marks that leave. -/
theorem waitingListsAreKept : Obligations.WaitingListsAreKept := by
  refine ⟨fun s t hs h => waitingListsAgree hs h, fun s t hq hs h => ?_⟩
  unfold step at h
  split at h
  · cases h; exact hs
  next c rest _ =>
    have hs' : Counted { s with pending := rest } := (Steady.of_eq rfl rfl).counted hs
    obtain ⟨-, -, hd⟩ | rfl | ⟨cause, torn, -, rfl⟩ | ⟨straps, pfw, r, -, -, rfl⟩ := exec_cases h
    · exact hd.counted (hq.of_queue rfl) hs'
    · exact hs'
    · exact counted_beginReset hs' cause torn
    · exact counted_endReset straps pfw r _

end Sys2Proof.Machine

/-! SUPPORT. The link of a port under each of its steps (R131 to R136, R146, R147). O56 is settled here. -/

namespace Sys2Proof.Machine

/-! ### A port whose link is up -/

/-- A port's link is as its mode has it. -/
abbrev LinkGood (x : Port) : Prop := (x.mode = .clocked → ClockedGood x) ∧ (x.mode = .async → AsyncGood x)

/-- A port's link is as its mode has it, and up. -/
structure UpGood (x : Port) : Prop where
  up   : x.session ≠ .linkDown
  link : LinkGood x

/-- Changes of what is neither the link nor in transmission. -/
theorem UpGood.of_link {x y : Port} (h : UpGood x) (hup : y.session ≠ .linkDown) (hmode : y.mode = x.mode)
    (hperiod : y.bitPeriod = x.bitPeriod) (hreceiver : y.receiver = x.receiver ∨ y.selected = true ∨ y.mode = .async)
    (htx : y.tx = x.tx) (hsending : y.sending = x.sending) (hout : y.outByte = x.outByte)
    (hsel : y.selected = x.selected) : UpGood y := by
  refine ⟨hup, fun hm => ?_, fun hm => ?_⟩
  · have hx := h.link.1 (hmode.symm.trans hm)
    refine ⟨hup, hperiod.trans hx.period, ?_, ?_, fun hno => ?_⟩
    · have : presentedByte y = presentedByte x := by rw [presentedByte, presentedByte, htx, hsending]
      rw [hout, hsel, this]
      exact hx.outByte
    · have := hx.progress
      rwa [progressGood, ← htx, ← hsending] at this
    · obtain ⟨hr, hs⟩ := hx.idle (hsel ▸ hno)
      refine ⟨?_, hsending.trans hs⟩
      obtain heq | hyes | hasync := hreceiver
      · exact heq.trans hr
      · rw [hno] at hyes; cases hyes
      · rw [hm] at hasync; cases hasync
  · have hx := h.link.2 (hmode.symm.trans hm)
    refine ⟨?_, by rw [hperiod]; exact hx.bounds, fun hd => absurd hd hup, by rw [hsending, htx]; exact hx.sending, ?_⟩
    · rw [hperiod]
      exact ⟨fun hn => absurd (hx.period.1 hn) h.up, fun hd => absurd hd hup⟩
    · rw [hsel, hout]
      exact hx.clock

theorem progressGood_iff {x : Port} :
    progressGood x = true ↔ ∀ k, x.sending = some k → ∃ f rest, x.tx = f :: rest ∧ k < (txBytes f).length := by
  unfold progressGood
  cases x.sending with
  | none => simp
  | some k => cases x.tx <;> simp

theorem presentedByte_of_not_sending {x : Port} (h : x.sending = none) : presentedByte x = 0xFF := by
  rw [presentedByte, h]
  cases x.tx <;> rfl

/-- A frame joins the back of a transmit queue. -/
theorem UpGood.pushTx {x : Port} (h : UpGood x) (f : TxFrame) : UpGood (pushTx f x) := by
  refine ⟨h.up, fun hm => ?_, fun hm => ?_⟩
  · have hm : x.mode = .clocked := hm
    have hx := h.link.1 hm
    have hprogress := progressGood_iff.1 hx.progress
    have hsending : (Machine.pushTx f x).sending = x.sending := by simp [Machine.pushTx, hm]
    refine ⟨h.up, hx.period, ?_, progressGood_iff.2 (fun k hk => ?_),
      fun hno => ⟨(hx.idle hno).1, hsending.trans (hx.idle hno).2⟩⟩
    · have hsame : presentedByte (Machine.pushTx f x) = presentedByte x := by
        cases hk : x.sending with
        | none => rw [presentedByte_of_not_sending hk, presentedByte_of_not_sending (hsending.trans hk)]
        | some k =>
          obtain ⟨g, rest, htx, -⟩ := hprogress k hk
          rw [presentedByte, presentedByte, hsending, hk]
          simp [Machine.pushTx, htx]
      rw [hsame]
      exact hx.outByte
    · obtain ⟨g, rest, htx, hlt⟩ := hprogress k (hsending.symm.trans hk)
      exact ⟨g, rest ++ [f], by simp [Machine.pushTx, htx], hlt⟩
  · have hm : x.mode = .async := hm
    have hx := h.link.2 hm
    refine ⟨hx.period, hx.bounds, fun hd => absurd hd h.up, ?_, hx.clock⟩
    have := hx.sending
    by_cases htx : x.tx = [] <;> simp [Machine.pushTx, hm, htx] at this ⊢
    exact this

theorem UpGood.offerNotice {x : Port} (h : UpGood x) (n : Notice) : UpGood (offerNotice n x) := by
  unfold Machine.offerNotice
  split
  · exact (h.pushTx (.notice n x.noticeGap)).of_link h.up rfl rfl (.inl rfl) rfl rfl rfl rfl
  · exact h.of_link h.up rfl rfl (.inl rfl) rfl rfl rfl rfl

theorem UpGood.moves {x y : Port} (hx : UpGood x) (h : PortMoves x y) : UpGood y := by
  refine h.keeps (fun x y hx hm => ?_) hx
  cases hm with
  | placed r => exact hx.pushTx (.response r)
  | held => exact hx.of_link hx.up rfl rfl (.inl rfl) rfl rfl rfl rfl
  | noticed n => exact hx.offerNotice n
  | flushChanged => exact hx.of_link hx.up rfl rfl (.inl rfl) rfl rfl rfl rfl

/-! ### The link of an ASYNC port -/

/-- An ASYNC port that is up. -/
structure AsyncUp (x : Port) : Prop where
  mode : x.mode = .async
  good : UpGood x

theorem AsyncUp.moves {x y : Port} (hx : AsyncUp x) (h : LinkPortMoves x y) : AsyncUp y := by
  induction h with
  | refl => exact hx
  | tail _ hm ih =>
    obtain ⟨hmode, hgood⟩ := ih
    have hlink := hgood.link.2 hmode
    cases hm with
    | receiver => exact ⟨hmode, hgood.of_link hgood.up rfl rfl (.inr (.inr hmode)) rfl rfl rfl rfl⟩
    | failure => exact ⟨hmode, hgood.of_link hgood.up rfl rfl (.inr (.inr hmode)) rfl rfl rfl rfl⟩
    | overrun => exact ⟨hmode, hgood.of_link hgood.up rfl rfl (.inl rfl) rfl rfl rfl rfl⟩
    | admitted => exact ⟨hmode, hgood.of_link hgood.up rfl rfl (.inl rfl) rfl rfl rfl rfl⟩
    | byteSent hm => rw [hmode] at hm; cases hm
    | frameSent f rest more held =>
      refine ⟨hmode, hgood.up, fun hm => ?_, fun _ => ⟨hlink.period, hlink.bounds, fun hd => absurd hd hgood.up, ?_, hlink.clock⟩⟩
      · rw [show _ = LinkMode.async from hmode] at hm; cases hm
      · by_cases hl : rest ++ more = []
        · rw [if_pos hl, if_neg (fun hb => hb.2 hl)]
        · rw [if_neg hl, if_pos ⟨hmode, hl⟩]
    | boundary hm => rw [hmode] at hm; cases hm

/-! ### The link of a CLOCKED port -/

/-- A selected CLOCKED port at an edge, the byte on DOUT apart. -/
structure AtEdge (x : Port) : Prop where
  mode     : x.mode = .clocked
  up       : x.session ≠ .linkDown
  period   : x.bitPeriod = none
  selected : x.selected = true
  progress : progressGood x = true

theorem length_txBytes (f : TxFrame) : 0 < (txBytes f).length := by simp [txBytes, wireFrame]

/-- At a byte boundary the byte on DOUT is that of the frame in progress, or fill (R136). -/
theorem AtEdge.presentNext {x : Port} (h : AtEdge x) : UpGood (presentNext x) := by
  have hprogress := progressGood_iff.1 h.progress
  have hfacts : (Machine.presentNext x).mode = x.mode ∧ (Machine.presentNext x).session = x.session ∧
      (Machine.presentNext x).bitPeriod = x.bitPeriod ∧ (Machine.presentNext x).selected = x.selected := by
    unfold Machine.presentNext
    split <;> exact ⟨rfl, rfl, rfl, rfl⟩
  obtain ⟨hmode, hsession, hperiod, hsel⟩ := hfacts
  refine ⟨by rw [hsession]; exact h.up, fun _ => ⟨by rw [hsession]; exact h.up, hperiod.trans h.period, ?_, ?_, fun hno => ?_⟩,
    fun hm => ?_⟩
  · rw [hsel, h.selected, if_pos rfl]
    cases htx : x.tx with
    | nil => simp [Machine.presentNext, presentedByte, htx]
    | cons f rest => simp [Machine.presentNext, presentedByte, htx]
  · refine progressGood_iff.2 (fun k hk => ?_)
    cases htx : x.tx with
    | nil => simp [Machine.presentNext, htx] at hk
    | cons f rest =>
      refine ⟨f, rest, by simp [Machine.presentNext, htx], ?_⟩
      obtain rfl : x.sending.getD 0 = k := by simpa [Machine.presentNext, htx] using hk
      cases hs : x.sending with
      | none => exact length_txBytes f
      | some j =>
        obtain ⟨g, l, hg, hlt⟩ := hprogress j hs
        rw [htx] at hg
        cases hg
        exact hlt
  · rw [hsel, h.selected] at hno
    cases hno
  · rw [hmode, h.mode] at hm
    cases hm

theorem AtEdge.moves {x y : Port} (hx : AtEdge x) (h : LinkPortMoves x y) : AtEdge y := by
  induction h with
  | refl => exact hx
  | tail _ hm ih =>
    obtain ⟨hmode, hup, hperiod, hsel, hprogress⟩ := ih
    cases hm with
    | receiver => exact ⟨hmode, hup, hperiod, hsel, hprogress⟩
    | failure => exact ⟨hmode, hup, hperiod, hsel, hprogress⟩
    | overrun => exact ⟨hmode, hup, hperiod, hsel, hprogress⟩
    | admitted => exact ⟨hmode, hup, hperiod, hsel, hprogress⟩
    | byteSent _ k f rest hk htx hlen =>
      exact ⟨hmode, hup, hperiod, hsel, progressGood_iff.2 (fun j hj => ⟨f, rest, htx, Option.some.inj hj ▸ hlen⟩)⟩
    | frameSent f rest more held =>
      refine ⟨hmode, hup, hperiod, hsel, progressGood_iff.2 (fun k hk => ?_)⟩
      dsimp only at hk
      rw [if_neg (fun hb => by rw [hmode] at hb; exact absurd hb.1 (by decide))] at hk
      cases hk
    | boundary =>
      have hgood := AtEdge.presentNext ⟨hmode, hup, hperiod, hsel, hprogress⟩
      have hm : (Machine.presentNext _).mode = .clocked := (presentNext_mode _).trans hmode
      exact ⟨hm, hgood.up, (hgood.link.1 hm).period, (presentNext_selected _).trans hsel, (hgood.link.1 hm).progress⟩

/-! ### Every step of a port -/

theorem linkGood_restarted (p : PortId) (part : PartState) (x : Port) : LinkGood (restarted p part x) := by
  refine ⟨fun hm => ?_, fun hm => ?_⟩
  · have hm : x.mode = .clocked := hm
    exact ⟨by simp [restarted, hm], rfl, rfl, rfl, fun _ => ⟨rfl, rfl⟩⟩
  · have hm : x.mode = .async := hm
    refine ⟨by simp [restarted, hm], nofun, fun _ => ⟨rfl, rfl, by simp [restarted, hm], rfl⟩, by simp [restarted, hm], rfl, rfl⟩

theorem UpGood.step {p : PortId} {x y : Port} (hx : UpGood x) (h : PortStep p x y) : LinkGood y := by
  cases h with
  | moved h => exact (hx.moves h).link
  | async hm _ h => exact (AsyncUp.moves ⟨hm, hx⟩ h).good.link
  | clocked hm hsel h =>
    have hgood := hx.link.1 hm
    exact (AtEdge.moves ⟨hm, hx.up, hgood.period, hsel, hgood.progress⟩ h).presentNext.link
  | selected hm =>
    have hgood := hx.link.1 hm
    exact (AtEdge.presentNext (x := { x with selected := true, sending := none }) ⟨hm, hx.up, hgood.period, rfl, rfl⟩).link
  | deselected hm =>
    have hgood := hx.link.1 hm
    rw [deselect_eq]
    refine ⟨fun _ => ⟨hx.up, hgood.period, rfl, rfl, fun _ => ⟨rfl, rfl⟩⟩, fun ha => ?_⟩
    rw [show _ = LinkMode.clocked from hm] at ha
    cases ha
  | calibrated _ _ _ hdown => exact absurd hdown hx.up
  | attended part => exact linkGood_restarted p part x
  | @handled kind f rest y z hrx hh h =>
    have hrest : UpGood { x with rxBuffer := rest } := hx.of_link hx.up rfl rfl (.inl rfl) rfl rfl rfl rfl
    refine (UpGood.moves ?_ h).link
    cases hh with
    | moved hw => exact hrest.moves hw
    | opened hk hx' hw =>
      refine UpGood.moves ?_ hw
      obtain rfl | rfl := hx' <;> exact hx.of_link nofun rfl rfl (.inl rfl) rfl rfl rfl rfl
    | closed hk hw => exact (hrest.moves hw).of_link nofun rfl rfl (.inl rfl) rfl rfl rfl rfl
    | told hk hw => exact (hrest.moves hw).of_link (hrest.moves hw).up rfl rfl (.inl rfl) rfl rfl rfl rfl

/-- A calibration brings an ASYNC port up (R133). -/
theorem linkGood_calibrated {x : Port} (hx : AsyncGood x) (hm : x.mode = .async) (hdown : x.session = .linkDown) {low : Nat}
    (hlow : Config.calibrationMin ≤ low ∧ low ≤ Config.calibrationMax) (n : Notice) :
    LinkGood (offerNotice n { x with bitPeriod := some low, session := .linkUp }) := by
  obtain ⟨-, -, htx, -⟩ := hx.down hdown
  refine (UpGood.offerNotice (x := { x with bitPeriod := some low, session := .linkUp }) ⟨nofun, fun hc => ?_, fun _ => ?_⟩ n).link
  · rw [show _ = LinkMode.async from hm] at hc
    cases hc
  · refine ⟨⟨nofun, nofun⟩, fun b hb => ?_, nofun, hx.sending, hx.clock⟩
    obtain rfl := List.mem_singleton.1 hb
    exact hlow

theorem linkGood_reset (mode : LinkMode) : LinkGood (Port.reset mode) := by
  cases mode with
  | async => exact ⟨nofun, fun _ => ⟨⟨fun _ => rfl, fun _ => rfl⟩, nofun, fun _ => ⟨rfl, rfl, rfl, rfl⟩, rfl, rfl, rfl⟩⟩
  | clocked => exact ⟨fun _ => ⟨nofun, rfl, rfl, rfl, fun _ => ⟨rfl, rfl⟩⟩, nofun⟩

/-! ### Every command -/

section
variable {s t : State} {p : PortId}

theorem Does.calibration {low : Nat} (h : Does s (.calibration p low) t) : t = s ∨
    (portOf s p).mode = .async ∧ (portOf s p).session = .linkDown ∧
      (Config.calibrationMin ≤ low ∧ low ≤ Config.calibrationMax) ∧
      t = placeLinkup p (updPort p (fun x => { x with bitPeriod := some low, session := .linkUp }) s) := by
  have hlink : ∀ {q}, ¬LinkCommand q (.calibration p low) := by simp [LinkCommand]
  cases h with
  | nothing => exact .inl rfl
  | async hc => exact absurd hc hlink
  | clocked hc => exact absurd hc hlink
  | calibrated _ _ hm hdown hlow => exact .inr ⟨hm, hdown, hlow, rfl⟩
  | chosen hc => cases hc
  | refused hc => cases hc.takesRequest
  | handled hc => cases hc.takesRequest
  | ticked hc => obtain hc | ⟨r, hc⟩ := hc <;> cases hc

/-- A port that no step of the command reaches keeps its link down. -/
theorem Does.linkDown {c : Instr} (h : Does s c t) (hs : ListsGood s) (hx : AsyncGood (portOf s p))
    (hm : (portOf s p).mode = .async) (hdown : (portOf s p).session = .linkDown) (hc : ∀ low, c ≠ .calibration p low) :
    portOf t p = portOf s p := by
  have hF : ∀ q, q = p → (portOf s q).session ≠ .session := fun q hq => by rw [hq, hdown]; decide
  refine ((h.agrees (hs.agrees (F := fun q => q = p) hF) ⟨?_, ?_, ?_, ?_⟩).frozen p rfl).1
  · rintro q rfl; exact hm
  · rintro q rfl; exact hdown
  · rintro q rfl; exact (hx.down hdown).2.1
  · rintro q low rfl; exact hc low

theorem Does.linkGood {c : Instr} (h : Does s c t) (hlists : ListsGood s) (hs : LinkGood (portOf s p)) :
    LinkGood (portOf t p) := by
  by_cases hdown : (portOf s p).mode = .async ∧ (portOf s p).session = .linkDown
  · obtain ⟨hm, hdown⟩ := hdown
    by_cases hc : ∃ low, c = .calibration p low
    · obtain ⟨low, rfl⟩ := hc
      obtain rfl | ⟨-, -, hlow, rfl⟩ := h.calibration
      · exact hs
      · rw [placeLinkup, portOf_updPort_same, portOf_updPort_same]
        exact linkGood_calibrated (hs.2 hm) hm hdown hlow _
    · rw [h.linkDown hlists (hs.2 hm) hm hdown (fun low heq => hc ⟨low, heq⟩)]
      exact hs
  · refine UpGood.step ⟨fun hd => hdown ⟨?_, hd⟩, hs⟩ (h.port p)
    cases hm : (portOf s p).mode with
    | async => rfl
    | clocked => exact absurd hd (hs.1 hm).up

end

/-- Table and lists agree, and every link is as its mode has it. -/
structure LinksKept (s : State) : Prop where
  lists : ListsGood s
  links : ∀ p, LinkGood (portOf s p)

theorem linksGood_iff {s : State} : LinksGood s ↔ ∀ p, LinkGood (portOf s p) := forall_allPorts

/-- Settles O56: a port whose link is up keeps its law at each of its steps, and one in LINK_DOWN is reached by its own
calibration alone. -/
theorem linkLawsAreKept : Obligations.LinkLawsAreKept := by
  intro s t hlists hlinks h
  refine linksGood_iff.2 (step_keeps (P := LinksKept) (fun u l hu => ⟨hu.lists.of_eq rfl rfl rfl rfl rfl, fun p => ?_⟩)
    (fun c u v hu _ hd => ⟨hu.lists.does hd, fun p => hd.linkGood hu.lists (hu.links p)⟩)
    (fun cause torn u hu => ⟨listsGood_beginReset hu.lists cause torn, fun p => ?_⟩)
    (fun straps pfw r u hu _ => ⟨listsGood_endReset straps pfw r u, fun p => ?_⟩) ⟨hlists, linksGood_iff.1 hlinks⟩ h).links
  · exact show LinkGood (portOf u p) from hu.links p
  · cases hr : u.resetHold with
    | none => rw [portOf_beginReset hr]; exact linkGood_reset _
    | some hold =>
      rw [beginReset_held hr]
      exact show LinkGood (portOf u p) from hu.links p
  · rw [portOf_endReset]
    unfold awakenedPort
    split
    next hm => exact (UpGood.offerNotice ⟨((linkGood_reset _).1 hm).up, linkGood_reset _⟩ _).link
    next => exact linkGood_reset _

end Sys2Proof.Machine

/-! SUPPORT. What the controller's choice keeps (R46, R47, R55 to R60, R70): a state that is ready for the choice is one
whose controller, queue and part state agree once the choice is made. -/

namespace Sys2Proof.Machine

/-! ### What the laws of the controller read -/

/-- A state with what the controller's laws do not read left out. -/
def State.governed (s : State) : State :=
  { s with
    pending := [], ports := State.reset.ports, table := [], lastGranted := .p0, directory := [], cells := []
    spares := [], claims := [], watches := [], resetCause := .powerOn, verdict := .unknown, markerFault := false }

section
variable {s t : State}

theorem QueueGood.congr (h : QueueGood s) (hq : t.queue = s.queue) : QueueGood t := h.of_queue hq

theorem powerGood_governed : PowerGood s.governed ↔ PowerGood s :=
  ⟨fun h => ⟨h.waiting, h.starving, h.guard, h.startup, h.run, h.holdup, h.parked, h.resuming⟩,
    fun h => ⟨h.waiting, h.starving, h.guard, h.startup, h.run, h.holdup, h.parked, h.resuming⟩⟩

theorem controllerGood_governed : ControllerGood s.governed ↔ ControllerGood s :=
  ⟨fun h => ⟨h.queue.congr rfl, fun hr => powerGood_governed.1 (h.power hr), h.op, h.idle⟩,
    fun h => ⟨h.queue.congr rfl, fun hr => powerGood_governed.2 (h.power hr), h.op, h.idle⟩⟩

theorem ControllerGood.of_governed (hs : ControllerGood s) (h : t.governed = s.governed) : ControllerGood t :=
  controllerGood_governed.1 (h ▸ controllerGood_governed.2 hs)

theorem governed_of_lessPorts (h : t.lessPorts = s.lessPorts) : t.governed = s.governed := (congrArg State.governed h :)

theorem governed_of_lessTraffic (h : t.lessTraffic = s.lessTraffic) : t.governed = s.governed :=
  (congrArg State.governed h :)

/-! ### Where queue, lists and marker sequence can hold something -/

theorem PowerGood.queued (h : PowerGood s) (hq : s.queue ≠ []) :
    (s.partState = .run ∨ s.partState = .holdup) ∧ s.markerSeq = none := by
  cases hpart : s.partState with
  | startup => exact absurd (h.startup hpart).2.1 hq
  | run => exact ⟨.inl rfl, (h.run hpart).2.2.2.1⟩
  | holdup =>
    obtain ⟨-, -, -, ⟨hseq, -⟩ | ⟨hempty, -⟩⟩ := h.holdup hpart
    · exact ⟨.inr rfl, hseq⟩
    · exact absurd hempty hq
  | parked => exact absurd (h.parked hpart).2.2.2.1 hq
  | resuming => exact absurd (h.resuming hpart).2.2.2.1 hq

theorem PowerGood.reading (h : PowerGood s) (hw : s.fetchWait ≠ []) : s.partState = .run :=
  Decidable.byContradiction fun hno => hw (h.waiting hno).2

theorem PowerGood.drained (h : PowerGood s) (hseq : s.markerSeq ≠ none) : s.queue = [] :=
  Decidable.byContradiction fun hq => hseq (h.queued hq).2

theorem PowerGood.scanOrdered (h : PowerGood s) (ho : s.scanOrder = true) :
    s.partState = .startup ∧ s.built = false ∧ s.markerSeq = none := by
  cases hpart : s.partState with
  | startup =>
    obtain ⟨-, -, ⟨-, hb, hseq⟩ | ⟨hno, -⟩⟩ := h.startup hpart
    · exact ⟨rfl, hb, hseq⟩
    · rw [ho] at hno; cases hno
  | run => have := (h.run hpart).2.2.1; rw [ho] at this; cases this
  | holdup => have := (h.holdup hpart).2.2.1; rw [ho] at this; cases this
  | parked => have := (h.parked hpart).2.1; rw [ho] at this; cases this
  | resuming => have := (h.resuming hpart).2.2.1; rw [ho] at this; cases this

theorem inProgramming_of_empty (hq : s.queue = []) : inProgramming s = none := by rw [inProgramming, hq]; rfl

theorem queue_ne_of_inProgramming {e : QueueEntry} (he : inProgramming s = some e) : s.queue ≠ [] :=
  List.ne_nil_of_mem (List.mem_of_find?_eq_some he)

theorem queue_ne_of_oldestPending {e : QueueEntry} (he : oldestPending s = some e) : s.queue ≠ [] :=
  List.ne_nil_of_mem (List.mem_of_find?_eq_some he)

/-- The lists of waiting READs are replaced by shorter ones. -/
theorem PowerGood.setFetchWait (h : PowerGood s) {l : List Nat} (hl : s.fetchWait = [] → l = []) :
    PowerGood (setFetchWait l s) where
  waiting hpart := ⟨(h.waiting hpart).1, hl (h.waiting hpart).2⟩
  starving hw := if_pos hw
  guard := by
    show (if l = [] then 0 else s.starvation) ≤ Config.starvationLimit
    split
    · exact Nat.zero_le _
    · exact h.guard
  startup := h.startup
  run := h.run
  holdup := h.holdup
  parked := h.parked
  resuming := h.resuming

/-! ### A state ready for the choice -/

/-- Queue, part state and operation in flight agree; a marker program is requested exactly where the sequence in course
has none in flight, and a scan under way has a slot left to fetch. -/
structure Ready (s : State) : Prop where
  queue   : QueueGood s
  power   : PowerGood s
  op      : opGood s = true
  request : ∀ v, s.markerRequest = some v → s.op = none ∧ ∃ n, s.markerSeq = some (v, n)
  quiet   : s.op = none → s.markerRequest = none → s.markerSeq = none
  scan    : s.op = none → s.scanOrder = true → s.scanNext < Config.slots

theorem ready_governed : Ready s.governed ↔ Ready s :=
  ⟨fun h => ⟨h.queue.congr rfl, powerGood_governed.1 h.power, h.op, h.request, h.quiet, h.scan⟩,
    fun h => ⟨h.queue.congr rfl, powerGood_governed.2 h.power, h.op, h.request, h.quiet, h.scan⟩⟩

theorem Ready.of_governed (hs : Ready s) (h : t.governed = s.governed) : Ready t :=
  ready_governed.1 (h ▸ ready_governed.2 hs)

theorem ControllerGood.ready (h : ControllerGood s) (hr : s.resetHold = none) : Ready s := by
  obtain ⟨hrequest, hidle⟩ := h.idle hr
  have hpower := h.power hr
  refine ⟨h.queue, hpower, h.op hr, fun v hv => ?_, fun hop _ => ?_, fun hop ho => ?_⟩
  · rw [hrequest] at hv; cases hv
  · obtain hpart | ⟨hpart, -⟩ := hidle hop
    · exact (hpower.parked hpart).2.2.1
    · exact (hpower.run hpart).2.2.2.1
  · have hstartup := (hpower.scanOrdered ho).1
    obtain hpart | ⟨hpart, -⟩ := hidle hop <;> rw [hpart] at hstartup <;> cases hstartup

theorem opGood_marker {v : MarkerValue} {n : Nat} (hop : s.op = some (.markerProgram v)) (hseq : s.markerSeq = some (v, n))
    (hq : s.queue = []) : opGood s = true := by
  simp [opGood, hop, hseq, inProgramming_of_empty hq]

theorem opGood_program {slot : Nat} {e : QueueEntry} (hop : s.op = some (.program slot))
    (hpart : s.partState = .run ∨ s.partState = .holdup) (hseq : s.markerSeq = none) (he : inProgramming s = some e)
    (hslot : some slot = e.target.map (slotOf e.record)) : opGood s = true := by
  obtain hpart | hpart := hpart <;> simp [opGood, hop, hseq, he, hpart, ← hslot]

theorem opGood_fetch {id slot : Nat} (hop : s.op = some (.fetch id slot)) (hpart : s.partState = .run)
    (hseq : s.markerSeq = none) (hn : inProgramming s = none) : opGood s = true := by
  simp [opGood, hop, hseq, hn, hpart]

theorem opGood_scan {n : Nat} (hop : s.op = some (.scanFetch (scanSlot n) false)) (hpart : s.partState = .startup)
    (hb : s.built = false) (ho : s.scanOrder = true) (hnext : s.scanNext = n + 1) (hn : n < Config.slots) :
    opGood s = true := by
  simp [opGood, hop, hb, ho, hpart, hnext]
  exact hn

/-! ### The moves of the choice -/

/-- A marker program is in flight only once no request is held. -/
theorem Ready.started (hq : QueueGood t) (hpower : PowerGood t) (hop : opGood t = true) (hbusy : t.op ≠ none)
    (hrequest : t.markerRequest = none) : Ready t :=
  ⟨hq, hpower, hop, fun v hv => (by rw [hrequest] at hv; cases hv), fun h => absurd h hbusy, fun h => absurd h hbusy⟩

theorem Ready.setFetchWait (h : Ready s) {l : List Nat} (hl : s.fetchWait = [] → l = []) : Ready (setFetchWait l s) :=
  ⟨h.queue.congr rfl, h.power.setFetchWait hl, h.op, h.request, h.quiet, h.scan⟩

theorem Ready.answer (h : Ready s) (id : Nat) (a : Answer) : Ready (answer id a s) :=
  h.of_governed (governed_of_lessTraffic (answer_frame id a s))

theorem inProgramming_startProgram {e : QueueEntry} (hn : inProgramming s = none) (he : oldestPending s = some e) :
    inProgramming (startProgram s) = some (started (rowOf s e.record).location e) := by
  obtain ⟨l, hq⟩ := queue_of_oldestPending hn he
  rw [inProgramming, startProgram_queue he hq]
  rfl

theorem Ready.startProgram (h : Ready s) (hc : ChoiceOfMode s) {e : QueueEntry} (he : oldestPending s = some e) :
    Ready (startProgram s) := by
  obtain ⟨hpart, hseq⟩ := h.power.queued (queue_ne_of_oldestPending he)
  have hq := h.queue.startProgram hc.programming he
  have hprog := inProgramming_startProgram hc.programming he
  have hpower := h.power
  simp only [Machine.startProgram, he] at hq hprog ⊢
  refine .started hq ⟨hpower.waiting, fun hw => ?_, ?_, fun hp => ?_, hpower.run, fun hp => ?_, fun hp => ?_, fun hp => ?_⟩
    (opGood_program rfl hpart hseq hprog rfl) nofun hc.request
  · exact (if_neg (fun hb => hb.2 hw)).trans (hpower.starving hw)
  · show (if _ then _ else _) ≤ _
    split
    · exact Nat.min_le_right _ _
    · exact hpower.guard
  · obtain hpart | hpart := hpart <;> rw [show s.partState = .startup from hp] at hpart <;> cases hpart
  · obtain ⟨hmode, hb, ho, ⟨-, hpfw⟩ | ⟨-, n, -, hsome⟩⟩ := hpower.holdup hp
    · exact ⟨hmode, hb, ho, .inl ⟨hseq, hpfw⟩⟩
    · rw [hseq] at hsome; cases hsome
  · obtain hpart | hpart := hpart <;> rw [show s.partState = .parked from hp] at hpart <;> cases hpart
  · obtain hpart | hpart := hpart <;> rw [show s.partState = .resuming from hp] at hpart <;> cases hpart

/-- A marker sequence begins on a drained queue; the choice then starts its program. -/
theorem Ready.beginClean (h : Ready s) (hpart : s.partState = .holdup) (hq : s.queue = []) (hop : s.op = none) :
    Ready (beginSequence .clean s) := by
  have hpower := h.power
  obtain ⟨hmode, hb, ho, -⟩ := hpower.holdup hpart
  refine ⟨h.queue.congr rfl, ⟨hpower.waiting, hpower.starving, hpower.guard, ?_, ?_, fun _ => ?_, ?_, ?_⟩, ?_, ?_, ?_, ?_⟩
  · rw [beginSequence, hpart]; nofun
  · rw [beginSequence, hpart]; nofun
  · exact ⟨hmode, hb, ho, .inr ⟨hq, 1, by decide, rfl⟩⟩
  · rw [beginSequence, hpart]; nofun
  · rw [beginSequence, hpart]; nofun
  · simp [opGood, beginSequence, hop]
  · intro v hv
    obtain rfl : MarkerValue.clean = v := Option.some.inj hv
    exact ⟨hop, 1, rfl⟩
  · exact fun _ => nofun
  · exact h.scan

theorem Ready.choiceMove (h : Ready s) (hm : ChoiceMove s t) : Ready t := by
  have hpower := h.power
  cases hm with
  | readLost hs hw he => exact h.setFetchWait (by rw [hw]; nofun)
  | readAnswered hs hw he a => exact (h.setFetchWait (by rw [hw]; nofun)).answer _ a
  | @fetchStarts id rest e hs hw he hmode =>
    have hrun := hpower.reading (by rw [hw]; nofun)
    have hrest := hpower.setFetchWait (l := rest) (by rw [hw]; nofun)
    refine .started (h.queue.congr rfl) ⟨hrest.waiting, fun _ => rfl, Nat.zero_le _, hrest.startup, hrest.run, hrest.holdup,
      hrest.parked, hrest.resuming⟩ ?_ nofun hs.request
    exact opGood_fetch rfl hrun (hpower.run hrun).2.2.2.1 hs.programming
  | programStarts hs he hmode => exact h.startProgram hs he
  | scanStarts hs hmode ho hn =>
    obtain ⟨hpart, hb, -⟩ := hpower.scanOrdered ho
    exact .started (h.queue.congr rfl) ⟨hpower.waiting, hpower.starving, hpower.guard, hpower.startup, hpower.run,
      hpower.holdup, hpower.parked, hpower.resuming⟩ (opGood_scan rfl hpart hb ho rfl hn) nofun hs.request
  | markerStarts hop hr =>
    obtain ⟨-, n, hseq⟩ := h.request _ hr
    exact .started (h.queue.congr rfl) ⟨hpower.waiting, hpower.starving, hpower.guard, hpower.startup, hpower.run,
      hpower.holdup, hpower.parked, hpower.resuming⟩
      (opGood_marker rfl hseq (hpower.drained (by rw [hseq]; nofun))) nofun rfl
  | @programAgain e hop hr he =>
    obtain ⟨hpart, hseq⟩ := hpower.queued (queue_ne_of_inProgramming he)
    obtain ⟨-, -, -, -, hprogramming⟩ := h.queue.entries e (List.mem_of_find?_eq_some he)
    obtain ⟨-, -, htarget⟩ := hprogramming (phase_of_inProgramming he)
    obtain ⟨l, hl⟩ := Option.isSome_iff_exists.1 htarget
    exact .started (h.queue.congr rfl) ⟨hpower.waiting, hpower.starving, hpower.guard, hpower.startup, hpower.run,
      hpower.holdup, hpower.parked, hpower.resuming⟩
      (opGood_program rfl hpart hseq he (by rw [hl]; rfl)) nofun hr
  | cleanBegins hpart hq hop hseq => exact h.beginClean hpart hq hop

/-! ### What an idle controller has done -/

/-- Nothing is left for the choice. -/
structure Done (s : State) : Prop where
  request     : s.markerRequest = none
  programming : inProgramming s = none
  reads       : s.mode = .fetchFirst ∨ s.mode = .drainFirst → s.fetchWait = []
  pending     : s.mode ≠ .scan → oldestPending s = none
  scan        : s.mode = .scan → s.scanOrder = true → Config.slots ≤ s.scanNext

theorem takeReads_idle (l : List Nat) (hw : s.fetchWait = l) (h : (takeReads l s).op = none) :
    (takeReads l s).fetchWait = [] := by
  induction l generalizing s with
  | nil => exact hw
  | cons id l ih =>
    rw [takeReads] at h ⊢
    split at h
    · exact ih rfl h
    · split at h
      · exact ih (by simp) h
      · cases h

theorem orElse_idle {f g : State → State} (h : (orElse f g s).op = none) :
    (f s).op = none ∧ orElse f g s = g (f s) := by
  by_cases hf : (f s).op = none
  · exact ⟨hf, orElse_of_none hf⟩
  · rw [orElse_of_some (Option.isSome_iff_ne_none.2 hf)] at h
    exact absurd h hf

theorem startProgram_idle (h : (startProgram s).op = none) : oldestPending s = none := by
  cases hp : oldestPending s with
  | none => rfl
  | some e => have := startProgram_op hp; rw [h] at this; cases this

/-- The READs first, or the programs first: an idle controller has served both. -/
theorem chooseRead_idle (hs : ChoiceOfMode s) (hmode : s.mode = .fetchFirst ∨ s.mode = .drainFirst)
    (h : (chooseRead s).op = none) (hp : oldestPending (chooseRead s) = none) : Done (chooseRead s) := by
  have hmove := (chooseRead_moves hs hmode).2
  obtain hbusy | hchoice := hmove
  · rw [h] at hbusy; cases hbusy
  · exact ⟨hchoice.request, hchoice.programming, fun _ => takeReads_idle _ rfl h, fun _ => hp,
      fun hscan => by rw [chooseRead_mode] at hscan; obtain hm | hm := hmode <;> rw [hm] at hscan <;> cases hscan⟩

theorem chooseByMode_idle (hs : ChoiceOfMode s) (h : (chooseByMode s).op = none) : Done (chooseByMode s) := by
  have hreads (hm : s.mode = .fetchFirst ∨ s.mode = .drainFirst) (h : (orElse chooseRead startProgram s).op = none) :
      Done (orElse chooseRead startProgram s) := by
    obtain ⟨hread, heq⟩ := orElse_idle h
    rw [heq] at h ⊢
    have hp := startProgram_idle h
    rw [startProgram_none hp]
    exact chooseRead_idle hs hm hread hp
  unfold chooseByMode at h ⊢
  cases hm : s.mode with
  | fetchFirst => rw [hm] at h; exact hreads (.inl hm) h
  | drainFirst =>
    rw [hm] at h
    dsimp only at h ⊢
    split at h
    next hstarved => rw [if_pos hstarved]; exact hreads (.inr hm) h
    next hstarved =>
      rw [if_neg hstarved]
      obtain ⟨hstart, heq⟩ := orElse_idle h
      rw [heq] at h ⊢
      have hp := startProgram_idle hstart
      rw [startProgram_none hp] at h ⊢
      exact chooseRead_idle hs (.inr hm) h ((oldestPending_congr (takeReads_queue _ s)).trans hp)
  | drainOnly =>
    rw [hm] at h
    have hp := startProgram_idle h
    dsimp only
    rw [startProgram_none hp]
    refine ⟨hs.request, hs.programming, fun hno => ?_, fun _ => hp, fun hno => ?_⟩
    · rw [hm] at hno; obtain hno | hno := hno <;> cases hno
    · rw [hm] at hno; cases hno
  | scan =>
    rw [hm] at h
    dsimp only at h ⊢
    have hdone : s.scanOrder = true → Config.slots ≤ s.scanNext := fun ho => by
      rw [if_pos ho, startScan] at h
      split at h
      next => cases h
      next hn => exact Nat.le_of_not_lt hn
    have hsame : (if s.scanOrder then startScan s else s) = s := by
      split
      next ho => exact if_neg (Nat.not_lt.2 (hdone ho))
      next => rfl
    rw [hsame]
    refine ⟨hs.request, hs.programming, fun hno => ?_, fun hno => absurd hm hno, fun _ => hdone⟩
    rw [hm] at hno
    obtain hno | hno := hno <;> cases hno

theorem chooseIfIdle_idle (h : (chooseIfIdle s).op = none) : Done (chooseIfIdle s) := by
  by_cases hop : s.op = none
  · cases hr : s.markerRequest with
    | some v => rw [chooseIfIdle_marker hop hr] at h; cases h
    | none =>
      cases he : inProgramming s with
      | some e => simp only [chooseIfIdle, if_pos hop, choose, hr, he] at h; cases h
      | none =>
        rw [chooseIfIdle_mode ⟨hop, hr, he⟩] at h ⊢
        exact chooseByMode_idle ⟨hop, hr, he⟩ h
  · rw [chooseIfIdle_busy hop] at h
    exact absurd h hop

/-- An idle controller has nothing left to choose, and no CLEAN sequence to begin. -/
theorem settle_idle (h : (settle s).op = none) :
    Done (settle s) ∧ ¬((settle s).partState = .holdup ∧ (settle s).queue = [] ∧ (settle s).markerSeq = none) := by
  by_cases hclean : (chooseIfIdle s).partState = .holdup ∧ (chooseIfIdle s).queue = [] ∧ (chooseIfIdle s).op = none ∧
      (chooseIfIdle s).markerSeq = none
  · obtain ⟨hpart, hq, hop, hseq⟩ := hclean
    have hbegin := settle_clean hpart hq hop hseq
    generalize chooseIfIdle s = u at *
    rw [hbegin, chooseIfIdle_marker (s := { u with markerSeq := some (.clean, 1), markerRequest := some .clean }) hop rfl] at h
    cases h
  · have heq : settle s = chooseIfIdle s := if_neg hclean
    rw [heq] at h ⊢
    exact ⟨chooseIfIdle_idle h, fun ⟨hpart, hq, hseq⟩ => hclean ⟨hpart, hq, h, hseq⟩⟩

theorem queue_of_done (h : Done s) (hmode : s.mode ≠ .scan) : s.queue = [] := by
  refine List.eq_nil_iff_forall_not_mem.2 (fun e he => ?_)
  have hpending := List.find?_eq_none.1 (h.pending hmode) e he
  have hprogramming := List.find?_eq_none.1 h.programming e he
  cases hphase : e.phase <;> simp [hphase] at hpending hprogramming

theorem Ready.idle (h : Ready s) (hdone : Done s) (hop : s.op = none)
    (hclean : ¬(s.partState = .holdup ∧ s.queue = [] ∧ s.markerSeq = none)) :
    s.partState = .parked ∨ s.partState = .run ∧ s.queue = [] ∧ s.fetchWait = [] := by
  have hpower := h.power
  have hseq := h.quiet hop hdone.request
  cases hpart : s.partState with
  | startup =>
    obtain ⟨hmode, -, ⟨ho, -⟩ | ⟨-, -, n, -, hsome⟩⟩ := hpower.startup hpart
    · exact absurd (h.scan hop ho) (Nat.not_lt.2 (hdone.scan hmode ho))
    · rw [hseq] at hsome; cases hsome
  | run =>
    obtain ⟨hmode, -⟩ := hpower.run hpart
    exact .inr ⟨rfl, queue_of_done hdone (by obtain hm | hm := hmode <;> rw [hm] <;> nofun), hdone.reads hmode⟩
  | holdup =>
    obtain ⟨hmode, -⟩ := hpower.holdup hpart
    exact absurd ⟨hpart, queue_of_done hdone (by rw [hmode]; nofun), hseq⟩ hclean
  | parked => exact .inl rfl
  | resuming =>
    obtain ⟨-, -, -, -, n, -, hsome⟩ := hpower.resuming hpart
    rw [hseq] at hsome; cases hsome

/-- After the choice the controller's laws hold. -/
theorem Ready.settled (h : Ready s) : ControllerGood (settle s) := by
  have hs : Ready (settle s) := settle_keeps (P := Ready) (fun _ _ hu hm => hu.choiceMove hm) h
  refine ⟨hs.queue, fun _ => hs.power, fun _ => hs.op, fun _ => ⟨?_, fun hop => ?_⟩⟩
  · cases hr : (settle s).markerRequest with
    | none => rfl
    | some v =>
      have hop := (hs.request v hr).1
      rw [(settle_idle hop).1.request] at hr
      cases hr
  · obtain ⟨hdone, hclean⟩ := settle_idle hop
    exact hs.idle hdone hop hclean

end

end Sys2Proof.Machine

/-! SUPPORT. What requests, teardowns and retry passes keep of the controller's laws (R20, R34 to R36, R50, R123). -/

namespace Sys2Proof.Machine

/-! ### The work on queue and lists -/

/-- A state with all blotted out but what commands the controller and the power manager. -/
def State.control (s : State) : State :=
  { s.governed with queue := [], mode := .scan, spaceWait := [], fetchWait := [], starvation := 0 }

/-- Record and target of the entry in PROGRAMMING. -/
def pointed (s : State) : Option (Nat × Option Location) := (inProgramming s).map (fun e => (e.record, e.target))

/-- From s to t requests, teardowns and retry passes worked on queue and lists: they fill none of them outside RUN, and
the mode stays one of RUN. -/
structure Works (s t : State) : Prop where
  control  : t.control = s.control
  queue    : QueueGood s → QueueGood t
  empty    : s.partState ≠ .run → s.queue = [] → t.queue = []
  mode     : t.mode = s.mode ∨ s.partState = .run ∧ (t.mode = .fetchFirst ∨ t.mode = .drainFirst)
  space    : s.partState ≠ .run → s.spaceWait = [] → t.spaceWait = []
  reads    : s.partState ≠ .run → s.fetchWait = [] → t.fetchWait = []
  starving : (s.fetchWait = [] → s.starvation = 0) → t.fetchWait = [] → t.starvation = 0
  guard    : t.starvation ≤ s.starvation

section
variable {s t u : State} {e : Entry}

theorem control_of_governed (h : t.governed = s.governed) : t.control = s.control := (congrArg State.control h :)

theorem control_of_lessRequest (h : t.lessRequest = s.lessRequest) : t.control = s.control := (congrArg State.control h :)

theorem Works.partState (h : Works s t) : t.partState = s.partState := (congrArg State.partState h.control :)

theorem Works.of_governed (h : t.governed = s.governed) : Works s t := by
  have hqueue : t.queue = s.queue := (congrArg State.queue h :)
  have hfetch : t.fetchWait = s.fetchWait := (congrArg State.fetchWait h :)
  have hstarving : t.starvation = s.starvation := (congrArg State.starvation h :)
  exact ⟨control_of_governed h, fun hq => hq.congr hqueue, fun _ hq => hqueue.trans hq,
    .inl (congrArg State.mode h :), fun _ hw => (congrArg State.spaceWait h :).trans hw, fun _ hw => hfetch.trans hw,
    fun hs hw => hstarving.trans (hs (hfetch.symm.trans hw)), hstarving.le⟩

theorem Works.refl (s : State) : Works s s := .of_governed rfl

theorem Works.of_lessTraffic (h : t.lessTraffic = s.lessTraffic) : Works s t := .of_governed (governed_of_lessTraffic h)

theorem Works.trans (h : Works s t) (k : Works t u) : Works s u where
  control := k.control.trans h.control
  queue hq := k.queue (h.queue hq)
  empty hp hq := k.empty (by rwa [h.partState]) (h.empty hp hq)
  mode := by
    obtain hk | ⟨hp, hk⟩ := k.mode
    · rw [hk]; exact h.mode
    · exact .inr ⟨by rwa [← h.partState], hk⟩
  space hp hw := k.space (by rwa [h.partState]) (h.space hp hw)
  reads hp hw := k.reads (by rwa [h.partState]) (h.reads hp hw)
  starving hs := k.starving (h.starving hs)
  guard := k.guard.trans h.guard

/-! ### What the work keeps -/

theorem PowerGood.works (h : PowerGood s) (hw : Works s t) : PowerGood t := by
  have hpart := hw.partState
  have hbuilt : t.built = s.built := (congrArg State.built hw.control :)
  have horder : t.scanOrder = s.scanOrder := (congrArg State.scanOrder hw.control :)
  have hseq : t.markerSeq = s.markerSeq := (congrArg State.markerSeq hw.control :)
  have hpfw : t.pfwAsserted = s.pfwAsserted := (congrArg State.pfwAsserted hw.control :)
  have hmode (hno : s.partState ≠ .run) : t.mode = s.mode := hw.mode.resolve_right (fun hm => hno hm.1)
  have hsequence {v : MarkerValue} : InSequence v s → InSequence v t := fun ⟨n, hn, hs⟩ => ⟨n, hn, hseq.trans hs⟩
  refine ⟨fun hno => ?_, hw.starving h.starving, hw.guard.trans h.guard, fun hp => ?_, fun hp => ?_, fun hp => ?_,
    fun hp => ?_, fun hp => ?_⟩
  · rw [hpart] at hno
    exact ⟨hw.space hno (h.waiting hno).1, hw.reads hno (h.waiting hno).2⟩
  · rw [hpart] at hp
    have hno : s.partState ≠ .run := by rw [hp]; nofun
    obtain ⟨hm, hq, hrest⟩ := h.startup hp
    refine ⟨(hmode hno).trans hm, hw.empty hno hq, ?_⟩
    rw [horder, hbuilt, hseq]
    exact hrest.imp_right (fun ⟨ho, hb, hin⟩ => ⟨ho, hb, hsequence hin⟩)
  · rw [hpart] at hp
    obtain ⟨hm, hb, ho, hs, hf⟩ := h.run hp
    refine ⟨?_, hbuilt.trans hb, horder.trans ho, hseq.trans hs, hpfw.trans hf⟩
    obtain heq | ⟨-, hm'⟩ := hw.mode
    · rwa [heq]
    · exact hm'
  · rw [hpart] at hp
    have hno : s.partState ≠ .run := by rw [hp]; nofun
    obtain ⟨hm, hb, ho, hrest⟩ := h.holdup hp
    refine ⟨(hmode hno).trans hm, hbuilt.trans hb, horder.trans ho, ?_⟩
    rw [hseq, hpfw]
    exact hrest.imp_right (fun ⟨hq, hin⟩ => ⟨hw.empty hno hq, hsequence hin⟩)
  · rw [hpart] at hp
    have hno : s.partState ≠ .run := by rw [hp]; nofun
    obtain ⟨hm, ho, hs, hq, hf⟩ := h.parked hp
    refine ⟨?_, horder.trans ho, hseq.trans hs, hw.empty hno hq, hpfw.trans hf⟩
    rw [hmode hno, hbuilt, hm]
  · rw [hpart] at hp
    have hno : s.partState ≠ .run := by rw [hp]; nofun
    obtain ⟨hm, hb, ho, hq, hin⟩ := h.resuming hp
    exact ⟨(hmode hno).trans hm, hbuilt.trans hb, horder.trans ho, hw.empty hno hq, hsequence hin⟩

theorem opGood_pointed (s : State) : opGood s =
    match s.op with
    | none => true
    | some (.fetch _ _) => (s.partState == .run || s.partState == .holdup) && s.markerSeq.isNone && (pointed s).isNone
    | some (.program slot) =>
      (s.partState == .run || s.partState == .holdup) && s.markerSeq.isNone &&
        (pointed s).any (fun x => some slot == x.2.map (slotOf x.1))
    | some (.markerProgram v) => s.markerSeq.any (fun q => q.1 == v) && (pointed s).isNone
    | some (.scanFetch slot withdrawn) =>
      (s.partState == .startup || s.partState == .parked) && !s.built &&
        (if withdrawn then s.scanOrder == (s.partState == .startup) && (!s.scanOrder || s.scanNext == 0)
         else s.scanOrder && slot == scanSlot (s.scanNext - 1) && 1 ≤ s.scanNext && s.scanNext ≤ Config.slots) := by
  unfold opGood pointed
  cases inProgramming s <;> rfl

/-- The operation in flight reads of the queue the entry in PROGRAMMING alone. -/
theorem opGood_congr (h : t.control = s.control) (hp : pointed t = pointed s) : opGood t = opGood s := by
  have hop : t.op = s.op := (congrArg State.op h :)
  have hpart : t.partState = s.partState := (congrArg State.partState h :)
  have hbuilt : t.built = s.built := (congrArg State.built h :)
  have horder : t.scanOrder = s.scanOrder := (congrArg State.scanOrder h :)
  have hseq : t.markerSeq = s.markerSeq := (congrArg State.markerSeq h :)
  have hnext : t.scanNext = s.scanNext := (congrArg State.scanNext h :)
  rw [opGood_pointed, opGood_pointed, hop, hpart, hbuilt, horder, hseq, hnext, hp]

theorem opGood_idle (h : s.op = none) : opGood s = true := by rw [opGood, h]

theorem Ready.works (h : Ready s) (hw : Works s t) (hp : s.op = none ∨ pointed t = pointed s) : Ready t := by
  have hop : t.op = s.op := (congrArg State.op hw.control :)
  have hrequest : t.markerRequest = s.markerRequest := (congrArg State.markerRequest hw.control :)
  have hseq : t.markerSeq = s.markerSeq := (congrArg State.markerSeq hw.control :)
  have horder : t.scanOrder = s.scanOrder := (congrArg State.scanOrder hw.control :)
  have hnext : t.scanNext = s.scanNext := (congrArg State.scanNext hw.control :)
  refine ⟨hw.queue h.queue, h.power.works hw, ?_, ?_, ?_, ?_⟩
  · obtain hidle | hp := hp
    · exact opGood_idle (hop.trans hidle)
    · rw [opGood_congr hw.control hp]
      exact h.op
  · rw [hrequest, hop, hseq]; exact h.request
  · rw [hrequest, hop, hseq]; exact h.quiet
  · rw [hop, horder, hnext]; exact h.scan

/-! ### The entry in PROGRAMMING -/

theorem inProgramming_map {g : QueueEntry → QueueEntry} (hq : t.queue = s.queue.map g)
    (hphase : ∀ e, (g e).phase = e.phase) : inProgramming t = (inProgramming s).map g := by
  rw [inProgramming, hq, List.find?_map, inProgramming]
  congr 2
  funext x
  simp [hphase]

theorem pointed_map {g : QueueEntry → QueueEntry} (hq : t.queue = s.queue.map g) (hphase : ∀ e, (g e).phase = e.phase)
    (hpoint : ∀ e, e.phase = .programming → (g e).record = e.record ∧ (g e).target = e.target) :
    pointed t = pointed s := by
  rw [pointed, pointed, inProgramming_map hq hphase]
  cases he : inProgramming s with
  | none => rfl
  | some e =>
    obtain ⟨hrecord, htarget⟩ := hpoint e (phase_of_inProgramming he)
    simp [hrecord, htarget]

theorem pointed_congr (hq : t.queue = s.queue) : pointed t = pointed s := by
  rw [pointed, pointed, inProgramming, inProgramming, hq]

theorem pointed_acceptChange (e : Entry) (coalesced : Bool) (s : State) :
    pointed (acceptChange e coalesced s) = pointed s := by
  have hq := acceptChange_queue e coalesced s
  cases coalesced with
  | true =>
    refine pointed_map hq (fun x => by split <;> rfl) (fun x hx => ?_)
    rw [if_neg (fun hm => by rw [hx] at hm; cases hm.2)]
    exact ⟨rfl, rfl⟩
  | false =>
    rw [if_neg (by decide)] at hq
    rw [pointed, pointed, inProgramming, hq, List.find?_append]
    show Option.map _ ((inProgramming s).or none) = _
    rw [Option.or_none]

/-! ### Changes -/

theorem run_of_decision (h : ∀ code, decisionOf e s ≠ .refused code) : s.partState = .run :=
  Decidable.byContradiction fun hno => h _ (acceptance_not_run hno)

theorem modeAfterAcceptance_works (s : State) : Works s (modeAfterAcceptance s) := by
  unfold modeAfterAcceptance
  split
  next h =>
    exact ⟨rfl, fun hq => hq.congr rfl, fun _ hq => hq, .inr ⟨h.1, .inr rfl⟩, fun _ hw => hw, fun _ hw => hw,
      fun hs => hs, le_rfl⟩
  next => exact .refl s

theorem modeAfterRemoval_works (s : State) : Works s (modeAfterRemoval s) := by
  unfold modeAfterRemoval
  split
  next h =>
    exact ⟨rfl, fun hq => hq.congr rfl, fun _ hq => hq, .inr ⟨h.1, .inl rfl⟩, fun _ hw => hw, fun _ hw => hw,
      fun hs => hs, le_rfl⟩
  next => exact .refl s

theorem decision_append (h : decisionOf e s = .append) :
    pendingEntry s e.args.record = none ∧ s.queue.length < Config.queueSize := by
  have hcases := acceptance_cases s e.port e.args.record (expectedOf e)
  rw [show acceptance s e.port e.args.record (expectedOf e) = .append from h] at hcases
  obtain ⟨-, -, -, -, hn, hroom⟩ := by simpa using hcases
  exact ⟨hn, hroom⟩

/-- In RUN the queue may take any good form. -/
theorem Works.queued (hrun : s.partState = .run) {q : List QueueEntry} (hq : QueueGood s → QueueGood { s with queue := q }) :
    Works s { s with queue := q } :=
  ⟨rfl, hq, fun hno => absurd hrun hno, .inl rfl, fun _ hw => hw, fun _ hw => hw, fun hs => hs, le_rfl⟩

theorem acceptChange_works {coalesced : Bool} (hd : decisionOf e s = if coalesced then .merge else .append) :
    Works s (acceptChange e coalesced s) := by
  have hrun : s.partState = .run := run_of_decision (fun code hno => by
    rw [hno] at hd; cases coalesced <;> cases hd)
  have hplaced : Works s (placeChange e.port e.args.record (changeOf e) (nextVersion (visibleVersion s e.args.record))
      coalesced s) := by
    refine (Works.queued hrun (fun hq => ?_)).trans (modeAfterAcceptance_works _)
    cases coalesced with
    | true => exact hq.merge (nextVersion_ne_zero _) rfl
    | false =>
      obtain ⟨hn, hroom⟩ := decision_append hd
      exact hq.append (nextVersion_ne_zero _) hn hroom rfl
  have hreported (p r v kind) (u : State) : Works u (reportChange p r v kind u) :=
    .of_governed (governed_of_lessPorts (reportChange_frame p r v kind u))
  unfold acceptChange
  exact (hplaced.trans (.of_lessTraffic (answer_frame _ _ _))).trans (hreported _ _ _ _ _)

theorem refuse_works (e : Entry) (code : NakCode) (s : State) : Works s (refuse e code s) :=
  .of_lessTraffic (answer_frame _ _ _)

theorem settleChange_works (e : Entry) (s : State) : Works s (settleChange e (decisionOf e s) s) := by
  cases hd : decisionOf e s with
  | refused code => exact refuse_works e code s
  | merge => exact acceptChange_works (coalesced := true) hd
  | append => exact acceptChange_works (coalesced := false) hd
  | wait => exact .refl s

/-- Waiters leave their list. -/
theorem Works.leaveSpace (l : List Nat) (hl : s.spaceWait = [] → l = []) : Works s { s with spaceWait := l } :=
  ⟨rfl, fun hq => hq.congr rfl, fun _ hq => hq, .inl rfl, fun _ hw => hl hw, fun _ hw => hw, fun hs => hs, le_rfl⟩

theorem retryWalk_works (l : List Nat) (blocked : PortSet) (s : State) : Works s (retryWalk l blocked s) := by
  induction l generalizing blocked s with
  | nil => exact .refl s
  | cons id l ih =>
    rw [retryWalk]
    split
    · exact ih _ _
    · next e he =>
      split
      · exact ih _ _
      · split
        · exact ih _ _
        · have hleave : Works s (leaveWaiters id s) := .leaveSpace _ (fun hw => by rw [hw]; rfl)
          exact (hleave.trans (settleChange_works e (leaveWaiters id s))).trans (ih _ _)

theorem retryPass_works (s : State) : Works s (retryPass s) := retryWalk_works _ _ s

/-! ### Teardowns and requests -/

theorem Works.mapQueue {g : QueueEntry → QueueEntry} (hrecord : ∀ e, (g e).record = e.record)
    (hphase : ∀ e, (g e).phase = e.phase) (hgood : ∀ e, EntryGood e → EntryGood (g e)) :
    Works s { s with queue := s.queue.map g } :=
  ⟨rfl, fun hq => hq.of_map rfl hrecord hphase (fun e _ => hgood e), fun _ hq => by rw [hq]; rfl, .inl rfl,
    fun _ hw => hw, fun _ hw => hw, fun hs => hs, le_rfl⟩

theorem Works.setFetchWait {l : List Nat} (hl : s.fetchWait = [] → l = []) : Works s (setFetchWait l s) := by
  refine ⟨rfl, fun hq => hq.congr rfl, fun _ hq => hq, .inl rfl, fun _ hw => hw, fun _ hw => hl hw, fun _ hw => if_pos hw, ?_⟩
  show (if l = [] then 0 else s.starvation) ≤ s.starvation
  split
  · exact Nat.zero_le _
  · exact le_rfl

theorem entryGood_unmarked (p : PortId) {e : QueueEntry} (h : EntryGood e) :
    EntryGood { e with marks := dropPort e.marks p } := by
  obtain ⟨hv, ho, hmarks, hpending, hprogramming⟩ := h
  exact ⟨hv, ho, fun q hq hm => hmarks q hq ((inPorts_dropPort _ _ _).1 hm).2, hpending, hprogramming⟩

theorem entryGood_marked (p : PortId) {e : QueueEntry} (h : EntryGood e) :
    EntryGood (if inPorts e.origins p then { e with marks := addPort e.marks p } else e) := by
  split
  next ho =>
    obtain ⟨hv, hne, hmarks, hpending, hprogramming⟩ := h
    refine ⟨hv, hne, fun q hq hm => ?_, hpending, hprogramming⟩
    obtain rfl | hm := (inPorts_addPort _ _ _).1 hm
    · exact ho
    · exact hmarks q hq hm
  next => exact h

theorem teardown_works (p : PortId) (keep : Option Nat) (s : State) : Works s (teardown p keep s) ∧
    pointed (teardown p keep s) = pointed s := by
  refine ⟨?_, pointed_map (g := fun e => { e with marks := dropPort e.marks p }) rfl (fun _ => rfl) (fun _ _ => ⟨rfl, rfl⟩)⟩
  have hqueue : Works s { s with queue := s.queue.map (fun e => { e with marks := dropPort e.marks p }) } :=
    .mapQueue (fun _ => rfl) (fun _ => rfl) (fun _ => entryGood_unmarked p)
  refine hqueue.trans ((Works.setFetchWait (l := s.fetchWait.filter (fun id => !(endingIds p keep s).contains id))
    (fun hw => by rw [show s.fetchWait = [] from hw]; rfl)).trans ?_)
  refine (Works.leaveSpace (s.spaceWait.filter (fun id => !(endingIds p keep s).contains id))
    (fun hw => by rw [show s.spaceWait = [] from hw]; rfl)).trans (.of_governed rfl)

theorem sessionEnded_works (p : PortId) (s : State) : Works s (sessionEnded p s) := by
  unfold sessionEnded
  split
  · exact (teardown_works p none s).1
  · exact .refl s

theorem attend_works (p : PortId) (s : State) : Works s (attend p s) ∧ pointed (attend p s) = pointed s := by
  have hframe := attend_lessTraffic p s
  refine ⟨(sessionEnded_works p s).trans (.of_lessTraffic hframe), (pointed_congr (queue_of_lessTraffic hframe)).trans ?_⟩
  unfold sessionEnded
  split
  · exact (teardown_works p none s).2
  · rfl

/-- The work of a request, with the entry in PROGRAMMING kept. -/
abbrev Serves (s t : State) : Prop := Works s t ∧ pointed t = pointed s

theorem Serves.trans (h : Serves s t) (k : Serves t u) : Serves s u := ⟨h.1.trans k.1, k.2.trans h.2⟩

theorem Serves.of_governed (h : t.governed = s.governed) : Serves s t :=
  ⟨.of_governed h, pointed_congr (congrArg State.queue h :)⟩

theorem Serves.of_lessTraffic (h : t.lessTraffic = s.lessTraffic) : Serves s t :=
  .of_governed (governed_of_lessTraffic h)

theorem openedFrom_serves (e : Entry) (s : State) : Serves s (openedFrom e s) := by
  unfold openedFrom
  split
  · exact teardown_works _ _ s
  · exact .of_governed rfl

theorem answer_serves (id : Nat) (a : Answer) (s : State) : Serves s (answer id a s) := .of_lessTraffic (answer_frame id a s)

theorem openFlush_serves (e : Entry) (s : State) : Serves s (openFlush e s) := by
  have hmap : (openFlush e s).queue = s.queue.map (fun x =>
    if inPorts x.origins e.port then { x with marks := addPort x.marks e.port } else x) := rfl
  refine ⟨?_, pointed_map hmap (fun x => by split <;> rfl) (fun x _ => by split <;> exact ⟨rfl, rfl⟩)⟩
  refine (Works.mapQueue (fun x => ?_) (fun x => ?_) (fun x => entryGood_marked e.port)).trans (.of_governed ?_)
  · split <;> rfl
  · split <;> rfl
  · rfl

theorem hasWaiter_space {p : PortId} (h : hasWaiter s p = true) : s.spaceWait ≠ [] := fun hno => by
  rw [hasWaiter, hno] at h
  cases h

theorem Handled.serves (h : Handled e s u) (hs : PowerGood s) : Serves s u := by
  cases h with
  | answered a => exact answer_serves _ a s
  | readWaits hk hrun =>
    exact ⟨⟨rfl, fun hq => hq.congr rfl, fun _ hq => hq, .inl rfl, fun _ hw => hw, fun hno => absurd hrun hno,
      fun _ hw => absurd hw (by simp [joinFetch]), le_rfl⟩, pointed_congr rfl⟩
  | changeWaits hk hw =>
    have hrun : s.partState = .run := by
      obtain hw | hd := hw
      · exact Decidable.byContradiction fun hno => hasWaiter_space hw (hs.waiting hno).1
      · exact run_of_decision (fun code hno => by rw [hno] at hd; cases hd)
    exact ⟨⟨rfl, fun hq => hq.congr rfl, fun _ hq => hq, .inl rfl, fun hno => absurd hrun hno, fun _ hw => hw,
      fun hs => hs, le_rfl⟩, pointed_congr rfl⟩
  | changed _ _ b hd => exact ⟨acceptChange_works hd, pointed_acceptChange e b s⟩
  | flushOpens => exact openFlush_serves e s
  | claimed => exact (Serves.of_governed (by rfl)).trans (answer_serves _ _ _)
  | released => exact (Serves.of_governed (by rfl)).trans (answer_serves _ _ _)
  | watched => exact (Serves.of_governed (by rfl)).trans (answer_serves _ _ _)
  | unwatched => exact (Serves.of_governed (by rfl)).trans (answer_serves _ _ _)
  | opened =>
    rw [handleOpen_eq]
    have hbegin : Serves (openedFrom e s) (updPort e.port beginSession (openedFrom e s)) := .of_governed rfl
    exact ((openedFrom_serves e s).trans hbegin).trans (answer_serves _ _ _)
  | closed =>
    exact ((answer_serves _ _ _).trans (teardown_works _ _ _)).trans (.of_governed (by rfl))
  | statusTold => exact (answer_serves _ _ _).trans (.of_governed (by rfl))

end

end Sys2Proof.Machine

/-! SUPPORT. What completions, PFW and resets leave to the controller's choice (R64 to R70, R149 to R167). -/

namespace Sys2Proof.Machine

section
variable {s t u : State}

/-! ### The end of an operation -/

/-- Fetches and programs end in RUN or in HOLDUP before the CLEAN sequence. -/
theorem Ready.serving (h : Ready s) (hop : (∃ id slot, s.op = some (.fetch id slot)) ∨ ∃ slot, s.op = some (.program slot)) :
    (s.partState = .run ∨ s.partState = .holdup) ∧ s.markerSeq = none := by
  have hgood := h.op
  obtain ⟨id, slot, hop⟩ | ⟨slot, hop⟩ := hop <;> rw [opGood, hop] at hgood <;>
    simp only [Bool.and_eq_true, Bool.or_eq_true, beq_iff_eq, Option.isNone_iff_eq_none] at hgood <;> exact hgood.1

theorem Ready.ended (h : Ready s) (hbusy : s.op ≠ none) (hseq : s.markerSeq = none)
    (hscan : s.scanOrder = true → s.scanNext < Config.slots) : Ready { s with op := none } where
  queue := h.queue.congr rfl
  power := ⟨h.power.waiting, h.power.starving, h.power.guard, h.power.startup, h.power.run, h.power.holdup, h.power.parked,
    h.power.resuming⟩
  op := rfl
  request v hv := absurd (h.request v hv).1 hbusy
  quiet _ _ := hseq
  scan _ := hscan

theorem Ready.served (h : Ready s) (hop : (∃ id slot, s.op = some (.fetch id slot)) ∨ ∃ slot, s.op = some (.program slot)) :
    Ready { s with op := none } := by
  obtain ⟨hpart, hseq⟩ := h.serving hop
  refine h.ended ?_ hseq (fun ho => ?_)
  · obtain ⟨_, _, hop⟩ | ⟨_, hop⟩ := hop <;> rw [hop] <;> nofun
  · have hstartup := (h.power.scanOrdered ho).1
    obtain hpart | hpart := hpart <;> rw [hpart] at hstartup <;> cases hstartup

theorem fetchDone_governed (e : Entry) (image : List Byte) (s : State) :
    (fetchDone e image s).governed = { s with op := none }.governed := by
  have hcheck (r : Nat) (good : Bool) (u : State) : (applyCheck r good u).governed = u.governed := by
    unfold applyCheck
    split <;> rfl
  unfold fetchDone
  dsimp only
  split
  · exact hcheck _ _ _
  · exact (governed_of_lessTraffic (answer_frame _ _ _)).trans (hcheck _ _ _)

/-! ### The end of a program -/

/-- Entries leave the queue. -/
theorem Works.leaveQueue {l : List QueueEntry} (hl : l.Sublist s.queue) (h : t.governed = { s with queue := l }.governed) :
    Works s t := by
  have hwork : Works s { s with queue := l } :=
    ⟨rfl, fun hq => hq.of_sublist hl, fun _ hq => List.sublist_nil.1 (hq ▸ hl), .inl rfl, fun _ hw => hw, fun _ hw => hw,
      fun hs => hs, le_rfl⟩
  exact hwork.trans (.of_governed h)

theorem governed_retire (l : Location) (s : State) : (retire l s).governed = s.governed := by cases l <;> rfl

theorem governed_dropTarget (e : QueueEntry) (s : State) : (dropTarget e s).governed = s.governed := by
  unfold dropTarget
  split
  · rw [retireReserved]
    split
    · rfl
    · exact governed_retire _ s
  · rfl

/-- Marks go, then a retry pass follows. -/
theorem afterRemoval_works (removed : List QueueEntry) (fault : Bool) (s : State) :
    Works s (retryPass (dropAllMarks removed fault s)) :=
  (Works.of_lessTraffic (dropAllMarks_frame removed fault s)).trans (retryPass_works _)

theorem commit_works (e : QueueEntry) (s : State) : Works s (commit e s) := by
  have hpool : (if e.target.getD (rowOf s e.record).location = (rowOf s e.record).location then s
      else retire (rowOf s e.record).location s).governed = s.governed := by
    split
    · rfl
    · exact governed_retire _ s
  refine Works.trans ?_ ((modeAfterRemoval_works _).trans (afterRemoval_works _ _ _))
  refine (Works.of_governed hpool).trans (.leaveQueue List.filter_sublist (Eq.refl _))

theorem faultRecord_works (e : QueueEntry) (s : State) : Works s (faultRecord e s) := by
  have hreported (r v origins) (u : State) : Works u (reportFault r v origins u) :=
    .of_governed (governed_of_lessPorts (reportFault_frame r v origins u))
  refine Works.trans ?_ ((modeAfterRemoval_works _).trans ((hreported _ _ _ _).trans (afterRemoval_works _ _ _)))
  exact .leaveQueue List.filter_sublist (Eq.refl _)

/-- The entry in PROGRAMMING is changed, with another attempt or on another target. -/
theorem updProgramming_works {f : QueueEntry → QueueEntry} (hrecord : ∀ x, (f x).record = x.record)
    (hphase : ∀ x, (f x).phase = x.phase)
    (hgood : ∀ x, inProgramming s = some x → EntryGood x → EntryGood (f x)) : Works s (updProgramming f s) := by
  refine ⟨rfl, fun hq => ?_, fun _ hq => by rw [updProgramming, hq]; rfl, .inl rfl, fun _ hw => hw, fun _ hw => hw,
    fun hs => hs, le_rfl⟩
  refine hq.of_map rfl (fun x => by split <;> simp [hrecord]) (fun x => by split <;> simp [hphase]) (fun x hx hx' => ?_)
  split
  next hp =>
    cases he : inProgramming s with
    | none => exact absurd (by simpa using hp) (List.find?_eq_none.1 he x hx)
    | some e => exact hgood x (by rw [hq.eq_inProgramming he hx hp]; exact he) hx'
  next => exact hx'

theorem programFailed_works {e : QueueEntry} (he : inProgramming s = some e) : Works s (programFailed e s) := by
  have hphase := phase_of_inProgramming he
  unfold programFailed
  split
  next hattempts =>
    refine updProgramming_works (fun _ => rfl) (fun _ => rfl) (fun x hx hgood => ?_)
    obtain rfl : e = x := Option.some.inj (he.symm.trans hx)
    obtain ⟨hv, ho, hmarks, hpending, hprogramming⟩ := hgood
    obtain ⟨-, -, htarget⟩ := hprogramming hphase
    exact ⟨hv, ho, hmarks, fun hp => absurd (hphase.symm.trans hp) nofun, fun _ => ⟨Nat.le_add_left _ _, hattempts, htarget⟩⟩
  next =>
    split
    next n _ =>
      have hkept : (setSpare n (.inUse e.record) (dropTarget e s)).governed = s.governed := governed_dropTarget e s
      have hsame : inProgramming (setSpare n (.inUse e.record) (dropTarget e s)) = inProgramming s := by
        rw [inProgramming, inProgramming]
        exact congrArg _ (congrArg State.queue hkept :)
      refine (Works.of_governed hkept).trans (updProgramming_works (fun _ => rfl) (fun _ => rfl) (fun x hx hgood => ?_))
      obtain rfl : e = x := Option.some.inj (he.symm.trans (hsame.symm.trans hx))
      obtain ⟨hv, ho, hmarks, hpending, hprogramming⟩ := hgood
      exact ⟨hv, ho, hmarks, fun hp => absurd (hphase.symm.trans hp) nofun, fun _ => ⟨le_rfl, (by decide : 1 ≤ Config.maxAttempts), rfl⟩⟩
    next =>
      rw [giveUp_eq]
      exact (Works.of_governed (governed_dropTarget e s)).trans (faultRecord_works e _)

theorem programDone_works {e : QueueEntry} (he : inProgramming s = some e) (slot : Nat) (got : Cells) :
    Works { s with op := none } (programDone e slot got s) := by
  have hwritten : Works { s with op := none } (writeSlot slot (cellsLeft (entryImage e) got) { s with op := none }) :=
    .of_governed rfl
  unfold programDone
  dsimp only
  split
  · exact hwritten.trans (commit_works e _)
  · exact hwritten.trans (programFailed_works he)

/-! ### A drained part -/

/-- What the part state says. -/
def PartGood (s : State) : Prop :=
  match s.partState with
  | .startup => StartupGood s
  | .run => RunGood s
  | .holdup => HoldupGood s
  | .parked => ParkedGood s
  | .resuming => ResumingGood s

/-- Nothing waits in the queue or in the lists. -/
structure Emptied (s : State) : Prop where
  queue : s.queue = []
  space : s.spaceWait = []
  reads : s.fetchWait = []
  starving : s.starvation = 0

theorem Emptied.power (h : Emptied s) (hp : PartGood s) : PowerGood s where
  waiting _ := ⟨h.space, h.reads⟩
  starving _ := h.starving
  guard := by rw [h.starving]; exact Nat.zero_le _
  startup hpart := by rwa [PartGood, hpart] at hp
  run hpart := by rwa [PartGood, hpart] at hp
  holdup hpart := by rwa [PartGood, hpart] at hp
  parked hpart := by rwa [PartGood, hpart] at hp
  resuming hpart := by rwa [PartGood, hpart] at hp

theorem queueGood_empty (h : s.queue = []) : QueueGood s := by
  refine ⟨?_, ?_, ?_⟩ <;> rw [h]
  · exact Nat.zero_le _
  · exact .nil
  · nofun

/-- A drained part with an idle array, where a sequence in course has its program requested. -/
theorem Emptied.ready (h : Emptied s) (hp : PartGood s) (hop : s.op = none) (ho : s.scanOrder = false)
    (hreq : s.markerRequest = s.markerSeq.map Prod.fst) : Ready s where
  queue := queueGood_empty h.queue
  power := h.power hp
  op := opGood_idle hop
  request v hv := by
    rw [hreq] at hv
    obtain ⟨⟨w, n⟩, hseq, rfl⟩ := Option.map_eq_some_iff.1 hv
    exact ⟨hop, n, hseq⟩
  quiet _ hnone := Option.map_eq_none_iff.1 (hreq.symm.trans hnone)
  scan _ hyes := by rw [ho] at hyes; cases hyes

theorem announce_governed (s : State) : (announce s).governed = s.governed :=
  governed_of_lessPorts (announce_frame s)

/-- Outside RUN with nothing waiting the starvation count is 0. -/
theorem PowerGood.emptied (h : PowerGood s) (hpart : s.partState ≠ .run) (hq : s.queue = []) : Emptied s :=
  ⟨hq, (h.waiting hpart).1, (h.waiting hpart).2, h.starving (h.waiting hpart).2⟩

/-! ### The end of a marker program -/

theorem Ready.markerProgram (h : Ready s) {v : MarkerValue} (hop : s.op = some (.markerProgram v)) :
    ∃ n, s.markerSeq = some (v, n) := by
  have hgood := h.op
  rw [opGood, hop] at hgood
  cases hseq : s.markerSeq with
  | none => rw [hseq] at hgood; cases hgood
  | some q =>
    obtain ⟨w, n⟩ := q
    rw [hseq] at hgood
    simp only [Bool.and_eq_true, Option.any_some, beq_iff_eq] at hgood
    exact ⟨n, by rw [hgood.1]⟩

/-- Nothing is done in the marker slot's write that the laws read. -/
theorem Ready.sequence (h : Ready s) {v : MarkerValue} {n : Nat} (hseq : s.markerSeq = some (v, n)) :
    Emptied s ∧ s.scanOrder = false ∧ s.built = true ∧
      (v = .dirty ∧ (s.partState = .startup ∧ s.mode = .scan ∨ s.partState = .resuming ∧ s.mode = .drainOnly) ∨
        v = .clean ∧ s.partState = .holdup ∧ s.mode = .drainOnly) := by
  have hpower := h.power
  have hsome : s.markerSeq ≠ none := by rw [hseq]; nofun
  have hq := hpower.drained hsome
  cases hpart : s.partState with
  | startup =>
    obtain ⟨hm, -, ⟨-, -, hno⟩ | ⟨ho, hb, k, -, hs⟩⟩ := hpower.startup hpart
    · exact absurd hno hsome
    · cases hseq.symm.trans hs
      exact ⟨hpower.emptied (by rw [hpart]; nofun) hq, ho, hb, .inl ⟨rfl, .inl ⟨rfl, hm⟩⟩⟩
  | run => exact absurd (hpower.run hpart).2.2.2.1 hsome
  | holdup =>
    obtain ⟨hm, hb, ho, ⟨hno, -⟩ | ⟨-, k, -, hs⟩⟩ := hpower.holdup hpart
    · exact absurd hno hsome
    · cases hseq.symm.trans hs
      exact ⟨hpower.emptied (by rw [hpart]; nofun) hq, ho, hb, .inr ⟨rfl, rfl, hm⟩⟩
  | parked => exact absurd (hpower.parked hpart).2.2.1 hsome
  | resuming =>
    obtain ⟨hm, hb, ho, -, k, -, hs⟩ := hpower.resuming hpart
    cases hseq.symm.trans hs
    exact ⟨hpower.emptied (by rw [hpart]; nofun) hq, ho, hb, .inl ⟨rfl, .inr ⟨rfl, hm⟩⟩⟩

theorem nextAttempt_mem {n : Nat} (hlt : n < Config.maxAttempts) : n + 1 ∈ [1, 2, 3] := by
  have : n < 3 := hlt
  simp only [List.mem_cons, List.not_mem_nil, or_false]
  omega

/-- A drained part whose array is idle, an attempt of a marker sequence completed. -/
structure Finishing (s : State) : Prop where
  empty   : Emptied s
  idle    : s.op = none
  request : s.markerRequest = none
  order   : s.scanOrder = false
  built   : s.built = true

section
variable {n : Nat}

theorem Finishing.emptied (h : Finishing s) {w : State} (hq : w.queue = s.queue) (hspace : w.spaceWait = s.spaceWait)
    (hfetch : w.fetchWait = s.fetchWait) (hstarving : w.starvation = s.starvation) : Emptied w :=
  ⟨hq.trans h.empty.queue, hspace.trans h.empty.space, hfetch.trans h.empty.reads, hstarving.trans h.empty.starving⟩

theorem Finishing.toHoldup (h : Finishing s) (hpfw : s.pfwAsserted = true) :
    Ready (enterHoldup { s with markerSeq := none }) := by
  refine Ready.of_governed ?_ (announce_governed _)
  refine (h.emptied ?_ ?_ ?_ ?_).ready ?_ h.idle h.order h.request
  iterate 4 rfl
  exact ⟨rfl, h.built, h.order, .inl ⟨rfl, hpfw⟩⟩

theorem modeAtRun_cases (s : State) : modeAtRun s = .fetchFirst ∨ modeAtRun s = .drainFirst := by
  unfold modeAtRun
  split
  · exact .inr rfl
  · exact .inl rfl

theorem Finishing.toRun (h : Finishing s) (hpfw : s.pfwAsserted = false) (fault : Bool) :
    Ready (enterRun { s with markerSeq := none, markerFault := fault }) := by
  refine Ready.of_governed ?_ (announce_governed _)
  refine (h.emptied ?_ ?_ ?_ ?_).ready ?_ h.idle h.order h.request
  iterate 4 rfl
  exact ⟨modeAtRun_cases _, h.built, h.order, rfl, hpfw⟩

theorem Finishing.toParked (h : Finishing s) (hmode : s.mode = .drainOnly) (hpfw : s.pfwAsserted = true) (fault : Bool) :
    Ready (enterParked { s with markerSeq := none, markerFault := fault }) := by
  refine Ready.of_governed ?_ (announce_governed _)
  refine (h.emptied ?_ ?_ ?_ ?_).ready ?_ h.idle h.order h.request
  iterate 4 rfl
  exact ⟨hmode.trans (if_pos h.built).symm, h.order, rfl, h.empty.queue, hpfw⟩

theorem Finishing.toResuming (h : Finishing s) (hmode : s.mode = .drainOnly) :
    Ready (enterResuming { s with markerSeq := none }) := by
  refine (h.emptied ?_ ?_ ?_ ?_).ready ?_ h.idle h.order rfl
  iterate 4 rfl
  exact ⟨hmode, h.built, h.order, h.empty.queue, 1, by decide, rfl⟩

/-- The next attempt is requested in the part state of the sequence. -/
theorem Finishing.again (h : Finishing s) {v : MarkerValue}
    (hpart : PartGood (nextAttempt v n s)) : Ready (nextAttempt v n s) := by
  refine (h.emptied ?_ ?_ ?_ ?_).ready hpart h.idle h.order rfl
  iterate 4 rfl

theorem dirtyDone_ready (h : Finishing s)
    (hpart : s.partState = .startup ∧ s.mode = .scan ∨ s.partState = .resuming ∧ s.mode = .drainOnly) (ok : Bool) :
    Ready (dirtyDone ok n s) := by
  unfold dirtyDone
  split
  next hpfw => exact h.toHoldup hpfw
  next hpfw =>
    have hpfw : s.pfwAsserted = false := by simpa using hpfw
    split
    · exact h.toRun hpfw s.markerFault
    · split
      next hlt =>
        refine h.again ?_
        have hseq : InSequence .dirty (nextAttempt .dirty n s) := ⟨n + 1, nextAttempt_mem hlt, rfl⟩
        obtain ⟨hp, hm⟩ | ⟨hp, hm⟩ := hpart
        · simp only [PartGood, show (nextAttempt .dirty n s).partState = .startup from hp]
          exact ⟨hm, h.empty.queue, .inr ⟨h.order, h.built, hseq⟩⟩
        · simp only [PartGood, show (nextAttempt .dirty n s).partState = .resuming from hp]
          exact ⟨hm, h.built, h.order, h.empty.queue, hseq⟩
      next => exact h.toRun hpfw true

theorem cleanDone_ready (h : Finishing s) (hpart : s.partState = .holdup) (hmode : s.mode = .drainOnly) (ok : Bool) :
    Ready (cleanDone ok n s) := by
  unfold cleanDone
  split
  next hpfw =>
    split
    · exact h.toParked hmode hpfw s.markerFault
    · split
      next hlt =>
        refine h.again ?_
        simp only [PartGood, show (nextAttempt .clean n s).partState = .holdup from hpart]
        exact ⟨hmode, h.built, h.order, .inr ⟨h.empty.queue, n + 1, nextAttempt_mem hlt, rfl⟩⟩
      next => exact h.toParked hmode hpfw true
  next => exact h.toResuming hmode

end

/-- An idle array between the attempts and at the end of a marker sequence. -/
theorem markerDone_ready (h : Ready s) {v : MarkerValue} (hop : s.op = some (.markerProgram v)) (ok : Bool) {u : State}
    (hu : u.governed = { s with op := none }.governed) : Ready (markerDone ok u) := by
  obtain ⟨n, hseq⟩ := h.markerProgram hop
  obtain ⟨⟨hq, hspace, hreads, hstarving⟩, ho, hb, hpart⟩ := h.sequence hseq
  have hrequest : s.markerRequest = none := by
    cases hr : s.markerRequest with
    | none => rfl
    | some w => have := (h.request w hr).1; rw [hop] at this; cases this
  have hfinishing : Finishing u := ⟨⟨(congrArg State.queue hu :).trans hq, (congrArg State.spaceWait hu :).trans hspace,
    (congrArg State.fetchWait hu :).trans hreads, (congrArg State.starvation hu :).trans hstarving⟩,
    (congrArg State.op hu :), (congrArg State.markerRequest hu :).trans hrequest, (congrArg State.scanOrder hu :).trans ho,
    (congrArg State.built hu :).trans hb⟩
  rw [← show u.partState = s.partState from (congrArg State.partState hu :),
    ← show u.mode = s.mode from (congrArg State.mode hu :)] at hpart
  rw [markerDone, show u.markerSeq = some (v, n) from (congrArg State.markerSeq hu :).trans hseq]
  obtain ⟨rfl, hpart⟩ | ⟨rfl, hpart, hmode⟩ := hpart
  · exact dirtyDone_ready hfinishing hpart ok
  · exact cleanDone_ready hfinishing hpart hmode ok

end

end Sys2Proof.Machine

/-! SUPPORT. The controller's laws at scan fetches, PFW and resets (R60, R149 to R167). O57 is settled here. -/

namespace Sys2Proof.Machine

section
variable {s t u : State}

/-! ### Scan fetches -/

theorem Ready.of_withdrawn (h : Ready s) {slot : Nat} (hop : s.op = some (.scanFetch slot true)) : Ready { s with op := none } := by
  have hgood := h.op
  rw [opGood, hop] at hgood
  simp only [Bool.and_eq_true, Bool.or_eq_true, beq_iff_eq, Bool.not_eq_true', if_true] at hgood
  obtain ⟨⟨hpart, hb⟩, -, hnext⟩ := hgood
  refine h.ended (by rw [hop]; nofun) ?_ (fun ho => ?_)
  · obtain hpart | hpart := hpart
    · obtain ⟨-, -, ⟨-, -, hseq⟩ | ⟨-, hb', -⟩⟩ := h.power.startup hpart
      · exact hseq
      · rw [hb] at hb'; cases hb'
    · exact (h.power.parked hpart).2.2.1
  · have hzero : s.scanNext = 0 := hnext.resolve_left (by rw [ho]; nofun)
    rw [hzero]
    decide

theorem reconcile_governed {slot : Nat} (h : slot ≠ 1055) (image : List Byte) (s : State) :
    (reconcile slot image s).governed = s.governed := by
  rw [reconcile_eq h]
  rfl

theorem reconcileSpare_governed (n : Nat) (image : List Byte) (s : State) :
    (reconcileSpare n image s).governed = s.governed := by
  rw [reconcileSpare_eq]
  rfl

theorem ControllerGood.scanFetchDone_ready (h : ControllerGood s) (hr : s.resetHold = none) {slot : Nat} {withdrawn : Bool}
    (hop : s.op = some (.scanFetch slot withdrawn)) (got : Cells) : Ready (scanFetchDone slot withdrawn got s) := by
  have hready := h.ready hr
  unfold scanFetchDone
  dsimp only
  cases withdrawn with
  | true => exact hready.of_withdrawn hop
  | false =>
    have hscan := h.scanning_slot hr hop
    have hseq := (hready.power.scanOrdered hscan.order).2.2
    rw [if_neg (by rw [show s.scanOrder = true from hscan.order]; nofun)]
    by_cases hslot : slot = 1055
    · have hempty := hready.power.emptied (by rw [hscan.part]; nofun) hscan.queue
      have hspare := reconcileSpare_governed 31 (cellsRead s 1055 got) { s with op := none }
      rw [hslot, reconcile_last]
      generalize reconcileSpare 31 (cellsRead s 1055 got) { s with op := none } = u at *
      refine Emptied.ready ⟨(congrArg State.queue hspare :).trans hempty.queue, (congrArg State.spaceWait hspare :).trans hempty.space,
        (congrArg State.fetchWait hspare :).trans hempty.reads, (congrArg State.starvation hspare :).trans hempty.starving⟩
        ?_ (congrArg State.op hspare :) rfl rfl
      simp only [PartGood, show (scanDone u).partState = .startup from (congrArg State.partState hspare :).trans hscan.part]
      exact ⟨(congrArg State.mode hspare :).trans hscan.mode, (congrArg State.queue hspare :).trans hscan.queue,
        .inr ⟨rfl, rfl, 1, by decide, rfl⟩⟩
    · refine Ready.of_governed ?_ (reconcile_governed hslot _ _)
      refine hready.ended (by rw [hop]; nofun) hseq (fun _ => ?_)
      have hnext := mt hscan.slot_last.2 hslot
      exact lt_of_le_of_ne hscan.last hnext

/-! ### PFW -/

/-- Fetches and programs go on when the part moves between RUN and HOLDUP. -/
theorem opGood_serving (h : opGood s = true) (hs : s.partState = .run ∨ s.partState = .holdup)
    (ht : t.partState = .run ∨ t.partState = .holdup) (hop : t.op = s.op) (hseq : t.markerSeq = s.markerSeq)
    (hq : t.queue = s.queue) : opGood t = true := by
  have hprog : inProgramming t = inProgramming s := by rw [inProgramming, hq, inProgramming]
  have hs' : (s.partState == .run || s.partState == .holdup) = true := by simpa using hs
  have ht' : (t.partState == .run || t.partState == .holdup) = true := by simpa using ht
  have hno : (s.partState == .startup || s.partState == .parked) = false := by
    obtain hs | hs := hs <;> rw [hs] <;> rfl
  unfold opGood at h ⊢
  rw [hop, hseq, hprog]
  cases ho : s.op with
  | none => rfl
  | some op =>
    rw [ho] at h
    cases op with
    | fetch => dsimp only at h ⊢; rw [hs'] at h; rwa [ht']
    | program => dsimp only at h ⊢; rw [hs'] at h; rwa [ht']
    | markerProgram => exact h
    | scanFetch => dsimp only at h; rw [hno] at h; cases h

/-- From RUN the part enters HOLDUP with both lists empty. -/
theorem Ready.toHoldup (h : Ready s) (hpart : s.partState = .run) : Ready (holdupFromRun { s with pfwAsserted := true }) := by
  obtain ⟨-, hb, ho, hseq, -⟩ := h.power.run hpart
  rw [holdupFromRun_eq]
  generalize (holdupFromRun { s with pfwAsserted := true }).ports = ports
  generalize (holdupFromRun { s with pfwAsserted := true }).table = table
  refine ⟨h.queue.congr rfl, ⟨fun _ => ⟨rfl, rfl⟩, fun _ => rfl, Nat.zero_le _, nofun, nofun,
    fun _ => ⟨rfl, hb, ho, .inl ⟨hseq, rfl⟩⟩, nofun, nofun⟩, ?_, h.request, h.quiet, h.scan⟩
  exact opGood_serving h.op (.inl hpart) (.inr rfl) rfl rfl rfl

/-- A scan under way is withdrawn, and the part is PARKED over a directory not built. -/
theorem Ready.toParked (h : Ready s) (hpart : s.partState = .startup) (ho : s.scanOrder = true)
    (hop : ∃ slot withdrawn, s.op = some (.scanFetch slot withdrawn)) :
    Ready (enterParked { s with pfwAsserted := true, scanOrder := false, op := withdrawScan s.op }) := by
  obtain ⟨-, hb, hseq⟩ := h.power.scanOrdered ho
  obtain ⟨hmode, hq, -⟩ := h.power.startup hpart
  obtain ⟨slot, withdrawn, hop⟩ := hop
  have hempty := h.power.emptied (by rw [hpart]; nofun) hq
  have hrequest : s.markerRequest = none := by
    cases hr : s.markerRequest with
    | none => rfl
    | some w => have := (h.request w hr).1; rw [hop] at this; cases this
  rw [hop]
  refine Ready.of_governed ?_ (announce_governed _)
  refine .started (queueGood_empty hq) (Emptied.power ⟨hq, hempty.space, hempty.reads, hempty.starving⟩
    ⟨hmode.trans (by rw [hb]; rfl), rfl, hseq, hq, rfl⟩) ?_ nofun hrequest
  simp [opGood, withdrawScan, hb]

/-- The recognised level alone is raised outside RUN and a scan under way. -/
theorem Ready.asserted (h : Ready s) (hrun : s.partState ≠ .run) : Ready { s with pfwAsserted := true } := by
  have hpower := h.power
  refine ⟨h.queue.congr rfl, ⟨hpower.waiting, hpower.starving, hpower.guard, hpower.startup, fun hp => absurd hp hrun,
    fun hp => ?_, fun hp => ?_, hpower.resuming⟩, h.op, h.request, h.quiet, h.scan⟩
  · obtain ⟨hm, hb, ho, hrest⟩ := hpower.holdup hp
    exact ⟨hm, hb, ho, hrest.imp_left (fun hs => ⟨hs.1, rfl⟩)⟩
  · obtain ⟨hm, ho, hs, hq, -⟩ := hpower.parked hp
    exact ⟨hm, ho, hs, hq, rfl⟩

theorem ControllerGood.assertPfw_ready (h : ControllerGood s) (hr : s.resetHold = none) : Ready (assertPfw s) := by
  have hready := h.ready hr
  by_cases hrun : s.partState = .run
  · rw [assertPfw_run hrun]
    exact hready.toHoldup hrun
  · by_cases hscan : s.partState = .startup ∧ s.scanOrder = true
    · obtain ⟨hpart, ho⟩ := hscan
      rw [assertPfw_scanning hpart ho]
      exact hready.toParked hpart ho (h.scanning hr hpart ho).2
    · rw [assertPfw_other hrun hscan]
      exact hready.asserted hrun

/-- From HOLDUP before the CLEAN sequence the part returns to RUN. -/
theorem Ready.backToRun (h : Ready s) (hpart : s.partState = .holdup) (hseq : s.markerSeq = none) :
    Ready (enterRun { s with pfwAsserted := false }) := by
  obtain ⟨-, hb, ho, -⟩ := h.power.holdup hpart
  refine Ready.of_governed ?_ (announce_governed _)
  refine ⟨h.queue.congr rfl, ⟨fun hno => absurd rfl hno, h.power.starving, h.power.guard, nofun,
    fun _ => ⟨modeAtRun_cases _, hb, ho, hseq, rfl⟩, nofun, nofun, nofun⟩, ?_, h.request, h.quiet, h.scan⟩
  exact opGood_serving h.op (.inr hpart) (.inl rfl) rfl rfl rfl

/-- From PARKED over a directory not built the part starts up afresh. -/
theorem Ready.toStartup (h : Ready s) (hpart : s.partState = .parked) (hb : s.built = false) (hrequest : s.markerRequest = none) :
    Ready (enterStartup { s with pfwAsserted := false }) := by
  obtain ⟨hm, ho, hseq, hq, -⟩ := h.power.parked hpart
  have hempty := h.power.emptied (by rw [hpart]; nofun) hq
  have hmode : s.mode = .scan := hm.trans (by rw [hb]; rfl)
  refine ⟨queueGood_empty hq, Emptied.power ⟨hq, hempty.space, hempty.reads, hempty.starving⟩
    ⟨hmode, hq, .inl ⟨rfl, rfl, hseq⟩⟩, ?_, fun v hv => ?_, fun _ _ => hseq, fun _ _ => (by decide : 0 < Config.slots)⟩
  · have hgood := h.op
    cases hop : s.op with
    | none => exact opGood_idle rfl
    | some op =>
      cases op with
      | fetch => simp [opGood, hop, hpart] at hgood
      | program => simp [opGood, hop, hpart] at hgood
      | markerProgram => simp [opGood, hop, hseq] at hgood
      | scanFetch slot withdrawn =>
        cases withdrawn with
        | true => simp [opGood, enterStartup]
        | false => simp [opGood, hop, ho] at hgood
  · rw [show s.markerRequest = some v from hv] at hrequest
    cases hrequest

theorem ControllerGood.deassertPfw_ready (h : ControllerGood s) (hr : s.resetHold = none) : Ready (deassertPfw s) := by
  have hready := h.ready hr
  have hpower := hready.power
  have hlevel (hrest : s.partState = .startup ∨ s.partState = .run ∨ s.partState = .resuming ∨
      s.partState = .holdup ∧ s.markerSeq ≠ none) : Ready (deassertPfw s) := by
    rw [deassertPfw_other hrest]
    refine ⟨hready.queue.congr rfl, ⟨hpower.waiting, hpower.starving, hpower.guard, hpower.startup, fun hp => ?_, fun hp => ?_,
      fun hp => ?_, hpower.resuming⟩, hready.op, hready.request, hready.quiet, hready.scan⟩
    · obtain ⟨hm, hb, ho, hs, -⟩ := hpower.run hp
      exact ⟨hm, hb, ho, hs, rfl⟩
    · obtain ⟨hm, hb, ho, hcourse⟩ := hpower.holdup hp
      refine ⟨hm, hb, ho, .inr (hcourse.resolve_left (fun hno => ?_))⟩
      obtain hpart | hpart | hpart | ⟨-, hseq⟩ := hrest
      · rw [show s.partState = .holdup from hp] at hpart; cases hpart
      · rw [show s.partState = .holdup from hp] at hpart; cases hpart
      · rw [show s.partState = .holdup from hp] at hpart; cases hpart
      · exact hseq hno.1
    · obtain hpart | hpart | hpart | ⟨hpart, -⟩ := hrest <;> rw [show s.partState = .parked from hp] at hpart <;>
        cases hpart
  cases hpart : s.partState with
  | startup => exact hlevel (.inl hpart)
  | run => exact hlevel (.inr (.inl hpart))
  | resuming => exact hlevel (.inr (.inr (.inl hpart)))
  | holdup =>
    by_cases hseq : s.markerSeq = none
    · rw [deassertPfw_holdup hpart hseq]
      exact hready.backToRun hpart hseq
    · exact hlevel (.inr (.inr (.inr ⟨hpart, hseq⟩)))
  | parked =>
    obtain ⟨hm, ho, hseq, hq, -⟩ := hpower.parked hpart
    have hempty := hpower.emptied (by rw [hpart]; nofun) hq
    cases hb : s.built with
    | true =>
      rw [deassertPfw_built hpart hb]
      refine Emptied.ready ⟨hq, hempty.space, hempty.reads, hempty.starving⟩ ?_ (h.parked_idle hr hpart hb) ho rfl
      exact ⟨hm.trans (if_pos hb), hb, ho, hq, 1, by decide, rfl⟩
    | false =>
      rw [deassertPfw_notBuilt hpart hb]
      exact hready.toStartup hpart hb (h.idle hr).1

/-! ### Resets -/

theorem ready_awakened (straps : Straps) (pfw : Level) (r : ResetRecord) (s : State) : Ready (awakened straps pfw r s) := by
  have hready : Ready (released straps pfw r s) := by
    cases pfw with
    | low => exact Emptied.ready ⟨rfl, rfl, rfl, rfl⟩ ⟨rfl, rfl, rfl, rfl, rfl⟩ rfl rfl rfl
    | high =>
      exact ⟨queueGood_empty rfl, Emptied.power ⟨rfl, rfl, rfl, rfl⟩ ⟨rfl, rfl, .inl ⟨rfl, rfl, rfl⟩⟩, rfl, nofun,
        fun _ _ => rfl, fun _ _ => (by decide : 0 < Config.slots)⟩
  refine hready.of_governed ?_
  rw [awakened_eq]
  rfl

theorem controllerGood_endReset (straps : Straps) (pfw : Level) (r : ResetRecord) (s : State) :
    ControllerGood (endReset straps pfw r s) := (ready_awakened straps pfw r s).settled

theorem controllerGood_held (hr : s.resetHold ≠ none) (hq : QueueGood s) : ControllerGood s :=
  ⟨hq, fun h => absurd h hr, fun h => absurd h hr, fun h => absurd h hr⟩

theorem controllerGood_beginReset (h : ControllerGood s) (cause : ResetEvent) (torn : Torn) :
    ControllerGood (beginReset cause torn s) := by
  cases hr : s.resetHold with
  | none =>
    rw [beginReset_out hr]
    exact controllerGood_held nofun (queueGood_empty rfl)
  | some r =>
    rw [beginReset_held hr]
    exact controllerGood_held nofun (h.queue.congr rfl)

/-! ### Every command -/

/-- A session's end takes nothing in, so that an idle controller stays idle. -/
theorem ControllerGood.served (h : ControllerGood s) (hr : s.resetHold = none) (hw : Serves s t)
    (hq : s.queue = [] → t.queue = []) (hf : s.fetchWait = [] → t.fetchWait = []) : ControllerGood t := by
  have hready := (h.ready hr).works hw.1 (.inr hw.2)
  obtain ⟨hrequest, hidle⟩ := h.idle hr
  refine ⟨hready.queue, fun _ => hready.power, fun _ => hready.op,
    fun _ => ⟨(congrArg State.markerRequest hw.1.control :).trans hrequest, fun hop => ?_⟩⟩
  rw [hw.1.partState]
  exact (hidle ((congrArg State.op hw.1.control :).symm.trans hop)).imp_right
    (fun ⟨hpart, hqueue, hfetch⟩ => ⟨hpart, hq hqueue, hf hfetch⟩)

theorem sessionEnded_empty (p : PortId) (s : State) : (s.queue = [] → (sessionEnded p s).queue = []) ∧
    (s.fetchWait = [] → (sessionEnded p s).fetchWait = []) := by
  unfold sessionEnded
  split
  · exact ⟨fun hq => by rw [teardown]; simp [hq], fun hw => by rw [teardown]; simp [setFetchWait, hw]⟩
  · exact ⟨id, id⟩

theorem ControllerGood.attend (h : ControllerGood s) (hr : s.resetHold = none) (p : PortId) :
    ControllerGood (attend p s) := by
  have hframe := attend_lessTraffic p s
  obtain ⟨hq, hf⟩ := sessionEnded_empty p s
  exact h.served hr (attend_works p s) (fun he => (queue_of_lessTraffic hframe).trans (hq he))
    (fun he => (fetchWait_of_lessTraffic hframe).trans (hf he))

theorem tick_governed (s : State) : (tick s).governed = s.governed := by
  unfold tick
  exact (governed_of_lessPorts (notifyExpired_frame _ _)).trans rfl

theorem Does.controller {c : Instr} (h : Does s c t) (hr : s.resetHold = none) (hs : ControllerGood s) :
    ControllerGood t := by
  have hready := hs.ready hr
  have hport {p : PortId} {f : Port → Port} {u : State} : (updPort p f u).governed = u.governed := rfl
  cases h with
  | nothing => exact hs
  | async _ _ _ h => exact hs.of_governed (governed_of_lessTraffic h.frame)
  | clocked _ _ _ h => exact hs.of_governed (hport.trans (governed_of_lessTraffic h.frame))
  | selected p => exact hs.of_governed hport
  | deselected p => exact hs.of_governed hport
  | calibrated p low => exact hs.of_governed (hport.trans hport)
  | attended p => exact hs.attend hr p
  | chosen => exact hready.settled
  | refused =>
    refine Ready.settled (hready.of_governed ((governed_of_lessTraffic (answer_frame _ _ _)).trans ?_))
    rfl
  | @handled _ p last id f rest u _ _ _ hu =>
    have htaken : Ready (taken p id f rest last s) := hready.of_governed rfl
    have hserves := hu.serves htaken.power
    exact (htaken.works hserves.1 (.inr hserves.2)).settled
  | fetched got hop =>
    exact ((hready.served (.inl ⟨_, _, hop⟩)).of_governed (fetchDone_governed _ _ _)).settled
  | programmed got hop he =>
    exact ((hready.served (.inr ⟨_, hop⟩)).works (programDone_works he _ got) (.inl rfl)).settled
  | fetchLost got hop => exact (hready.served (.inl ⟨_, _, hop⟩)).settled
  | programLost got hop => exact (hready.served (.inr ⟨_, hop⟩)).settled
  | marked got hop =>
    refine Ready.settled (markerDone_ready hready hop _ ?_)
    rfl
  | scanned got hop =>
    refine Ready.settled ?_
    exact hs.scanFetchDone_ready hr hop got
  | ticked => exact hs.of_governed (tick_governed s)
  | asserted => exact (hs.assertPfw_ready hr).settled
  | deasserted => exact (hs.deassertPfw_ready hr).settled

end

/-- Settles O57: what the controller's choice finds is ready for it, and the choice leaves the laws true. -/
theorem controllerLawsAreKept : Obligations.ControllerLawsAreKept := by
  intro s t hs h
  exact step_keeps (P := ControllerGood) (fun u l hu => hu.of_governed rfl) (fun c u v hu hr hd => hd.controller hr hu)
    (fun cause torn u hu => controllerGood_beginReset hu cause torn)
    (fun straps pfw r u _ _ => controllerGood_endReset straps pfw r u) hs h

end Sys2Proof.Machine

/-! SUPPORT. The directory's law read row by row (R5): what keeps rows, locations and targets backed by the pool. -/

namespace Sys2Proof.Machine

section
variable {s t u : State} {e : QueueEntry}

/-! ### Rows, one by one -/

/-- A row is as R5 has it, its location is backed, and only a record of the part has a row other than the reset one. -/
structure RowKept (s : State) (r : Nat) : Prop where
  good   : RowGood (rowOf s r)
  backed : backed s r (rowOf s r).location = true
  part   : rowOf s r = Row.reset ∨ r < Config.records

/-- Every row is kept, and every entry of the queue is as the directory's law has it. -/
structure Backing (s : State) : Prop where
  rows  : ∀ r, RowKept s r
  queue : ∀ e ∈ s.queue, QueuedGood s e

theorem rowKept_reset {r : Nat} (h : rowOf s r = Row.reset) : RowKept s r := by
  refine ⟨?_, ?_, .inl h⟩ <;> rw [h]
  · exact ⟨nofun, fun _ => rfl, fun _ => rfl⟩
  · rfl

theorem DirectoryGood.backing (h : DirectoryGood s) : Backing s := by
  refine ⟨fun r => ?_, h.queue⟩
  cases hf : keyedFind s.directory r with
  | none => exact rowKept_reset (by rw [rowOf, keyedGet, hf]; rfl)
  | some row =>
    obtain ⟨hr, hgood, hback⟩ := h.rows _ (mem_of_keyedFind hf)
    have hrow : rowOf s r = row := by rw [rowOf, keyedGet, hf]; rfl
    exact ⟨by rw [hrow]; exact hgood, by rw [hrow]; exact hback, .inr hr⟩

theorem Backing.directory (h : Backing s) (hstores : StoresCanonical s) (hscan : ScanBehind s) : DirectoryGood s := by
  refine ⟨hstores, fun x hx => ?_, h.queue, hscan⟩
  obtain ⟨hkeys, hlisted⟩ := hstores.directory
  have hrow : rowOf s x.1 = x.2 := by rw [rowOf, keyedGet, keyedFind_of_mem hkeys hx]; rfl
  obtain ⟨hgood, hback, hpart⟩ := h.rows x.1
  rw [hrow] at hgood hback hpart
  exact ⟨hpart.resolve_left (hlisted x hx), hgood, hback⟩

/-! ### Locations and the pool -/

theorem backed_spare {r m : Nat} : backed s r (.spare m) = true ↔ m < Config.spares ∧ spareOf s m = .inUse r := by
  simp [backed]

theorem backed_congr (h : t.spares = s.spares) (r : Nat) (l : Location) : backed t r l = backed s r l := by
  cases l with
  | primary => rfl
  | spare m => rw [backed, spareOf_congr h, backed]

/-- A location stays backed while the pool holds the record's spares for it. -/
theorem backed_keep {r : Nat} {l : Location} (h : backed s r l = true)
    (hspares : ∀ m, l = .spare m → spareOf s m = .inUse r → spareOf t m = .inUse r) : backed t r l = true := by
  cases l with
  | primary => rfl
  | spare m =>
    obtain ⟨hm, hheld⟩ := backed_spare.1 h
    exact backed_spare.2 ⟨hm, hspares m rfl hheld⟩

theorem RowKept.congr {r : Nat} (h : RowKept s r) (hrow : rowOf t r = rowOf s r)
    (hspares : ∀ m, (rowOf s r).location = .spare m → spareOf s m = .inUse r → spareOf t m = .inUse r) : RowKept t r :=
  ⟨by rw [hrow]; exact h.good, by rw [hrow]; exact backed_keep h.backed hspares, by rw [hrow]; exact h.part⟩

theorem queuedGood_congr (h : t.spares = s.spares) (x : QueueEntry) : QueuedGood t x ↔ QueuedGood s x := by
  simp only [QueuedGood, backed_congr h]

/-- An entry without a target needs nothing of the pool. -/
theorem QueuedGood.targetless {x : QueueEntry} (h : QueuedGood s x) (hx : x.target = none) : QueuedGood t x :=
  ⟨h.1, h.2.1, fun l hl => by rw [hx] at hl; cases hl⟩

/-- Rows and pool stay; the queue's entries are good again. -/
theorem Backing.queueing (h : Backing s) (hdir : t.directory = s.directory) (hspares : t.spares = s.spares)
    (hqueue : ∀ x ∈ t.queue, QueuedGood s x) : Backing t :=
  ⟨fun r => (h.rows r).congr (rowOf_congr hdir r) (fun m _ hm => (spareOf_congr hspares m).trans hm),
    fun x hx => (queuedGood_congr hspares x).2 (hqueue x hx)⟩

theorem Backing.congr (h : Backing s) (hdir : t.directory = s.directory) (hspares : t.spares = s.spares)
    (hqueue : t.queue = s.queue) : Backing t := h.queueing hdir hspares (hqueue ▸ h.queue)

/-! ### Entries of the queue -/

theorem QueueGood.target_none (h : QueueGood s) (he : e ∈ s.queue) (hp : e.phase ≠ .programming) : e.target = none := by
  obtain ⟨-, -, -, hpending, -⟩ := h.entries e he
  cases hphase : e.phase with
  | pending => exact (hpending hphase).2
  | programming => exact absurd hphase hp

/-- The entry in PROGRAMMING has a target. -/
theorem QueueGood.target_some (h : QueueGood s) (he : inProgramming s = some e) : ∃ l, e.target = some l := by
  obtain ⟨-, -, -, -, hprogramming⟩ := h.entries e (List.mem_of_find?_eq_some he)
  exact Option.isSome_iff_exists.1 (hprogramming (phase_of_inProgramming he)).2.2

/-- Every entry but the one in PROGRAMMING has no target. -/
theorem QueueGood.others_targetless (h : QueueGood s) (he : inProgramming s = some e) {x : QueueEntry} (hx : x ∈ s.queue)
    (hne : x ≠ e) : x.target = none :=
  h.target_none hx (fun hp => hne (h.eq_inProgramming he hx hp))

/-- A change of an entry that keeps what the directory's law reads of it. -/
theorem queuedGood_same {x y : QueueEntry} (h : QueuedGood s x) (hrecord : y.record = x.record) (hchange : y.change = x.change)
    (htarget : y.target = x.target) : QueuedGood s y := by
  rw [QueuedGood, hrecord, hchange, htarget]
  exact h

/-! ### Acceptance and the retry pass -/

section
variable {s₀ : State} {f : Entry}

theorem acceptChange_queued (hq : ∀ x ∈ s.queue, QueuedGood s₀ x) (hr : f.args.record < Config.records)
    (hg : changeGood (changeOf f) = true) (coalesced : Bool) : ∀ x ∈ (acceptChange f coalesced s).queue, QueuedGood s₀ x := by
  rw [acceptChange_queue]
  cases coalesced with
  | true =>
    rw [if_pos rfl]
    intro x hx
    obtain ⟨y, hy, rfl⟩ := List.mem_map.1 hx
    have hgood := hq y hy
    split
    · exact ⟨hgood.1, hg, hgood.2.2⟩
    · exact hgood
  | false =>
    rw [if_neg (by decide)]
    intro x hx
    obtain hx | hx := List.mem_append.1 hx
    · exact hq x hx
    · obtain rfl := List.mem_singleton.1 hx
      exact ⟨hr, hg, nofun⟩

/-- The listed entries are changes that passed check 5. -/
def Vetted (l : List Nat) (s : State) : Prop :=
  ∀ x ∈ s.table, x.id ∈ l → x.args.record < Config.records ∧ changeGood (changeOf x) = true

theorem changeOf_congr {x y : Entry} (hkind : y.kind = x.kind) (hargs : y.args = x.args) : changeOf y = changeOf x := by
  rw [changeOf, changeOf, hkind, hargs]

theorem Vetted.shrinks {l : List Nat} (h : Vetted l s) (ht : Shrinks s.table t.table) : Vetted l t := fun y hy hid => by
  obtain ⟨x, hx, hrem⟩ := ht.mem hy
  obtain ⟨hr, hg⟩ := h x hx (by rw [← hrem.id]; exact hid)
  rw [hrem.args, changeOf_congr hrem.kind hrem.args]
  exact ⟨hr, hg⟩

theorem Vetted.sub {l m : List Nat} (h : Vetted l s) (hm : ∀ id ∈ m, id ∈ l) : Vetted m s :=
  fun x hx hid => h x hx (hm _ hid)

theorem Vetted.entry {l : List Nat} (h : Vetted l s) {id : Nat} (hid : id ∈ l) (hf : entryOf s id = some f) :
    f.args.record < Config.records ∧ changeGood (changeOf f) = true :=
  h f (mem_of_entryOf hf) (by rw [entryOf_id hf]; exact hid)

theorem settleChange_queued (hq : ∀ x ∈ s.queue, QueuedGood s₀ x) (hr : f.args.record < Config.records)
    (hg : changeGood (changeOf f) = true) (d : Decision) : ∀ x ∈ (settleChange f d s).queue, QueuedGood s₀ x := by
  cases d with
  | refused code => rw [settleChange, refuse_queue]; exact hq
  | merge => exact acceptChange_queued hq hr hg true
  | append => exact acceptChange_queued hq hr hg false
  | wait => exact hq

theorem retryWalk_queued {l : List Nat} (hl : Vetted l s) (hq : ∀ x ∈ s.queue, QueuedGood s₀ x) (blocked : PortSet) :
    ∀ x ∈ (retryWalk l blocked s).queue, QueuedGood s₀ x := by
  induction l generalizing blocked s with
  | nil => exact hq
  | cons id l ih =>
    have hrest : Vetted l s := hl.sub (fun _ => List.mem_cons_of_mem _)
    rw [retryWalk]
    split
    · exact ih hrest hq _
    · next f hf =>
      obtain ⟨hr, hg⟩ := hl.entry List.mem_cons_self hf
      split
      · exact ih hrest hq _
      · split
        · exact ih hrest hq _
        · have hshrinks : Shrinks s.table (settleChange f (decisionOf f s) (leaveWaiters id s)).table :=
            ((settleChange_traffic f (decisionOf f s) (leaveWaiters id s)).after rfl rfl).table
          exact ih (hrest.shrinks hshrinks) (settleChange_queued (s := leaveWaiters id s) hq hr hg _) _

/-- Marks go and a retry pass follows. -/
theorem Backing.afterRemoval (h : Backing s) (hv : Vetted s.spaceWait s) (removed : List QueueEntry) (fault : Bool) :
    Backing (retryPass (dropAllMarks removed fault s)) := by
  have hframe := afterRemoval_frame removed fault s
  refine h.queueing (directory_of_lessQueueing hframe) (spares_of_lessQueueing hframe) ?_
  refine retryWalk_queued ?_ (by rw [dropAllMarks_queue]; exact h.queue) _
  rw [dropAllMarks_spaceWait]
  exact hv.shrinks (dropAllMarks_traffic removed fault s).table

theorem ListsGood.vetted (h : ListsGood s) : Vetted s.spaceWait s := fun x hx hid => by
  obtain ⟨y, hy, heq, -, -, hr, hg⟩ := h.space _ hid
  obtain rfl : y = x := by
    have hsome := entryOf_of_mem h.table hy
    rw [heq, entryOf_of_mem h.table hx] at hsome
    exact (Option.some.inj hsome).symm
  exact ⟨hr, hg⟩

end

/-! ### The choice -/

theorem startProgram_queued (h : Backing s) (hn : inProgramming s = none) (he : oldestPending s = some e) :
    ∀ x ∈ (startProgram s).queue, QueuedGood s x := by
  obtain ⟨l, hq⟩ := queue_of_oldestPending hn he
  rw [startProgram_queue he hq]
  intro x hx
  obtain rfl | hx := List.mem_cons.1 hx
  · have hgood := h.queue e (by rw [hq]; exact List.mem_cons_self)
    refine ⟨hgood.1, hgood.2.1, fun l hl => ?_⟩
    obtain rfl : l = (rowOf s e.record).location := by simpa [started] using hl
    exact (h.rows e.record).backed
  · exact h.queue x (by rw [hq]; exact List.mem_cons_of_mem _ hx)

theorem Backing.choiceMove (h : Backing s) (hm : ChoiceMove s t) : Backing t := by
  cases hm with
  | readLost => exact h.congr rfl rfl rfl
  | readAnswered => exact h.congr (by simp [setFetchWait]) (by simp [setFetchWait]) (by simp [setFetchWait])
  | fetchStarts => exact h.congr rfl rfl rfl
  | @programStarts e hs he =>
    refine h.queueing ?_ ?_ (startProgram_queued h hs.programming he)
    · rw [startProgram, he]
    · rw [startProgram, he]
  | scanStarts => exact h.congr rfl rfl rfl
  | markerStarts => exact h.congr rfl rfl rfl
  | programAgain => exact h.congr rfl rfl rfl
  | cleanBegins => exact h.congr rfl rfl rfl

end

end Sys2Proof.Machine

/-! SUPPORT. The directory's law at completions and scan fetches (R7 to R9, R63 to R69, R156 to R158). -/

namespace Sys2Proof.Machine

section
variable {s t u : State} {e : QueueEntry}

/-! ### Rows set, spares set -/

/-- A row is set; the other rows are kept. -/
theorem rowKept_setRow {r : Nat} {row : Row} (hrows : ∀ q, q ≠ r → RowKept s q) (hgood : RowGood row)
    (hback : backed s r row.location = true) (hr : r < Config.records) (q : Nat) : RowKept (setRow r row s) q := by
  have hrow := rowOf_setRow r row s q
  by_cases hq : q = r
  · rw [if_pos hq] at hrow
    subst hq
    exact ⟨by rw [hrow]; exact hgood, by rw [hrow]; exact hback, .inr hr⟩
  · rw [if_neg hq] at hrow
    exact (hrows q hq).congr hrow (fun _ _ hm => hm)

theorem Backing.setRow (h : Backing s) {r : Nat} {row : Row} (hgood : RowGood row) (hback : backed s r row.location = true)
    (hr : r < Config.records) : Backing (setRow r row s) :=
  ⟨rowKept_setRow (fun q _ => h.rows q) hgood hback hr, h.queue⟩

theorem RowKept.of_eq {q : Nat} (h : RowKept s q) (hdir : t.directory = s.directory) (hspares : t.spares = s.spares) :
    RowKept t q := h.congr (rowOf_congr hdir q) (fun m _ hm => (spareOf_congr hspares m).trans hm)

/-- A spare that no record uses may be given any state. -/
theorem Backing.setSpare (h : Backing s) {n : Nat} (hfresh : ∀ r, spareOf s n ≠ .inUse r) (x : SpareState) :
    Backing (setSpare n x s) := by
  have hkept (m r : Nat) (hm : spareOf s m = .inUse r) : spareOf (Machine.setSpare n x s) m = .inUse r := by
    rw [spareOf_setSpare, if_neg (fun hmn => hfresh r (by rw [← hmn]; exact hm)), hm]
  refine ⟨fun r => (h.rows r).congr rfl (fun m _ => hkept m r), fun y hy => ?_⟩
  obtain ⟨hr, hg, htarget⟩ := h.queue y hy
  exact ⟨hr, hg, fun l hl => backed_keep (htarget l hl) (fun m _ => hkept m y.record)⟩

theorem spareOf_retire (l : Location) (s : State) (m : Nat) :
    spareOf (retire l s) m = if l = .spare m then .retired else spareOf s m := by
  cases l with
  | primary => rfl
  | spare k => rw [retire_spare, spareOf_setSpare]; simp [eq_comm]

theorem rowGood_after (h : EntryGood e) (hc : changeGood e.change = true) (l : Location) : RowGood (rowAfter e l) := by
  obtain ⟨hv, -⟩ := h
  unfold rowAfter
  cases he : e.change with
  | write payload =>
    rw [he] at hc
    simp only [changeGood, Bool.and_eq_true, decide_eq_true_eq] at hc
    exact ⟨fun _ => ⟨hc.1, hc.2, hv⟩, fun hno => absurd rfl hno, nofun⟩
  | erase => exact ⟨nofun, fun _ => rfl, nofun⟩

theorem location_rowAfter (e : QueueEntry) (l : Location) : (rowAfter e l).location = l := by
  unfold rowAfter
  split <;> rfl

/-! ### The end of a program -/

/-- The state after the spare that served the record before is retired, where another takes its place (R68). -/
def oldRetired (e : QueueEntry) (s : State) : State :=
  if e.target.getD (rowOf s e.record).location = (rowOf s e.record).location then s
  else retire (rowOf s e.record).location s

/-- The state of a success before marks and retry pass. -/
def committed (e : QueueEntry) (s : State) : State :=
  modeAfterRemoval { setRow e.record (rowAfter e (e.target.getD (rowOf s e.record).location)) (oldRetired e s) with
    queue := (oldRetired e s).queue.filter (fun x => !(x.record == e.record && x.phase == .programming)) }

theorem commit_committed (e : QueueEntry) (s : State) : commit e s = retryPass (dropAllMarks [e] false (committed e s)) := rfl

theorem oldRetired_eq (e : QueueEntry) (s : State) : oldRetired e s = { s with spares := (oldRetired e s).spares } := by
  unfold oldRetired
  split
  · rfl
  · cases (rowOf s e.record).location <;> rfl

theorem oldRetired_directory (e : QueueEntry) (s : State) : (oldRetired e s).directory = s.directory := by
  rw [oldRetired_eq]

theorem oldRetired_queue (e : QueueEntry) (s : State) : (oldRetired e s).queue = s.queue := by rw [oldRetired_eq]

theorem oldRetired_spaceWait (e : QueueEntry) (s : State) : (oldRetired e s).spaceWait = s.spaceWait := by
  rw [oldRetired_eq]

theorem oldRetired_table (e : QueueEntry) (s : State) : (oldRetired e s).table = s.table := by rw [oldRetired_eq]

/-- The spare retired as another takes its place backs no other record's row. -/
theorem Backing.oldRetired (h : Backing s) {target : Location} (htarget : e.target = some target) {m q : Nat}
    (hm : spareOf s m = .inUse q) (hother : q ≠ e.record ∨ target = .spare m) : spareOf (oldRetired e s) m = .inUse q := by
  unfold Machine.oldRetired
  rw [htarget, Option.getD_some]
  split
  next => exact hm
  next hne =>
    rw [spareOf_retire, if_neg (fun hold => ?_), hm]
    obtain hq | htarget := hother
    · have hback := (h.rows e.record).backed
      rw [hold] at hback
      have heq := (backed_spare.1 hback).2
      rw [hm] at heq
      exact hq (SpareState.inUse.inj heq)
    · exact hne (htarget.trans hold.symm)

theorem modeAfterRemoval_directory (s : State) : (modeAfterRemoval s).directory = s.directory := by
  obtain ⟨m, heq⟩ := modeAfterRemoval_eq s
  rw [heq]

theorem Backing.modeAfterRemoval (h : Backing s) : Backing (modeAfterRemoval s) := by
  obtain ⟨m, heq⟩ := modeAfterRemoval_eq s
  rw [heq]
  exact h.congr rfl rfl rfl

theorem vetted_modeAfterRemoval (hv : Vetted s.spaceWait s) :
    Vetted (modeAfterRemoval s).spaceWait (modeAfterRemoval s) := by
  obtain ⟨m, heq⟩ := modeAfterRemoval_eq s
  rw [heq]
  exact hv

theorem Vetted.congr (hv : Vetted s.spaceWait s) (hspace : t.spaceWait = s.spaceWait) (htable : t.table = s.table) :
    Vetted t.spaceWait t := by
  rw [hspace, Vetted, htable]
  exact hv

theorem Backing.commit (h : Backing s) (hq : QueueGood s) (he : inProgramming s = some e) (hv : Vetted s.spaceWait s) :
    Backing (commit e s) := by
  have hmem := List.mem_of_find?_eq_some he
  obtain ⟨hr, hc, htargets⟩ := h.queue e hmem
  obtain ⟨target, htarget⟩ := hq.target_some he
  have hback := htargets target (by rw [htarget]; exact List.mem_singleton.2 rfl)
  have hrows (q : Nat) (hne : q ≠ e.record) : RowKept (Machine.oldRetired e s) q :=
    (h.rows q).congr (rowOf_congr (oldRetired_directory e s) q) (fun m _ hm => h.oldRetired htarget hm (.inl hne))
  have hnew : backed (Machine.oldRetired e s) e.record target = true :=
    backed_keep hback (fun m hm hheld => h.oldRetired htarget hheld (.inr hm))
  have hwaits := hv.congr (oldRetired_spaceWait e s) (oldRetired_table e s)
  have hqueue := oldRetired_queue e s
  rw [commit_committed, committed, htarget, Option.getD_some]
  generalize Machine.oldRetired e s = u at *
  refine Backing.afterRemoval (Backing.modeAfterRemoval ⟨fun q => ?_, fun x hx => ?_⟩) ?_ [e] false
  · refine (rowKept_setRow hrows (rowGood_after (hq.entries e hmem) hc target) ?_ hr q).of_eq rfl rfl
    rw [location_rowAfter]
    exact hnew
  · obtain ⟨hx, hkeep⟩ := List.mem_filter.1 hx
    rw [hqueue] at hx
    refine (h.queue x hx).targetless (hq.others_targetless he hx (fun heq => ?_))
    rw [heq, phase_of_inProgramming he] at hkeep
    simp at hkeep
  · exact vetted_modeAfterRemoval hwaits

/-- A newly reserved target backs no row. -/
theorem dropTarget_rows (he : QueuedGood s e) {m q : Nat} (hloc : (rowOf s q).location = .spare m)
    (hm : spareOf s m = .inUse q) : spareOf (dropTarget e s) m = .inUse q := by
  cases htarget : e.target with
  | none => rw [dropTarget, htarget]; exact hm
  | some target =>
    rw [dropTarget_eq htarget, spareOf_retireReserved, if_neg, hm]
    rintro ⟨rfl, hne⟩
    have hback := (backed_spare.1 (he.2.2 (.spare m) (by rw [htarget]; exact List.mem_singleton.2 rfl))).2
    rw [hm] at hback
    rw [← SpareState.inUse.inj hback] at hne
    exact hne hloc.symm

theorem dropTarget_directory (e : QueueEntry) (s : State) : (dropTarget e s).directory = s.directory := by
  unfold dropTarget
  split
  · rw [retireReserved_eq]
  · rfl

theorem dropTarget_spaceWait (e : QueueEntry) (s : State) : (dropTarget e s).spaceWait = s.spaceWait := by
  unfold dropTarget
  split
  · rw [retireReserved_eq]
  · rfl

/-- The state of a fault before notices, marks and retry pass. -/
def faultedState (e : QueueEntry) (s : State) : State :=
  modeAfterRemoval { setRow e.record ⟨.faulted, visibleVersion s e.record, 0, (rowOf s e.record).location⟩ s with
    queue := s.queue.filter (fun x => x.record != e.record) }

theorem reportFault_backing (h : Backing s) (r : Nat) (v : Half) (origins : PortSet) : Backing (reportFault r v origins s) :=
  h.congr (by simp) (by simp) (by simp)

theorem Backing.giveUp (h : Backing s) (hq : QueueGood s) (he : inProgramming s = some e) (hv : Vetted s.spaceWait s) :
    Backing (giveUp e s) := by
  have hmem := List.mem_of_find?_eq_some he
  have hgood := h.queue e hmem
  have hdir := dropTarget_directory e s
  have hqueue := dropTarget_queue e s
  have hwaits := hv.congr (dropTarget_spaceWait e s) (dropTarget_table e s)
  have hrows (q : Nat) : RowKept (dropTarget e s) q :=
    (h.rows q).congr (rowOf_congr hdir q) (fun m hloc hm => dropTarget_rows hgood hloc hm)
  rw [giveUp_eq]
  generalize dropTarget e s = u at *
  have hstate : Backing (faultedState e u) := by
    refine Backing.modeAfterRemoval ⟨fun q => ?_, fun x hx => ?_⟩
    · exact (rowKept_setRow (row := ⟨.faulted, visibleVersion u e.record, 0, (rowOf u e.record).location⟩)
        (fun q _ => hrows q) ⟨nofun, fun _ => rfl, nofun⟩ (hrows e.record).backed hgood.1 q).of_eq rfl rfl
    · obtain ⟨hx, hkeep⟩ := List.mem_filter.1 hx
      rw [hqueue] at hx
      refine (h.queue x hx).targetless (hq.others_targetless he hx (fun heq => ?_))
      rw [heq] at hkeep
      simp at hkeep
  have hstill : Vetted (faultedState e u).spaceWait (faultedState e u) := vetted_modeAfterRemoval hwaits
  refine Backing.afterRemoval (reportFault_backing hstate _ _ _) ?_ _ true
  rw [reportFault_spaceWait, Vetted, reportFault_table]
  exact hstill

/-- The remap takes a FREE spare, which backs nothing (R66). -/
theorem Backing.remap (h : Backing s) (hq : QueueGood s) (he : inProgramming s = some e) {n : Nat}
    (hn : lowestFree s = some n) : Backing (remap e n s) := by
  have hmem := List.mem_of_find?_eq_some he
  have hgood := h.queue e hmem
  have hfree : spareOf s n = .free := by simpa using List.find?_some hn
  have hlt : n < Config.spares := List.mem_range.1 (List.mem_of_find?_eq_some hn)
  have hother {m q : Nat} (hloc : (rowOf s q).location = .spare m) (hm : spareOf s m = .inUse q) :
      spareOf (Machine.setSpare n (.inUse e.record) (dropTarget e s)) m = .inUse q := by
    rw [spareOf_setSpare, if_neg (fun hmn => by rw [hmn, hfree] at hm; cases hm)]
    exact dropTarget_rows hgood hloc hm
  rw [remap_eq]
  refine ⟨fun q => (h.rows q).congr (rowOf_congr (dropTarget_directory e s) q) (fun m => hother), fun x hx => ?_⟩
  obtain ⟨y, hy, rfl⟩ := List.mem_map.1 hx
  have hy : y ∈ s.queue := by rwa [← dropTarget_queue e s]
  split
  next hp =>
    obtain rfl := hq.eq_inProgramming he hy hp
    refine ⟨hgood.1, hgood.2.1, fun l hl => ?_⟩
    obtain rfl := List.mem_singleton.1 (show l ∈ [Location.spare n] from hl)
    refine backed_spare.2 ⟨hlt, ?_⟩
    show spareOf (Machine.setSpare n (.inUse y.record) (dropTarget y s)) n = _
    rw [spareOf_setSpare, if_pos rfl]
  next hp => exact (h.queue y hy).targetless (hq.target_none hy hp)

theorem Backing.programDone (h : Backing s) (hq : QueueGood s) (he : inProgramming s = some e) (hv : Vetted s.spaceWait s)
    (slot : Nat) (got : Cells) : Backing (programDone e slot got s) := by
  unfold Machine.programDone
  dsimp only
  have hwritten : Backing (writeSlot slot (cellsLeft (entryImage e) got) { s with op := none }) := h.congr rfl rfl rfl
  have hqueue : QueueGood (writeSlot slot (cellsLeft (entryImage e) got) { s with op := none }) := hq.congr rfl
  split
  · exact hwritten.commit hqueue he hv
  · unfold programFailed
    split
    · refine hwritten.queueing rfl rfl (fun x hx => ?_)
      obtain ⟨y, hy, rfl⟩ := List.mem_map.1 hx
      have hgood := hwritten.queue y hy
      split
      · exact queuedGood_same hgood rfl rfl rfl
      · exact hgood
    · split
      next n hn => exact hwritten.remap hqueue he hn
      next => exact hwritten.giveUp hqueue he hv

/-! ### Fetches -/

theorem Backing.applyCheck (h : Backing s) {r : Nat} (hr : r < Config.records) (good : Bool) : Backing (applyCheck r good s) := by
  unfold Machine.applyCheck
  split
  · exact h
  · exact h.setRow ⟨nofun, fun _ => rfl, fun _ => rfl⟩ (h.rows r).backed hr

theorem Backing.answer (h : Backing s) (id : Nat) (a : Answer) : Backing (answer id a s) :=
  h.congr (by simp) (by simp) (by simp)

theorem Backing.fetchDone (h : Backing s) {f : Entry} (hr : f.args.record < Config.records) (image : List Byte) :
    Backing (fetchDone f image s) := by
  have hchecked (good : Bool) : Backing (Machine.applyCheck f.args.record good { s with op := none }) :=
    (h.congr rfl rfl rfl : Backing { s with op := none }).applyCheck hr good
  unfold Machine.fetchDone
  dsimp only
  split
  · exact (hchecked _).congr rfl rfl rfl
  · exact (hchecked _).answer _ _

/-! ### Scan fetches -/

theorem rowGood_ofImage {role : SlotRole} {image : List Byte} (h : scanGood role image = true) (l : Location) :
    RowGood (rowOfImage image l) := by
  simp only [scanGood, imageGood, lengthGood, Bool.and_eq_true, Bool.not_eq_true', Bool.and_eq_false_iff, beq_eq_false_iff_ne,
    beq_iff_eq] at h
  obtain ⟨⟨-, hlength⟩, hversion⟩ := h
  unfold rowOfImage
  split
  next hmark =>
    rw [if_pos hmark] at hlength
    simp only [Bool.and_eq_true, decide_eq_true_eq] at hlength
    exact ⟨fun _ => ⟨hlength.1, hlength.2, hversion.resolve_left (fun hno => hno hmark)⟩, fun hno => absurd rfl hno, nofun⟩
  next => exact ⟨nofun, fun _ => rfl, nofun⟩

theorem location_rowOfImage (image : List Byte) (l : Location) : (rowOfImage image l).location = l := by
  unfold rowOfImage
  split <;> rfl

theorem owner_of_spareImage {image : List Byte} (h : scanGood .spare image = true) (hfree : byteAt image 0 ≠ freeMark) :
    (halfAt image 1).toNat < Config.records := by
  simp only [scanGood, imageGood, ownerGood, Bool.and_eq_true] at h
  obtain ⟨⟨⟨-, howner⟩, -⟩, -⟩ := h
  rw [if_neg (by simpa using hfree)] at howner
  simpa using howner

/-- A record found in a spare takes it, and its earlier spare is retired (R157). -/
theorem Backing.reconcileSpare (h : Backing s) (hq : s.queue = []) (hkeys : KeysRise s.spares) {n : Nat} (hn : n < 32)
    (hfresh : ∀ r, spareOf s n ≠ .inUse r) (image : List Byte) : Backing (reconcileSpare n image s) := by
  cases hgood : scanGood .spare image with
  | false => rw [reconcileSpare_bad hgood]; exact h.setSpare hfresh _
  | true =>
    by_cases hmark : byteAt image 0 = freeMark
    · rw [reconcileSpare_free hgood hmark]; exact h.setSpare hfresh _
    · rw [reconcileSpare_record hgood hmark]
      have howner := owner_of_spareImage hgood hmark
      generalize (halfAt image 1).toNat = r at *
      refine ⟨rowKept_setRow (fun q hne => (h.rows q).congr rfl (fun m _ hm => ?_)) (rowGood_ofImage hgood _) ?_ howner,
        fun x hx => ?_⟩
      · rw [spareOf_setSpare, if_neg (fun hmn => hfresh q (by rw [← hmn]; exact hm)), spareOf_retireEarlier hkeys, if_neg, hm]
        rintro ⟨-, hno⟩
        rw [hm] at hno
        obtain hno | hno := hno
        · cases hno
        · exact hne (SpareState.inUse.inj hno)
      · rw [location_rowOfImage]
        refine backed_spare.2 ⟨hn, ?_⟩
        rw [spareOf_setSpare, if_pos rfl]
      · have hx : x ∈ s.queue := hx
        rw [hq] at hx
        cases hx

end

end Sys2Proof.Machine

/-! SUPPORT. The directory's law at every command (R5, R60, R68, R154 to R158). O59 is settled here. -/

namespace Sys2Proof.Machine

section
variable {s t u : State}

/-- Every row and target is backed, and the scan has set the spares behind it alone. -/
structure Lawful (s : State) : Prop where
  backing : Backing s
  scan    : ScanBehind s

theorem Lawful.directory (h : Lawful s) (hstores : StoresCanonical s) : DirectoryGood s :=
  h.backing.directory hstores h.scan

theorem DirectoryGood.lawful (h : DirectoryGood s) : Lawful s := ⟨h.backing, h.scan⟩

theorem ScanBehind.keep (h : ScanBehind s) (hspares : t.spares = s.spares) (ho : t.scanOrder = true → s.scanOrder = true)
    (hn : s.scanNext ≤ t.scanNext) : ScanBehind t := fun hyes x hx => by
  rw [hspares] at hx
  exact (h (ho hyes) x hx).trans_le hn

theorem scanBehind_withdrawn (h : s.scanOrder = false) : ScanBehind s := fun hyes => by rw [h] at hyes; cases hyes

/-- What the directory's law reads is the same. -/
structure SameLaw (s t : State) : Prop where
  directory : t.directory = s.directory
  spares    : t.spares = s.spares
  queue     : t.queue = s.queue
  order     : t.scanOrder = s.scanOrder
  next      : t.scanNext = s.scanNext

theorem Lawful.same (h : Lawful s) (ht : SameLaw s t) : Lawful t :=
  ⟨h.backing.congr ht.directory ht.spares ht.queue, h.scan.keep ht.spares (fun ho => ht.order ▸ ho) ht.next.ge⟩

theorem SameLaw.trans (h : SameLaw s t) (k : SameLaw t u) : SameLaw s u :=
  ⟨k.directory.trans h.directory, k.spares.trans h.spares, k.queue.trans h.queue, k.order.trans h.order,
    k.next.trans h.next⟩

theorem SameLaw.of_lessTraffic (h : t.lessTraffic = s.lessTraffic) : SameLaw s t :=
  ⟨directory_of_lessTraffic h, spares_of_lessTraffic h, queue_of_lessTraffic h, scanOrder_of_lessTraffic h,
    scanNext_of_lessTraffic h⟩

theorem Lawful.of_empty (hdir : s.directory = []) (hspares : s.spares = []) (hq : s.queue = []) : Lawful s where
  backing := ⟨fun r => rowKept_reset (by rw [rowOf, hdir]; rfl), fun x hx => by rw [hq] at hx; cases hx⟩
  scan _ x hx := by rw [hspares] at hx; cases hx

/-! ### The choice -/

theorem Lawful.choiceMove (h : Lawful s) (hm : ChoiceMove s t) : Lawful t := by
  refine ⟨h.backing.choiceMove hm, ?_⟩
  cases hm with
  | readLost => exact h.scan.keep rfl id le_rfl
  | readAnswered => exact h.scan.keep (by simp [setFetchWait]) (by simp [setFetchWait]) (by simp [setFetchWait])
  | fetchStarts => exact h.scan.keep rfl id le_rfl
  | programStarts hs he =>
    rw [startProgram, he]
    exact h.scan.keep rfl id le_rfl
  | scanStarts => exact h.scan.keep rfl id (Nat.le_succ _)
  | markerStarts => exact h.scan.keep rfl id le_rfl
  | programAgain => exact h.scan.keep rfl id le_rfl
  | cleanBegins => exact h.scan.keep rfl id le_rfl

theorem Lawful.settle (h : Lawful s) : Lawful (settle s) :=
  settle_keeps (P := Lawful) (fun _ _ hu hm => hu.choiceMove hm) h

/-! ### Requests -/

theorem mapQueue_queued {g : QueueEntry → QueueEntry} (hq : ∀ x ∈ s.queue, QueuedGood s x)
    (hrecord : ∀ x, (g x).record = x.record) (hchange : ∀ x, (g x).change = x.change)
    (htarget : ∀ x, (g x).target = x.target) : ∀ x ∈ s.queue.map g, QueuedGood s x := fun x hx => by
  obtain ⟨y, hy, rfl⟩ := List.mem_map.1 hx
  exact queuedGood_same (hq y hy) (hrecord y) (hchange y) (htarget y)

theorem Lawful.mapQueue (h : Lawful s) {g : QueueEntry → QueueEntry} (hrecord : ∀ x, (g x).record = x.record)
    (hchange : ∀ x, (g x).change = x.change) (htarget : ∀ x, (g x).target = x.target) (hdir : t.directory = s.directory)
    (hspares : t.spares = s.spares) (hq : t.queue = s.queue.map g) (ho : t.scanOrder = s.scanOrder)
    (hn : t.scanNext = s.scanNext) : Lawful t :=
  ⟨h.backing.queueing hdir hspares (hq ▸ mapQueue_queued h.backing.queue hrecord hchange htarget),
    h.scan.keep hspares (fun hyes => ho ▸ hyes) hn.ge⟩

theorem Lawful.teardown (h : Lawful s) (p : PortId) (keep : Option Nat) : Lawful (teardown p keep s) :=
  h.mapQueue (g := fun e => { e with marks := dropPort e.marks p }) (fun _ => rfl) (fun _ => rfl) (fun _ => rfl) rfl rfl rfl
    rfl rfl

theorem Lawful.attend (h : Lawful s) (p : PortId) : Lawful (attend p s) := by
  have hended : Lawful (sessionEnded p s) := by
    unfold sessionEnded
    split
    · exact h.teardown p none
    · exact h
  exact hended.same (.of_lessTraffic (attend_lessTraffic p s))

theorem Lawful.answer (h : Lawful s) (id : Nat) (a : Answer) : Lawful (answer id a s) :=
  h.same (.of_lessTraffic (answer_frame id a s))

theorem Lawful.openedFrom (h : Lawful s) (e : Entry) : Lawful (openedFrom e s) := by
  unfold Machine.openedFrom
  split
  · exact h.teardown _ _
  · exact h.same ⟨rfl, rfl, rfl, rfl, rfl⟩

theorem Lawful.port (h : Lawful s) (p : PortId) (f : Port → Port) : Lawful (updPort p f s) :=
  h.same ⟨rfl, rfl, rfl, rfl, rfl⟩

theorem Lawful.handled {p : PortId} {id : Nat} {f : RxFrame} (hs : Lawful s) (h : Handled (newEntry id p f) s u)
    (hp : Passed s p f) : Lawful u := by
  have hanswer {v : State} {a : Answer} (hv : SameLaw s v) : Lawful (Machine.answer id a v) := (hs.same hv).answer id a
  cases h with
  | answered a => exact hs.answer _ a
  | readWaits => exact hs.same ⟨rfl, rfl, rfl, rfl, rfl⟩
  | changeWaits => exact hs.same ⟨rfl, rfl, rfl, rfl, rfl⟩
  | changed hk _ b _ =>
    have hframe := acceptChange_frame (newEntry id p f) b s
    refine ⟨hs.backing.queueing (directory_of_lessQueueing hframe) (spares_of_lessQueueing hframe) ?_, ?_⟩
    · exact acceptChange_queued hs.backing.queue (checkArgs_record hp.args) (checkArgs_change hp.args hk id p) b
    · exact hs.scan.keep (spares_of_lessQueueing hframe) (fun ho => scanOrder_of_lessQueueing hframe ▸ ho)
        (scanNext_of_lessQueueing hframe).ge
  | flushOpens =>
    refine hs.mapQueue (g := fun x => if inPorts x.origins p then { x with marks := addPort x.marks p } else x) ?_ ?_ ?_ rfl rfl
      rfl rfl rfl
    all_goals intro x; split <;> rfl
  | claimed => exact hanswer ⟨rfl, rfl, rfl, rfl, rfl⟩
  | released => exact hanswer ⟨rfl, rfl, rfl, rfl, rfl⟩
  | watched => exact hanswer ⟨rfl, rfl, rfl, rfl, rfl⟩
  | unwatched => exact hanswer ⟨rfl, rfl, rfl, rfl, rfl⟩
  | opened =>
    rw [handleOpen_eq]
    exact ((hs.openedFrom _).port _ beginSession).answer _ _
  | closed => exact ((hs.answer _ _).teardown _ _).port _ (fun x => { x with session := .linkUp })
  | statusTold => exact (hs.answer _ _).port _ clearFrameErr

/-! ### Completions -/

theorem Lawful.fetchDone (h : Lawful s) {e : Entry} (hr : e.args.record < Config.records) (image : List Byte) :
    Lawful (fetchDone e image s) := by
  have hcheck (r : Nat) (good : Bool) (v : State) : (applyCheck r good v).spares = v.spares ∧
      (applyCheck r good v).scanOrder = v.scanOrder ∧ (applyCheck r good v).scanNext = v.scanNext := by
    unfold applyCheck
    split <;> exact ⟨rfl, rfl, rfl⟩
  refine ⟨h.backing.fetchDone hr image, ?_⟩
  unfold Machine.fetchDone
  dsimp only
  obtain ⟨hspares, ho, hn⟩ := hcheck e.args.record (fetchGood e.args.record (rowOf s e.args.record) image) { s with op := none }
  have hscan := h.scan.keep hspares (fun hyes => ho ▸ hyes) hn.ge
  split
  · exact hscan.keep rfl id le_rfl
  · exact hscan.keep (by simp) (by simp) (by simp)

theorem Lawful.programDone (h : Lawful s) (hready : Ready s) (hlists : ListsGood s) {slot : Nat} {e : QueueEntry}
    (hop : s.op = some (.program slot)) (he : inProgramming s = some e) (got : Cells) : Lawful (programDone e slot got s) := by
  refine ⟨h.backing.programDone hready.queue he hlists.vetted slot got, scanBehind_withdrawn ?_⟩
  have hsame : (Machine.programDone e slot got s).scanOrder = s.scanOrder :=
    (congrArg State.scanOrder (programDone_works he slot got).control :)
  have hpart := (hready.serving (.inr ⟨slot, hop⟩)).1
  cases ho : s.scanOrder with
  | false => exact hsame.trans ho
  | true =>
    have hstartup := (hready.power.scanOrdered ho).1
    obtain hpart | hpart := hpart <;> rw [hpart] at hstartup <;> cases hstartup

theorem SameLaw.refl (s : State) : SameLaw s s := ⟨rfl, rfl, rfl, rfl, rfl⟩

theorem SameLaw.announced (h : SameLaw s t) : SameLaw s (announce t) :=
  h.trans ⟨announce_directory t, announce_spares t, announce_queue t, announce_scanOrder t, announce_scanNext t⟩

theorem dirtyDone_sameLaw (ok : Bool) (n : Nat) (s : State) : SameLaw s (dirtyDone ok n s) := by
  unfold dirtyDone
  split
  · refine SameLaw.announced ?_
    exact ⟨rfl, rfl, rfl, rfl, rfl⟩
  · split
    · refine SameLaw.announced ?_
      exact ⟨rfl, rfl, rfl, rfl, rfl⟩
    · split
      · exact ⟨rfl, rfl, rfl, rfl, rfl⟩
      · refine SameLaw.announced ?_
        exact ⟨rfl, rfl, rfl, rfl, rfl⟩

theorem cleanDone_sameLaw (ok : Bool) (n : Nat) (s : State) : SameLaw s (cleanDone ok n s) := by
  unfold cleanDone
  split
  · split
    · refine SameLaw.announced ?_
      exact ⟨rfl, rfl, rfl, rfl, rfl⟩
    · split
      · exact ⟨rfl, rfl, rfl, rfl, rfl⟩
      · refine SameLaw.announced ?_
        exact ⟨rfl, rfl, rfl, rfl, rfl⟩
  · exact ⟨rfl, rfl, rfl, rfl, rfl⟩

theorem markerDone_sameLaw (ok : Bool) (s : State) : SameLaw s (markerDone ok s) := by
  unfold markerDone
  split
  · exact dirtyDone_sameLaw ok _ s
  · exact cleanDone_sameLaw ok _ s
  · exact .refl s

/-! ### Scan fetches -/

theorem mem_setSpare {n : Nat} {x : SpareState} {y : Nat × SpareState} (h : y ∈ (setSpare n x s).spares) :
    y.1 = n ∨ y ∈ s.spares := by
  rw [setSpare, keyedSet] at h
  split at h
  · exact .inr (List.mem_of_mem_filter h)
  · obtain rfl | h := mem_keyedInsert h
    · exact .inl rfl
    · exact .inr h

theorem mem_reconcileSpare {n : Nat} {image : List Byte} {y : Nat × SpareState}
    (h : y ∈ (reconcileSpare n image s).spares) : y.1 = n ∨ y ∈ s.spares := by
  unfold reconcileSpare at h
  split at h
  · split at h
    · exact mem_setSpare h
    · have hset := mem_setSpare (s := retireEarlier n (halfAt image 1).toNat s) (x := .inUse (halfAt image 1).toNat) h
      exact hset.imp_right List.mem_of_mem_filter
  · exact mem_setSpare h

/-- The slot being fetched lies just before the next in scan order. -/
theorem Scanning.next_of_spare {slot : Nat} (h : Scanning s slot) (hspare : 1024 ≤ slot) (hslot : slot ≠ 1056) :
    s.scanNext = slot + 2 ∧ slot < 1056 := by
  obtain ⟨-, -, -, -, -, -, heq, hfirst, hlast⟩ := h
  unfold scanSlot at heq
  have : Config.markerSlot = 1056 := rfl
  split at heq <;> omega

theorem Lawful.reconcileSpare (h : Lawful s) (hstores : StoresCanonical s) {slot : Nat} (hscan : Scanning s slot)
    (hspare : 1024 ≤ slot) (hslot : slot ≠ 1056) (image : List Byte) :
    Backing (reconcileSpare (slot - 1024) image { s with op := none }) := by
  obtain ⟨hnext, hlt⟩ := hscan.next_of_spare hspare hslot
  have hbase : Backing { s with op := none } := h.backing.congr rfl rfl rfl
  refine hbase.reconcileSpare hscan.queue hstores.spares.1 (by omega) (fun r hused => ?_) image
  have hmem : ∃ x, keyedFind s.spares (slot - 1024) = some x := by
    cases hf : keyedFind s.spares (slot - 1024) with
    | some x => exact ⟨x, rfl⟩
    | none =>
      have hretired : spareOf { s with op := none } (slot - 1024) = .retired := by
        show keyedGet _ s.spares _ = _
        rw [keyedGet, hf]
        rfl
      rw [hretired] at hused
      cases hused
  obtain ⟨x, hx⟩ := hmem
  have hbehind := h.scan hscan.order _ (mem_of_keyedFind hx)
  have : Config.records = 1024 := rfl
  simp only at hbehind
  omega

theorem Lawful.reconciled (h : Lawful s) (hstores : StoresCanonical s) {slot : Nat} (hscan : Scanning s slot)
    (image : List Byte) : Backing (reconcile slot image { s with op := none }) := by
  have hbase : Backing { s with op := none } := h.backing.congr rfl rfl rfl
  unfold reconcile
  split
  next => exact hbase.congr rfl rfl rfl
  next hmarker =>
    split
    next hlt =>
      unfold reconcilePrimary
      split
      next hgood =>
        refine hbase.setRow (rowGood_ofImage hgood _) ?_ hlt
        rw [location_rowOfImage]
        rfl
      next => exact hbase.setRow ⟨nofun, fun _ => rfl, fun _ => rfl⟩ rfl hlt
    next hge =>
      have hspare := h.reconcileSpare hstores hscan (Nat.le_of_not_lt hge) hmarker image
      split
      · exact hspare.congr rfl rfl rfl
      · exact hspare

theorem mem_reconcile {slot : Nat} {image : List Byte} {y : Nat × SpareState} (h : y ∈ (reconcile slot image s).spares) :
    1024 ≤ slot ∧ slot ≠ 1056 ∧ y.1 = slot - 1024 ∨ y ∈ s.spares := by
  unfold reconcile at h
  split at h
  next => exact .inr h
  next hmarker =>
    split at h
    next =>
      unfold reconcilePrimary at h
      split at h <;> exact .inr h
    next hge =>
      have hkey : y.1 = slot - Config.records ∨ y ∈ s.spares := by
        split at h
        · exact mem_reconcileSpare h
        · exact mem_reconcileSpare h
      exact hkey.imp_left (fun heq => ⟨Nat.le_of_not_lt hge, hmarker, heq⟩)

theorem Lawful.scanned (h : Lawful s) (hstores : StoresCanonical s) (hcontroller : ControllerGood s) (hr : s.resetHold = none)
    {slot : Nat} {withdrawn : Bool} (hop : s.op = some (.scanFetch slot withdrawn)) (got : Cells) :
    Lawful (Machine.settle (scanFetchDone slot withdrawn got s)) := by
  unfold scanFetchDone
  dsimp only
  cases withdrawn with
  | true => exact Lawful.settle (h.same ⟨rfl, rfl, rfl, rfl, rfl⟩)
  | false =>
    have hscan := hcontroller.scanning_slot hr hop
    rw [if_neg (by rw [show s.scanOrder = true from hscan.order]; nofun)]
    generalize cellsRead s slot got = image
    have hback := h.reconciled hstores hscan image
    by_cases hslot : slot = 1055
    · refine Lawful.settle ⟨hback, scanBehind_withdrawn ?_⟩
      rw [hslot, reconcile_last]
      rfl
    · have hspares := fun y => mem_reconcile (s := { s with op := none }) (slot := slot) (image := image) (y := y)
      rw [settle_reconcile_between hscan hslot]
      refine ⟨hback.congr rfl rfl rfl, fun _ y hy => ?_⟩
      obtain ⟨hspare, hmarker, heq⟩ | hold := hspares y hy
      · obtain ⟨hnext, -⟩ := hscan.next_of_spare hspare hmarker
        have : Config.records = 1024 := rfl
        show _ < s.scanNext + 1
        omega
      · exact (h.scan hscan.order y hold).trans (Nat.lt_succ_self _)

/-! ### PFW -/

theorem Lawful.assertPfw (h : Lawful s) : Lawful (assertPfw s) := by
  by_cases hrun : s.partState = .run
  · rw [assertPfw_run hrun, holdupFromRun_eq]
    exact h.same ⟨rfl, rfl, rfl, rfl, rfl⟩
  · by_cases hscan : s.partState = .startup ∧ s.scanOrder = true
    · rw [assertPfw_scanning hscan.1 hscan.2, enterParked_eq]
      exact ⟨h.backing.congr rfl rfl rfl, scanBehind_withdrawn rfl⟩
    · rw [assertPfw_other hrun hscan]
      exact h.same ⟨rfl, rfl, rfl, rfl, rfl⟩

theorem Lawful.deassertPfw (h : Lawful s) (hpower : PowerGood s) : Lawful (deassertPfw s) := by
  have hsame {v : State} (hv : SameLaw s v) : Lawful v := h.same hv
  unfold Machine.deassertPfw
  dsimp only
  split
  · split
    · rw [enterRun_eq]
      exact hsame ⟨rfl, rfl, rfl, rfl, rfl⟩
    · exact hsame ⟨rfl, rfl, rfl, rfl, rfl⟩
  next hpart =>
    split
    · exact hsame ⟨rfl, rfl, rfl, rfl, rfl⟩
    · exact .of_empty rfl rfl (hpower.parked hpart).2.2.2.1
  all_goals exact hsame ⟨rfl, rfl, rfl, rfl, rfl⟩

/-! ### Every command -/

theorem Does.lawful {c : Instr} (h : Does s c t) (hr : s.resetHold = none) (hc : ControllerGood s) (hl : ListsGood s)
    (hd : DirectoryGood s) : Lawful t := by
  have hready := hc.ready hr
  have hs := hd.lawful
  cases h with
  | nothing => exact hs
  | async _ _ _ h => exact hs.same (.of_lessTraffic h.frame)
  | clocked _ _ _ h => exact (hs.same (.of_lessTraffic h.frame)).port _ presentNext
  | selected p => exact hs.port p select
  | deselected p => exact hs.port p deselect
  | calibrated p low => exact (hs.port p _).port p _
  | attended p => exact hs.attend p
  | chosen => exact hs.settle
  | refused => exact Lawful.settle ((hs.same ⟨rfl, rfl, rfl, rfl, rfl⟩ : Lawful (taken _ _ _ _ _ s)).answer _ _)
  | @handled _ p last id f rest u _ _ hpass hu =>
    have htaken : Lawful (taken p id f rest last s) := hs.same ⟨rfl, rfl, rfl, rfl, rfl⟩
    exact (htaken.handled hu (passed_of_dispatch hpass)).settle
  | @fetched got id slot e hop he =>
    obtain ⟨x, hx, hid, hserved⟩ := hl.inFlight id slot hop
    obtain rfl : x = e := Option.some.inj ((entryOf_of_mem hl.table hx).symm.trans (hid ▸ he))
    exact (hs.fetchDone hserved.1 _).settle
  | programmed got hop he => exact (hs.programDone hready hl hop he got).settle
  | fetchLost => exact Lawful.settle (hs.same ⟨rfl, rfl, rfl, rfl, rfl⟩)
  | programLost => exact Lawful.settle (hs.same ⟨rfl, rfl, rfl, rfl, rfl⟩)
  | marked =>
    refine Lawful.settle (hs.same (SameLaw.trans ?_ (markerDone_sameLaw _ _)))
    exact ⟨rfl, rfl, rfl, rfl, rfl⟩
  | scanned got hop => exact hs.scanned hd.stores hc hr hop got
  | ticked =>
    rw [tick_eq]
    exact hs.same ⟨rfl, rfl, rfl, rfl, rfl⟩
  | asserted => exact hs.assertPfw.settle
  | deasserted => exact (hs.deassertPfw hready.power).settle

theorem lawful_beginReset (h : Lawful s) (cause : ResetEvent) (torn : Torn) : Lawful (beginReset cause torn s) := by
  cases hr : s.resetHold with
  | none =>
    rw [beginReset_out hr]
    exact .of_empty rfl rfl rfl
  | some r =>
    rw [beginReset_held hr]
    exact h.same ⟨rfl, rfl, rfl, rfl, rfl⟩

theorem lawful_endReset (straps : Straps) (pfw : Level) (r : ResetRecord) (s : State) : Lawful (endReset straps pfw r s) := by
  have hawake : Lawful (awakened straps pfw r s) := by
    rw [awakened_eq]
    cases pfw <;> exact .of_empty rfl rfl rfl
  exact hawake.settle

end

/-- The laws that keep the directory's. -/
structure DirectoryKept (s : State) : Prop where
  controller : ControllerGood s
  lists      : ListsGood s
  law        : DirectoryGood s

/-- Settles O59: rows, locations and targets stay backed at every completion, acceptance and scan fetch. -/
theorem directoryLawIsKept : Obligations.DirectoryLawIsKept := by
  intro s t hc hl hd h
  refine (step_keeps (P := DirectoryKept) (fun u l hu => ?_) (fun c u v hu hr hdoes => ?_) (fun cause torn u hu => ?_)
    (fun straps pfw r u hu _ => ?_) ⟨hc, hl, hd⟩ h).law
  · have hlawful : Lawful { u with pending := l } := hu.law.lawful.same ⟨rfl, rfl, rfl, rfl, rfl⟩
    exact ⟨hu.controller.of_governed rfl, hu.lists.of_eq rfl rfl rfl rfl rfl,
      hlawful.directory (hu.law.stores.of_eq rfl rfl rfl rfl)⟩
  · exact ⟨hdoes.controller hr hu.controller, hu.lists.does hdoes,
      (hdoes.lawful hr hu.controller hu.lists hu.law).directory (hdoes.storesCanonical hu.law.stores)⟩
  · exact ⟨controllerGood_beginReset hu.controller cause torn, listsGood_beginReset hu.lists cause torn,
      (lawful_beginReset hu.law.lawful cause torn).directory (hu.law.stores.beginReset cause torn)⟩
  · exact ⟨controllerGood_endReset straps pfw r u, listsGood_endReset straps pfw r u,
      (lawful_endReset straps pfw r u).directory (hu.law.stores.endReset straps pfw r)⟩

end Sys2Proof.Machine

/-! SUPPORT. The marker slot (R70, R71, R159 to R167): it reads UNCLEAN before the part serves. O60 is settled here. -/

namespace Sys2Proof.Machine

section
variable {s t u : State}

/-! ### Where the part is in service -/

/-- The part is in RUN, or in HOLDUP before the CLEAN sequence. -/
def InService (s : State) : Prop := s.partState = .run ∨ s.partState = .holdup ∧ s.markerSeq = none

theorem InService.congr (h : InService t) (hpart : t.partState = s.partState) (hseq : t.markerSeq = s.markerSeq) :
    InService s := by
  rwa [InService, hpart, hseq] at h

theorem InService.of_control (h : InService t) (hc : t.control = s.control) : InService s :=
  h.congr (congrArg State.partState hc :) (congrArg State.markerSeq hc :)

theorem ChoiceMove.service (hm : ChoiceMove s t) (h : InService t) : InService s := by
  cases hm with
  | readLost => exact h
  | readAnswered => exact h.congr (by simp [setFetchWait]) (by simp [setFetchWait])
  | fetchStarts => exact h
  | programStarts hs he =>
    rw [startProgram, he] at h
    exact h
  | scanStarts => exact h
  | markerStarts => exact h
  | programAgain => exact h
  | cleanBegins hpart _ _ hseq => exact .inr ⟨hpart, hseq⟩

theorem settle_service (h : InService (settle u)) : InService u :=
  settle_keeps (P := fun v => InService v → InService u) (fun _ _ hv hm ht => hv (hm.service ht)) id h

theorem assertPfw_service (h : InService (assertPfw s)) : InService s := by
  by_cases hrun : s.partState = .run
  · exact .inl hrun
  · by_cases hscan : s.partState = .startup ∧ s.scanOrder = true
    · rw [assertPfw_scanning hscan.1 hscan.2, enterParked_eq] at h
      obtain h | ⟨h, -⟩ := h <;> cases h
    · rw [assertPfw_other hrun hscan] at h
      exact h

theorem deassertPfw_service (h : InService (deassertPfw s)) : InService s := by
  unfold deassertPfw at h
  dsimp only at h
  split at h
  next hpart =>
    split at h
    next hseq => exact .inr ⟨hpart, hseq⟩
    next => exact h
  next =>
    split at h
    · obtain h | ⟨h, -⟩ := h <;> cases h
    · obtain h | ⟨h, -⟩ := h <;> cases h
  all_goals exact h

/-- No command but a marker program's completion brings the part into service. -/
theorem Does.service {c : Instr} (hd : Does s c t) (hready : Ready s) (hc : ∀ got, c ≠ .markerProgramCompletion got)
    (h : InService t) : InService s := by
  cases hd with
  | nothing => exact h
  | async _ _ _ hm => exact h.of_control (control_of_governed (governed_of_lessTraffic hm.frame))
  | clocked _ _ _ hm => exact InService.of_control (t := _) h (control_of_governed (governed_of_lessTraffic hm.frame))
  | selected => exact h
  | deselected => exact h
  | calibrated => exact h
  | attended p => exact h.of_control (control_of_lessRequest (attend_frame p s))
  | chosen => exact settle_service h
  | @refused _ p last id f rest _ _ code =>
    exact (settle_service h).of_control (s := taken p id f rest last s)
      (control_of_governed (governed_of_lessTraffic (answer_frame _ _ _)))
  | @handled _ p last id f rest u _ _ _ hu =>
    exact (settle_service h).of_control (s := taken p id f rest last s) (control_of_lessRequest hu.frame)
  | fetched =>
    exact (settle_service h).of_control (s := { s with op := none })
      (control_of_governed (fetchDone_governed _ _ s))
  | programmed got hop he =>
    exact (settle_service h).of_control (s := { s with op := none })
      (programDone_works he _ got).control
  | fetchLost => exact (settle_service h).of_control (s := { s with op := none }) rfl
  | programLost => exact (settle_service h).of_control (s := { s with op := none }) rfl
  | marked got => exact absurd rfl (hc got)
  | @scanned got slot withdrawn hop =>
    have hpart : (scanFetchDone slot withdrawn got s).partState = s.partState :=
      (congrArg State.partState (scanFetchDone_frame slot withdrawn got s) :)
    have hgood := hready.op
    rw [opGood, hop] at hgood
    simp only [Bool.and_eq_true, Bool.or_eq_true, beq_iff_eq] at hgood
    have hin := settle_service h
    rw [InService, hpart] at hin
    obtain hin | ⟨hin, -⟩ := hin <;> obtain ⟨⟨hno | hno, -⟩, -⟩ := hgood <;> rw [hin] at hno <;> cases hno
  | ticked =>
    rw [tick_eq] at h
    exact h
  | asserted => exact assertPfw_service (settle_service h)
  | deasserted => exact deassertPfw_service (settle_service h)

/-! ### What the marker slot reads -/

/-- A program in flight is on a slot of a record or of a spare. -/
theorem program_slot_lt (hready : Ready s) (hd : DirectoryGood s) {slot : Nat} (hop : s.op = some (.program slot)) :
    slot < 1056 := by
  have hgood := hready.op
  rw [opGood, hop] at hgood
  simp only [Bool.and_eq_true] at hgood
  obtain ⟨-, hany⟩ := hgood
  cases he : inProgramming s with
  | none => rw [he] at hany; cases hany
  | some e =>
    rw [he] at hany
    have hslot : some slot = e.target.map (slotOf e.record) := by simpa using hany
    obtain ⟨l, hl, rfl⟩ := Option.map_eq_some_iff.1 hslot.symm
    obtain ⟨hr, -, htarget⟩ := hd.queue e (List.mem_of_find?_eq_some he)
    have hback := htarget l (by rw [hl]; exact List.mem_singleton.2 rfl)
    have hrecords : Config.records = 1024 := rfl
    cases l with
    | primary =>
      show e.record < 1056
      omega
    | spare n =>
      have hn : n < 32 := (backed_spare.1 hback).1
      show Config.records + n < 1056
      omega

/-- Nothing but a marker program's end changes what the marker slot reads. -/
theorem marker_slot_kept {c : Instr} (hwritten : ArrayWritten s c t.cells) (hready : Ready s) (hd : DirectoryGood s)
    (hc : ∀ got, c ≠ .markerProgramCompletion got) (hreset : ∀ cause torn, c ≠ .reset cause torn) :
    readSlot t 1056 = readSlot s 1056 := by
  cases hwritten with
  | same h => exact readSlot_congr h 1056
  | @program slot bytes hop _ h =>
    rw [readSlot_congr (s := writeSlot slot bytes s) h, readSlot_writeSlot_other]
    exact (program_slot_lt hready hd hop).ne'
  | marker _ hcommand _ =>
    obtain ⟨got, rfl⟩ | ⟨cause, torn, rfl⟩ := hcommand
    · exact absurd rfl (hc got)
    · exact absurd rfl (hreset cause torn)

theorem verdict_dirty : imageVerdict (markerImage .dirty) = .unclean := by decide

/-- After a DIRTY program that verified the marker slot reads UNCLEAN. -/
theorem readSlot_verified {v : MarkerValue} {got : Cells} (h : verifyOk (markerImage v) got = true) (u : State) :
    readSlot (writeSlot 1056 (cellsLeft (markerImage v) got) u) 1056 = markerImage v := by
  rw [cellsLeft_ok (verifyOk_iff.1 h)]
  exact readSlot_writeSlot_same 1056 _ u (by cases v <;> rfl)

/-! ### Every step -/

theorem MarkerHonest.kept (h : MarkerHonest s) (hr : s.resetHold = none) (hservice : InService t → InService s)
    (hfault : t.markerFault = s.markerFault) (hslot : readSlot t 1056 = readSlot s 1056) : MarkerHonest t :=
  fun _ hin hno => by
    show imageVerdict (readSlot t 1056) ≠ .clean
    rw [hslot]
    exact h hr (hservice hin) (hfault.symm.trans hno)

theorem markerHonest_out (h : ¬InService t) : MarkerHonest t := fun _ hin _ => absurd hin h

theorem MarkerEnd.out {part : PartState} {mode : ArrayMode} {seq : Option (MarkerValue × Nat)} {op : Option ArrayOp}
    {fault : Bool} (h : MarkerEnd s t part mode seq op fault) (hpart : part ≠ .run) (hseq : part = .holdup → seq ≠ none) :
    MarkerHonest t := by
  obtain ⟨hp, -, hs, -⟩ := h.fields
  refine markerHonest_out (fun hin => ?_)
  rw [InService, hp, hs] at hin
  exact hin.elim hpart (fun hin => hseq hin.1 hin.2)

/-- A DIRTY program leads to RUN only once it has verified, or with MARKER_FAULT set (R71). -/
theorem markerHonest_completed (hc : ControllerGood s) (hr : s.resetHold = none) {v : MarkerValue}
    (hop : s.op = some (.markerProgram v)) (got : Cells) :
    MarkerHonest (settle (markerDone (verifyOk (markerImage v) got)
      (writeSlot 1056 (cellsLeft (markerImage v) got) { s with op := none }))) := by
  obtain ⟨n, hseq⟩ := (hc.ready hr).markerProgram hop
  have hcourse := hc.inCourse hr hseq
  have hread := readSlot_verified (v := v) (got := got) (u := { s with op := none })
  have hw : InCourse (writeSlot 1056 (cellsLeft (markerImage v) got) { s with op := none }) v n :=
    ⟨hcourse.attempt, hcourse.request, hcourse.queue, hcourse.reads, hcourse.scan, hcourse.dirty, hcourse.clean⟩
  have hidle : (writeSlot 1056 (cellsLeft (markerImage v) got) { s with op := none }).op = none := rfl
  have hsequence : (writeSlot 1056 (cellsLeft (markerImage v) got) { s with op := none }).markerSeq = some (v, n) := hseq
  generalize writeSlot 1056 (cellsLeft (markerImage v) got) { s with op := none } = w at *
  generalize verifyOk (markerImage v) got = ok at *
  rw [markerDone, hsequence]
  cases v with
  | dirty =>
    show MarkerHonest (settle (dirtyDone ok n w))
    obtain ⟨hheld, hdone, hagain, hended⟩ := settle_dirtyDone hw hidle ok
    cases hpfw : w.pfwAsserted with
    | true => exact (hheld hpfw).out nofun (fun _ => nofun)
    | false =>
      cases ok with
      | true =>
        have hend := hdone hpfw rfl
        intro _ _ _
        have hcells : (settle (dirtyDone true n w)).cells = w.cells := by rw [hend.eq]
        show imageVerdict (readSlot _ 1056) ≠ .clean
        rw [readSlot_congr hcells, hread rfl, verdict_dirty]
        nofun
      | false =>
        by_cases hn : n < Config.maxAttempts
        · have hpart := hw.dirty rfl
          refine (hagain hpfw rfl hn).out (fun hrun => ?_) (fun _ => nofun)
          obtain hpart | hpart := hpart <;> rw [hpart] at hrun <;> cases hrun
        · have hend := hended hpfw rfl hn
          intro _ _ hno
          rw [hend.fields.2.2.2.2] at hno
          cases hno
  | clean =>
    show MarkerHonest (settle (cleanDone ok n w))
    obtain ⟨hresumed, hdone, hagain, hended⟩ := settle_cleanDone hw hidle ok
    cases hpfw : w.pfwAsserted with
    | false => exact (hresumed hpfw).out nofun nofun
    | true =>
      cases ok with
      | true => exact (hdone hpfw rfl).out nofun nofun
      | false =>
        by_cases hn : n < Config.maxAttempts
        · refine (hagain hpfw rfl hn).out (fun hrun => ?_) (fun _ => nofun)
          rw [(hw.clean rfl).1] at hrun
          cases hrun
        · exact (hended hpfw rfl hn).out nofun nofun

theorem Does.markerHonest {c : Instr} (h : Does s c t) (hexec : exec c s = .next t) (hreset : isReset c = false)
    (hr : s.resetHold = none) (hc : ControllerGood s) (hd : DirectoryGood s) (hm : MarkerHonest s) : MarkerHonest t := by
  have hready := hc.ready hr
  have hnoreset : ∀ cause torn, c ≠ .reset cause torn := by rintro cause torn rfl; cases hreset
  by_cases hmarker : ∃ got, c = .markerProgramCompletion got
  · obtain ⟨got, rfl⟩ := hmarker
    obtain ⟨rfl, -⟩ | ⟨v, hop, rfl⟩ := markerProgramCompletion_cases hexec
    · exact hm
    · exact markerHonest_completed hc hr hop got
  · have hc' : ∀ got, c ≠ .markerProgramCompletion got := fun got heq => hmarker ⟨got, heq⟩
    have hend : ∀ straps pfw, c ≠ .endOfReset straps pfw := by rintro straps pfw rfl; cases hreset
    exact hm.kept hr (h.service hready hc') (congrArg Prod.snd (causeAndFault_exec hexec hc' hend) :)
      (marker_slot_kept h.cells hready hd hc' hnoreset)

/-- A step that is not idle takes the front command. -/
theorem step_next (h : step s = .next t) : t = s ∨ ∃ c rest, exec c { s with pending := rest } = .next t := by
  unfold step at h
  split at h
  · exact .inl (Host.Outcome.next.inj h).symm
  · exact .inr ⟨_, _, h⟩

theorem resetHold_beginReset (cause : ResetEvent) (torn : Torn) (s : State) : (beginReset cause torn s).resetHold ≠ none := by
  cases hr : s.resetHold with
  | none => rw [beginReset_first cause torn hr]; nofun
  | some r => rw [beginReset_further cause torn hr]; nofun

theorem markerHonest_held (hr : t.resetHold ≠ none) : MarkerHonest t := fun hno => absurd hno hr

theorem markerHonest_endReset (straps : Straps) (pfw : Level) (r : ResetRecord) (s : State) :
    MarkerHonest (endReset straps pfw r s) := by
  refine markerHonest_out (fun hin => ?_)
  have hawake : InService (awakened straps pfw r s) := settle_service hin
  rw [InService, awakened_eq] at hawake
  cases pfw <;> obtain h | ⟨h, -⟩ := hawake <;> cases h

end

/-- Settles O60: the part comes into service by a verified DIRTY program alone, or with MARKER_FAULT set. -/
theorem markerStaysHonest : Obligations.MarkerStaysHonest := by
  intro s t hc hd hm h
  obtain rfl | ⟨c, rest, hexec⟩ := step_next h
  · exact hm
  · have hc' : ControllerGood { s with pending := rest } := hc.of_governed rfl
    have hlawful : Lawful { s with pending := rest } := hd.lawful.same ⟨rfl, rfl, rfl, rfl, rfl⟩
    have hd' : DirectoryGood { s with pending := rest } := hlawful.directory (hd.stores.of_eq rfl rfl rfl rfl)
    have hm' : MarkerHonest { s with pending := rest } := fun hr hin hno => by
      have hread : readSlot { s with pending := rest } Config.markerSlot = readSlot s Config.markerSlot := readSlot_congr rfl _
      rw [hread]
      exact hm hr hin hno
    obtain ⟨hr, hreset, hdoes⟩ | rfl | ⟨cause, torn, -, rfl⟩ | ⟨straps, pfw, r, -, -, rfl⟩ := exec_cases hexec
    · exact hdoes.markerHonest hexec hreset hr hc' hd' hm'
    · exact hm'
    · exact markerHonest_held (resetHold_beginReset cause torn _)
    · exact markerHonest_endReset straps pfw r _

end Sys2Proof.Machine

/-! SUPPORT. Where visible versions move (R2, R12, R26, R36). O51 is settled here. -/

namespace Sys2Proof.Machine

section
variable {s t u : State} {e : QueueEntry}

/-! ### Steps that keep every visible version -/

/-- From s to t the queue stays good and no visible version moves. -/
structure Shows (s t : State) : Prop where
  queue   : QueueGood s → QueueGood t
  version : QueueGood s → ∀ r, visibleVersion t r = visibleVersion s r

theorem Shows.trans (h : Shows s t) (k : Shows t u) : Shows s u :=
  ⟨fun hq => k.queue (h.queue hq), fun hq r => (k.version (h.queue hq) r).trans (h.version hq r)⟩

/-- What entries show is the same, and so is each row's version. -/
theorem visibleVersion_of_shown (hq : t.queue = s.queue) (hd : t.directory = s.directory) (r : Nat) :
    visibleVersion t r = visibleVersion s r :=
  visibleVersion_congr (newest_congr hq r) (by rw [rowOf_congr hd])

theorem Shows.of_eq (hq : t.queue = s.queue) (hd : t.directory = s.directory) : Shows s t :=
  ⟨fun h => h.congr hq, fun _ => visibleVersion_of_shown hq hd⟩

theorem Shows.refl (s : State) : Shows s s := .of_eq rfl rfl

theorem Shows.of_lessTraffic (h : t.lessTraffic = s.lessTraffic) : Shows s t :=
  .of_eq (queue_of_lessTraffic h) (directory_of_lessTraffic h)

theorem settle_shows (s : State) : Shows s (settle s) :=
  ⟨fun h => h.settle, fun h r => visibleVersion_settle h r⟩

theorem Shows.settled (h : Shows s t) : Shows s (settle t) := h.trans (settle_shows t)

/-- The work of a request that shows the entries as they were. -/
theorem Shows.of_map (hw : Works s t) {g : QueueEntry → QueueEntry} (hq : t.queue = s.queue.map g)
    (hd : t.directory = s.directory) (hrecord : ∀ x, (g x).record = x.record) (hphase : ∀ x, (g x).phase = x.phase)
    (hshown : ∀ x, (g x).shown = x.shown) : Shows s t :=
  ⟨hw.queue, fun _ r => visibleVersion_congr (newest_map hq hrecord hphase hshown r) (by rw [rowOf_congr hd])⟩

theorem teardown_shows (p : PortId) (keep : Option Nat) (s : State) : Shows s (teardown p keep s) :=
  .of_map (teardown_works p keep s).1 (g := fun x => { x with marks := dropPort x.marks p }) rfl rfl (fun _ => rfl)
    (fun _ => rfl) (fun _ => rfl)

theorem attend_shows (p : PortId) (s : State) : Shows s (attend p s) := by
  have hended : Shows s (sessionEnded p s) := by
    unfold sessionEnded
    split
    · exact teardown_shows p none s
    · exact .refl s
  exact hended.trans (.of_lessTraffic (attend_lessTraffic p s))

theorem answer_shows (id : Nat) (a : Answer) (s : State) : Shows s (answer id a s) := .of_lessTraffic (answer_frame id a s)

theorem openedFrom_shows (f : Entry) (s : State) : Shows s (openedFrom f s) := by
  unfold openedFrom
  split
  · exact teardown_shows _ _ s
  · exact .of_eq rfl rfl

theorem openFlush_shows (f : Entry) (s : State) : Shows s (openFlush f s) := by
  refine .of_map (openFlush_serves f s).1
    (g := fun x => if inPorts x.origins f.port then { x with marks := addPort x.marks f.port } else x) rfl rfl ?_ ?_ ?_
  all_goals intro x; split <;> rfl

/-! ### Acceptance -/

/-- An accepted change is the record's newest, at the successor version; the other records show what they showed. -/
theorem visibleVersion_accepted {f : Entry} {coalesced : Bool} (hd : decisionOf f s = if coalesced then .merge else .append)
    (r : Nat) : visibleVersion (acceptChange f coalesced s) r =
      if r = f.args.record then nextVersion (visibleVersion s r) else visibleVersion s r := by
  have hmerge : coalesced = true ↔ pendingEntry s f.args.record ≠ none := by
    cases coalesced with
    | true =>
      have hcases := acceptance_cases s f.port f.args.record (expectedOf f)
      rw [show acceptance s f.port f.args.record (expectedOf f) = .merge from hd] at hcases
      have hsome : (pendingEntry s f.args.record).isSome := by
        obtain ⟨-, -, -, -, hsome⟩ := by simpa using hcases
        exact hsome
      exact iff_of_true rfl (Option.isSome_iff_ne_none.1 hsome)
    | false => exact iff_of_false nofun (fun hno => hno (decision_append hd).1)
  obtain ⟨⟨origins, -, hsame⟩, hother⟩ := newest_acceptChange hmerge
  split
  next hr => rw [hr, visibleVersion_of_some hsame]
  next hr => exact visibleVersion_congr (hother r hr) (by rw [rowOf_congr (acceptChange_directory' f coalesced s)])

/-! ### The waiters of a record -/

/-- The listed waiters that name the record. -/
def naming (r : Nat) (l : List Nat) (s : State) : List Nat :=
  l.filter (fun id => (entryOf s id).any (fun f => f.args.record == r))

/-- Entries that are left keep their number and arguments. -/
def EntriesStay (s t : State) : Prop := ∀ id x, entryOf t id = some x → ∃ f, entryOf s id = some f ∧ x.args = f.args

theorem EntriesStay.trans (h : EntriesStay s t) (k : EntriesStay t u) : EntriesStay s u := fun id x hx => by
  obtain ⟨y, hy, hargs⟩ := k id x hx
  obtain ⟨f, hf, hargs'⟩ := h id y hy
  exact ⟨f, hf, hargs.trans hargs'⟩

theorem EntriesStay.of_table (h : t.table = s.table) : EntriesStay s t := fun id x hx =>
  ⟨x, by rw [entryOf, ← h]; exact hx, rfl⟩

theorem answer_stay (id : Nat) (a : Answer) (s : State) : EntriesStay s (answer id a s) := fun j x hx => by
  by_cases hj : j = id
  · subst hj
    unfold answer at hx
    split at hx
    · exact ⟨x, hx, rfl⟩
    next f hf =>
      refine ⟨f, hf, ?_⟩
      split at hx
      · rw [entryOf_freeEntry_same] at hx
        cases hx
      · have hsame := entryOf_updEntry_same (id := j) (g := answered a) (fun _ => rfl)
          (s := updPort f.port (fun x => { x with held := x.held ++ [j] }) s) hf
        cases hsame.symm.trans hx
        rfl
  · rw [entryOf_answer_other a hj] at hx
    exact ⟨x, hx, rfl⟩

theorem naming_length (r : Nat) (l : List Nat) (h : EntriesStay s t) : (naming r l t).length ≤ (naming r l s).length := by
  have hsub : (naming r l t).Sublist (naming r l s) := by
    refine List.monotone_filter_right l (fun id hid => ?_)
    cases hx : entryOf t id with
    | none => rw [hx] at hid; cases hid
    | some x =>
      obtain ⟨f, hf, hargs⟩ := h id x hx
      rw [hx] at hid
      rw [hf]
      simpa [hargs] using hid
  exact hsub.length_le

theorem laterVersion_next (v : Half) (n : Nat) : laterVersion (nextVersion v) n = laterVersion v (n + 1) := by
  induction n with
  | zero => rfl
  | succ n ih => rw [laterVersion, ih]; rfl

/-! ### The retry pass -/

/-- A decided waiter moves its own record by one successor at most. -/
theorem settleChange_versions {f : Entry} (d : Decision) (hd : decisionOf f s = d) (r : Nat) :
    visibleVersion (settleChange f d s) r = visibleVersion s r ∨
      f.args.record = r ∧ visibleVersion (settleChange f d s) r = nextVersion (visibleVersion s r) := by
  have haccepted (coalesced : Bool) (hd : decisionOf f s = if coalesced then .merge else .append) :
      visibleVersion (acceptChange f coalesced s) r = visibleVersion s r ∨
        f.args.record = r ∧ visibleVersion (acceptChange f coalesced s) r = nextVersion (visibleVersion s r) := by
    rw [visibleVersion_accepted hd]
    split
    next hr => exact .inr ⟨hr.symm, rfl⟩
    next => exact .inl rfl
  cases d with
  | refused code => exact .inl (visibleVersion_of_shown (refuse_queue _ _ _) (refuse_directory _ _ _) r)
  | merge => exact haccepted true hd
  | append => exact haccepted false hd
  | wait => exact .inl rfl

theorem settleChange_stay (f : Entry) (d : Decision) (s : State) : EntriesStay s (settleChange f d s) := by
  have haccepted (coalesced : Bool) : EntriesStay s (acceptChange f coalesced s) := by
    have hplaced : EntriesStay s (placeChange f.port f.args.record (changeOf f)
      (nextVersion (visibleVersion s f.args.record)) coalesced s) := .of_table (by simp [placeChange])
    refine (hplaced.trans (answer_stay f.id (.accepted f.args.record (nextVersion (visibleVersion s f.args.record)) coalesced)
      _)).trans (.of_table ?_)
    simp [acceptChange]
  cases d with
  | refused code => exact answer_stay _ _ s
  | merge => exact haccepted true
  | append => exact haccepted false
  | wait => exact .of_table rfl

/-- A retry pass moves a record on by one successor at most for each waiter that names it. -/
theorem retryWalk_versions (l : List Nat) (blocked : PortSet) (s : State) (r : Nat) :
    ∃ n, n ≤ (naming r l s).length ∧ visibleVersion (retryWalk l blocked s) r = laterVersion (visibleVersion s r) n := by
  induction l generalizing blocked s with
  | nil => exact ⟨0, le_rfl, rfl⟩
  | cons id l ih =>
    have hmore : (naming r l s).length ≤ (naming r (id :: l) s).length := (List.sublist_cons_self id l).filter _ |>.length_le
    have hskip (blocked : PortSet) : ∃ n, n ≤ (naming r (id :: l) s).length ∧
        visibleVersion (retryWalk l blocked s) r = laterVersion (visibleVersion s r) n := by
      obtain ⟨n, hn, hv⟩ := ih blocked s
      exact ⟨n, hn.trans hmore, hv⟩
    rw [retryWalk]
    split
    · exact hskip blocked
    · next f hf =>
      split
      · exact hskip blocked
      · split
        · exact hskip _
        · have hstay : EntriesStay s (settleChange f (decisionOf f s) (leaveWaiters id s)) :=
            (EntriesStay.of_table rfl).trans (settleChange_stay f (decisionOf f s) (leaveWaiters id s))
          obtain ⟨n, hn, hv⟩ := ih blocked (settleChange f (decisionOf f s) (leaveWaiters id s))
          have hn' := hn.trans (naming_length r l hstay)
          rw [hv]
          obtain hsame | ⟨hr, hnext⟩ := settleChange_versions (s := leaveWaiters id s) (decisionOf f s) rfl r
          · rw [hsame]
            exact ⟨n, hn'.trans hmore, rfl⟩
          · rw [hnext, laterVersion_next]
            refine ⟨n + 1, ?_, rfl⟩
            have hcount : (naming r (id :: l) s).length = (naming r l s).length + 1 := by
              rw [naming, List.filter_cons_of_pos (by rw [hf]; simpa using hr)]
              rfl
            omega

theorem dropMarks_stay (p : PortId) (n : Nat) (fault : Bool) (s : State) : EntriesStay s (dropMarks p n fault s) := by
  unfold dropMarks
  split
  · exact .of_table rfl
  · split
    · exact .of_table rfl
    · split
      · split
        · exact (EntriesStay.of_table rfl).trans (answer_stay _ _ _)
        · exact .of_table rfl
      · exact .of_table rfl

theorem dropAllMarks_stay (removed : List QueueEntry) (fault : Bool) (s : State) :
    EntriesStay s (dropAllMarks removed fault s) :=
  forPorts_keeps (P := fun u => EntriesStay s u) (fun p u hu => hu.trans (dropMarks_stay p _ fault u)) (.of_table rfl)

theorem afterRemoval_versions (removed : List QueueEntry) (fault : Bool) (s : State) (r : Nat) :
    ∃ n, n ≤ (naming r s.spaceWait s).length ∧
      visibleVersion (retryPass (dropAllMarks removed fault s)) r = laterVersion (visibleVersion s r) n := by
  obtain ⟨n, hn, hv⟩ := retryWalk_versions (dropAllMarks removed fault s).spaceWait noPorts (dropAllMarks removed fault s) r
  rw [dropAllMarks_spaceWait] at hn
  refine ⟨n, hn.trans (naming_length r _ (dropAllMarks_stay removed fault s)), ?_⟩
  rw [← visibleVersion_of_shown (dropAllMarks_queue removed fault s) (dropAllMarks_directory removed fault s) r]
  exact hv

end

end Sys2Proof.Machine

/-! SUPPORT. Visible versions at completions and at every command (R7 to R9, R12, R31, R32). O51 is settled here. -/

namespace Sys2Proof.Machine

section
variable {s t u : State} {e : QueueEntry}

/-! ### The end of a program -/

/-- Entries of other records stay: what the record shows stays. -/
theorem newest_filter {p : QueueEntry → Bool} (hq : t.queue = s.queue.filter p) {r : Nat}
    (hkept : ∀ x : QueueEntry, x.record = r → p x = true) : newest t r = newest s r := by
  have hfind (phase : Phase) : t.queue.find? (fun x => x.record == r && x.phase == phase) =
      s.queue.find? (fun x => x.record == r && x.phase == phase) := by
    rw [hq, List.find?_filter]
    congr 1
    funext x
    by_cases hr : x.record = r
    · rw [Bool.eq_iff_iff]
      simp [hkept x hr]
    · simp [hr]
  simp only [newest, newestEntry, pendingEntry, programmingEntry, hfind]

theorem committed_queue (e : QueueEntry) (s : State) : (committed e s).queue =
    s.queue.filter (fun x => !(x.record == e.record && x.phase == .programming)) := by
  rw [committed, modeAfterRemoval_queue]
  exact congrArg _ (oldRetired_queue e s)

theorem committed_row (e : QueueEntry) (s : State) (r : Nat) : rowOf (committed e s) r =
    if r = e.record then rowAfter e (e.target.getD (rowOf s e.record).location) else rowOf s r := by
  rw [committed, rowOf_congr (modeAfterRemoval_directory _) r]
  refine (rowOf_setRow _ _ _ r).trans ?_
  rw [rowOf_congr (oldRetired_directory e s) r]

/-- A success leaves the version of its entry in the row, unless a newer change is pending (R7, R12). -/
theorem committed_version (hq : QueueGood s) (he : inProgramming s = some e) (r : Nat) :
    visibleVersion (committed e s) r = visibleVersion s r := by
  have hqueue := committed_queue e s
  have hrow := committed_row e s r
  by_cases hr : r = e.record
  · subst hr
    rw [if_pos rfl] at hrow
    have hpending : pendingEntry (committed e s) e.record = pendingEntry s e.record := by
      rw [pendingEntry, hqueue, List.find?_filter, pendingEntry]
      congr 1
      funext x
      cases x.phase <;> cases x.record == e.record <;> rfl
    have hprogramming : programmingEntry (committed e s) e.record = none := by
      rw [programmingEntry, hqueue, List.find?_eq_none]
      intro x hx hfound
      have hkept := (List.mem_filter.1 hx).2
      rw [hfound] at hkept
      cases hkept
    unfold visibleVersion newestEntry
    rw [hpending, hprogramming, hq.programmingEntry he, hrow]
    cases pendingEntry s e.record with
    | some x => rfl
    | none =>
      unfold rowAfter
      cases e.change <;> rfl
  · rw [if_neg hr] at hrow
    exact visibleVersion_congr (newest_filter hqueue (fun x hx => by simp [hx, hr])) (by rw [hrow])

theorem faultedState_queue (e : QueueEntry) (s : State) :
    (faultedState e s).queue = s.queue.filter (fun x => x.record != e.record) := modeAfterRemoval_queue _

theorem faultedState_row (e : QueueEntry) (s : State) (r : Nat) : rowOf (faultedState e s) r =
    if r = e.record then ⟨.faulted, visibleVersion s e.record, 0, (rowOf s e.record).location⟩ else rowOf s r := by
  rw [faultedState, rowOf_congr (modeAfterRemoval_directory _) r]
  exact rowOf_setRow e.record ⟨.faulted, visibleVersion s e.record, 0, (rowOf s e.record).location⟩ s r

/-- A fault leaves the visible version in the FAULTED row (R9). -/
theorem faultedState_version (e : QueueEntry) (s : State) (r : Nat) :
    visibleVersion (faultedState e s) r = visibleVersion s r := by
  have hqueue := faultedState_queue e s
  have hrow := faultedState_row e s r
  by_cases hr : r = e.record
  · subst hr
    rw [if_pos rfl] at hrow
    have hgone (phase : Phase) :
        (faultedState e s).queue.find? (fun x => x.record == e.record && x.phase == phase) = none := by
      rw [hqueue, List.find?_eq_none]
      intro x hx hfound
      have hother := (List.mem_filter.1 hx).2
      simp_all
    have hnone : newest (faultedState e s) e.record = none := by
      simp only [newest, newestEntry, pendingEntry, programmingEntry, hgone]
      rfl
    rw [visibleVersion_of_none hnone, hrow]
  · rw [if_neg hr] at hrow
    exact visibleVersion_congr (newest_filter hqueue (fun x hx => by simp [hx, hr])) (by rw [hrow])

/-! ### Moves by waiters -/

/-- From s to t the record moves on by one successor at most for each waiter that names it. -/
def MovesOn (r : Nat) (s t : State) : Prop :=
  ∃ n, n ≤ (naming r s.spaceWait s).length ∧ visibleVersion t r = laterVersion (visibleVersion s r) n

theorem MovesOn.of_same {r : Nat} (h : visibleVersion t r = visibleVersion s r) : MovesOn r s t := ⟨0, Nat.zero_le _, h⟩

/-- Where waiters and visible version are those of s, a removal's marks and retry pass move the record from s on. -/
theorem MovesOn.of_removal {r : Nat} (removed : List QueueEntry) (fault : Bool) (hwait : t.spaceWait = s.spaceWait)
    (htable : t.table = s.table) (hv : visibleVersion t r = visibleVersion s r) :
    MovesOn r s (retryPass (dropAllMarks removed fault t)) := by
  obtain ⟨n, hn, h⟩ := afterRemoval_versions removed fault t r
  have hnaming : naming r t.spaceWait t = naming r s.spaceWait s := by simp only [naming, entryOf, hwait, htable]
  rw [hnaming] at hn
  exact ⟨n, hn, h.trans (by rw [hv])⟩

theorem commit_movesOn (hq : QueueGood s) (he : inProgramming s = some e) (r : Nat) : MovesOn r s (commit e s) := by
  rw [commit_committed]
  refine .of_removal [e] false ?_ ?_ (committed_version hq he r)
  · rw [committed, modeAfterRemoval_spaceWait]
    exact oldRetired_spaceWait e s
  · rw [committed, modeAfterRemoval_table]
    exact oldRetired_table e s

theorem visibleVersion_dropTarget (e : QueueEntry) (s : State) (r : Nat) :
    visibleVersion (dropTarget e s) r = visibleVersion s r :=
  visibleVersion_of_shown (dropTarget_queue e s) (dropTarget_directory e s) r

theorem faultRecord_movesOn (e : QueueEntry) (s : State) (r : Nat) : MovesOn r s (faultRecord e s) := by
  refine .of_removal (e :: (pendingEntry s e.record).toList) true ?_ ?_ ?_
  · rw [reportFault_spaceWait]
    exact modeAfterRemoval_spaceWait _
  · rw [reportFault_table]
    exact modeAfterRemoval_table _
  · refine (visibleVersion_of_shown (reportFault_queue _ _ _ _) (reportFault_directory _ _ _ _) r).trans ?_
    exact faultedState_version e s r

theorem giveUp_movesOn (e : QueueEntry) (s : State) (r : Nat) : MovesOn r s (giveUp e s) := by
  rw [giveUp_eq]
  obtain ⟨n, hn, h⟩ := faultRecord_movesOn e (dropTarget e s) r
  have hnaming : naming r (dropTarget e s).spaceWait (dropTarget e s) = naming r s.spaceWait s := by
    simp only [naming, entryOf, dropTarget_spaceWait, dropTarget_table]
  rw [hnaming] at hn
  exact ⟨n, hn, h.trans (by rw [visibleVersion_dropTarget])⟩

theorem visibleVersion_updProgramming {g : QueueEntry → QueueEntry} (hrecord : ∀ x, (g x).record = x.record)
    (hphase : ∀ x, (g x).phase = x.phase) (hshown : ∀ x, (g x).shown = x.shown) (s : State) (r : Nat) :
    visibleVersion (updProgramming g s) r = visibleVersion s r := by
  refine visibleVersion_congr (newest_map (g := fun x => if x.phase = .programming then g x else x) rfl ?_ ?_ ?_ r) rfl
  · intro x; split
    · exact hrecord x
    · rfl
  · intro x; split
    · exact hphase x
    · rfl
  · intro x; split
    · exact hshown x
    · rfl

theorem programFailed_movesOn (e : QueueEntry) (s : State) (r : Nat) : MovesOn r s (programFailed e s) := by
  unfold programFailed
  split
  · exact .of_same (visibleVersion_updProgramming (g := fun x => { x with attempts := x.attempts + 1 }) (fun _ => rfl) (fun _ => rfl)
      (fun _ => rfl) s r)
  · split
    next n _ =>
      rw [remap_eq]
      have hreserved : visibleVersion (setSpare n (.inUse e.record) (dropTarget e s)) r = visibleVersion s r :=
        visibleVersion_dropTarget e s r
      refine .of_same (Eq.trans ?_ hreserved)
      exact visibleVersion_updProgramming (g := fun x => { x with attempts := 1, target := some (.spare n) })
        (fun _ => rfl) (fun _ => rfl) (fun _ => rfl) _ r
    next => exact giveUp_movesOn e s r

/-- After a program's end a record has moved on by one successor at most for each waiter that names it. -/
theorem programDone_movesOn (hq : QueueGood s) (he : inProgramming s = some e) (slot : Nat) (got : Cells) (r : Nat) :
    MovesOn r s (programDone e slot got s) := by
  have hwritten {v : State} (h : MovesOn r (writeSlot slot (cellsLeft (entryImage e) got) { s with op := none }) v) :
      MovesOn r s v := h
  unfold programDone
  dsimp only
  split
  · exact hwritten (commit_movesOn (s := writeSlot slot (cellsLeft (entryImage e) got) { s with op := none }) (hq.congr rfl) he r)
  · exact hwritten (programFailed_movesOn e _ r)

/-! ### Requests -/

/-- A handled request moves a visible version only as a change of that record, to the successor. -/
theorem Handled.versions {f : Entry} (h : Handled f s u) (hq : QueueGood s) (r : Nat) : QueueGood u ∧
    (visibleVersion u r = visibleVersion s r ∨
      (isChange f.kind ∧ f.args.record = r) ∧ visibleVersion u r = nextVersion (visibleVersion s r)) := by
  have hshows {v : State} (hv : Shows s v) : QueueGood v ∧ (visibleVersion v r = visibleVersion s r ∨
      (isChange f.kind ∧ f.args.record = r) ∧ visibleVersion v r = nextVersion (visibleVersion s r)) :=
    ⟨hv.queue hq, .inl (hv.version hq r)⟩
  have hanswer {v : State} {a : Answer} (hv : Shows s v) : QueueGood (answer f.id a v) ∧
      (visibleVersion (answer f.id a v) r = visibleVersion s r ∨ (isChange f.kind ∧ f.args.record = r) ∧
        visibleVersion (answer f.id a v) r = nextVersion (visibleVersion s r)) :=
    hshows (hv.trans (answer_shows f.id a v))
  cases h with
  | answered a => exact hanswer (.refl s)
  | readWaits => exact hshows (.of_eq rfl rfl)
  | changeWaits => exact hshows (.of_eq rfl rfl)
  | changed hk _ b hd =>
    refine ⟨(acceptChange_works hd).queue hq, ?_⟩
    rw [visibleVersion_accepted hd r]
    split
    next hr => exact .inr ⟨⟨hk, hr.symm⟩, rfl⟩
    next => exact .inl rfl
  | flushOpens => exact hshows (openFlush_shows f s)
  | claimed => exact hanswer (.of_eq rfl rfl)
  | released => exact hanswer (.of_eq rfl rfl)
  | watched => exact hanswer (.of_eq rfl rfl)
  | unwatched => exact hanswer (.of_eq rfl rfl)
  | opened =>
    rw [handleOpen_eq]
    exact hanswer ((openedFrom_shows f s).trans (.of_eq rfl rfl))
  | closed =>
    have hanswered := answer_shows f.id (.closed (portOf s f.port).epoch) s
    exact hshows ((hanswered.trans (teardown_shows f.port none _)).trans (.of_eq rfl rfl))
  | statusTold => exact hshows ((answer_shows f.id _ s).trans (.of_eq rfl rfl))

/-! ### Fetches -/

/-- A fetch leaves a visible version as it was, or sets a record without a queue entry CORRUPT at version 0. -/
theorem fetchDone_versions (f : Entry) (image : List Byte) (s : State) (r : Nat) :
    (fetchDone f image s).queue = s.queue ∧
      (visibleVersion (fetchDone f image s) r = visibleVersion s r ∨
        newest (fetchDone f image s) r = none ∧ (rowOf (fetchDone f image s) r).state = .corrupt ∧
          visibleVersion (fetchDone f image s) r = 0) := by
  have hchecked (good : Bool) : (applyCheck f.args.record good { s with op := none }).queue = s.queue ∧
      (rowOf (applyCheck f.args.record good { s with op := none }) r = rowOf s r ∨
        (rowOf (applyCheck f.args.record good { s with op := none }) r).state = .corrupt ∧
        (rowOf (applyCheck f.args.record good { s with op := none }) r).version = 0) := by
    unfold applyCheck
    split
    · exact ⟨rfl, .inl rfl⟩
    · refine ⟨rfl, ?_⟩
      rw [rowOf_setRow]
      split
      · exact .inr ⟨rfl, rfl⟩
      · exact .inl rfl
  have hplaced {v : State} (hv : v.queue = s.queue ∧ (rowOf v r = rowOf s r ∨
        (rowOf v r).state = .corrupt ∧ (rowOf v r).version = 0)) :
      v.queue = s.queue ∧ (visibleVersion v r = visibleVersion s r ∨
        newest v r = none ∧ (rowOf v r).state = .corrupt ∧ visibleVersion v r = 0) := by
    obtain ⟨hqueue, hrow⟩ := hv
    have hnewest := newest_congr hqueue r
    refine ⟨hqueue, ?_⟩
    obtain hrow | ⟨hstate, hzero⟩ := hrow
    · exact .inl (visibleVersion_congr hnewest (by rw [hrow]))
    · cases hn : newest s r with
      | none =>
        rw [hn] at hnewest
        exact .inr ⟨hnewest, hstate, (visibleVersion_of_none hnewest).trans hzero⟩
      | some x => exact .inl (by rw [visibleVersion_of_some (hnewest.trans hn), visibleVersion_of_some hn])
  unfold fetchDone
  dsimp only
  have hafter := hchecked (fetchGood f.args.record (rowOf s f.args.record) image)
  split
  · exact hplaced hafter
  · refine hplaced ⟨(answer_queue _ _ _).trans hafter.1, ?_⟩
    rw [rowOf_congr (answer_directory _ _ _) r]
    exact hafter.2

/-! ### Power -/

theorem assertPfw_shows (s : State) : Shows s (assertPfw s) := by
  by_cases hrun : s.partState = .run
  · rw [assertPfw_run hrun, holdupFromRun_eq]
    exact .of_eq rfl rfl
  · by_cases hscan : s.partState = .startup ∧ s.scanOrder = true
    · rw [assertPfw_scanning hscan.1 hscan.2, enterParked_eq]
      exact .of_eq rfl rfl
    · rw [assertPfw_other hrun hscan]
      exact .of_eq rfl rfl

theorem deassertPfw_shows (hb : s.built = true) : Shows s (deassertPfw s) := by
  have hsame {v : State} (hq : v.queue = s.queue) (hd : v.directory = s.directory) : Shows s v := .of_eq hq hd
  unfold deassertPfw
  dsimp only
  split
  · split
    · rw [enterRun_eq]
      exact hsame rfl rfl
    · exact hsame rfl rfl
  · rw [if_pos hb]
    exact hsame rfl rfl
  all_goals exact hsame rfl rfl

/-! ### Every command -/

/-- The visible version of r moves, if it does, by a change request, a retry pass or a bad fetch. -/
def VersionStep (c : Instr) (s t : State) (r : Nat) : Prop :=
  visibleVersion t r = visibleVersion s r ∨
  (∃ p f rest, (portOf s p).rxBuffer = f :: rest ∧ recordOf f = r ∧ byteAt f.body 0 ∈ [kindWrite, kindWriteIf, kindErase] ∧
    (c = rowFor p (byteAt f.body 0) ∨ c = .poolGrant ∧ (roundRobin s.lastGranted).find? (headWaits s) = some p)) ∧
    visibleVersion t r = nextVersion (visibleVersion s r) ∨
  (∃ got n, c = .programCompletion got ∧ n ≤ (naming r s.spaceWait s).length ∧
    visibleVersion t r = laterVersion (visibleVersion s r) n) ∨
  (∃ got, c = .fetchCompletion got) ∧ newestEntry t r = none ∧ (rowOf t r).state = .corrupt ∧ visibleVersion t r = 0

theorem Does.versionStep {c : Instr} (h : Does s c t) (hq : QueueGood s) (hb : s.built = true) (ho : s.scanOrder = false)
    (r : Nat) : VersionStep c s t r := by
  have hshows {v : State} {c : Instr} (hv : Shows s v) : VersionStep c s v r := .inl (hv.version hq r)
  cases h with
  | nothing => exact hshows (.refl s)
  | async _ _ _ h => exact hshows (.of_lessTraffic h.frame)
  | clocked _ _ _ h => exact hshows ((Shows.of_lessTraffic h.frame).trans (.of_eq rfl rfl))
  | selected p => exact hshows (.of_eq rfl rfl)
  | deselected p => exact hshows (.of_eq rfl rfl)
  | calibrated p low => exact hshows (.of_eq rfl rfl)
  | attended p => exact hshows (attend_shows p s)
  | chosen => exact hshows (settle_shows s)
  | @refused c p last id f rest _ _ code =>
    have htaken : Shows s (taken p id f rest last s) := .of_eq rfl rfl
    exact hshows (htaken.trans (answer_shows id _ _)).settled
  | @handled c p last id f rest u hc ht _ hu =>
    have htaken : Shows s (taken p id f rest last s) := .of_eq rfl rfl
    obtain ⟨hgood, hversion⟩ := hu.versions (htaken.queue hq) r
    rw [← visibleVersion_settle hgood r, htaken.version hq r] at hversion
    obtain hsame | ⟨⟨hchange, hrecord⟩, hnext⟩ := hversion
    · exact .inl hsame
    · refine .inr (.inl ⟨⟨p, f, rest, ht.head, hrecord, ?_, ?_⟩, hnext⟩)
      · simpa [isChange, newEntry, bodyKind_eq] using hchange
      obtain ⟨hrow, -⟩ | ⟨hgrant, hfind, -⟩ := hc
      · exact .inl hrow
      · exact .inr ⟨hgrant, hfind⟩
  | @fetched got id slot f =>
    obtain ⟨hqueue, hversion⟩ := fetchDone_versions f (cellsRead s slot got) s r
    have hgood : QueueGood (fetchDone f (cellsRead s slot got) s) := hq.congr hqueue
    rw [← visibleVersion_settle hgood r, ← newest_settle hgood r,
      ← rowOf_congr (settle_directory (fetchDone f (cellsRead s slot got) s)) r] at hversion
    obtain hsame | ⟨hnone, hstate, hzero⟩ := hversion
    · exact .inl hsame
    · exact .inr (.inr (.inr ⟨⟨got, rfl⟩, Option.map_eq_none_iff.1 hnone, hstate, hzero⟩))
  | @programmed got slot e _ he =>
    have hgood := (programDone_works he slot got).queue (hq.congr rfl)
    obtain ⟨n, hn, hlater⟩ := programDone_movesOn hq he slot got r
    exact .inr (.inr (.inl ⟨got, n, rfl, hn, (visibleVersion_settle hgood r).trans hlater⟩))
  | fetchLost => exact hshows (Shows.settled (.of_eq rfl rfl))
  | programLost => exact hshows (Shows.settled (.of_eq rfl rfl))
  | @marked got v =>
    have hdone := markerDone_sameLaw (verifyOk (markerImage v) got)
      (writeSlot Config.markerSlot (cellsLeft (markerImage v) got) { s with op := none })
    exact hshows (Shows.settled (.of_eq hdone.queue hdone.directory))
  | @scanned got slot withdrawn hop =>
    have hdiscarded : Shows s (scanFetchDone slot withdrawn got s) := by
      unfold scanFetchDone
      dsimp only
      rw [if_pos (by simp [ho])]
      exact .of_eq rfl rfl
    exact hshows hdiscarded.settled
  | ticked =>
    rw [tick_eq]
    exact hshows (.of_eq rfl rfl)
  | asserted => exact hshows (assertPfw_shows s).settled
  | deasserted => exact hshows (deassertPfw_shows hb).settled

/-- Settles O51: by what a command can do, a request by its handler, a program's end by its removal and retry pass. -/
theorem visibleVersionLaw : Obligations.VisibleVersionLaw := by
  refine ⟨?_, nextVersion_eq⟩
  intro c s t r hq hb ho hreset h
  obtain ⟨-, -, hdoes⟩ | rfl | ⟨cause, torn, rfl, -⟩ | ⟨straps, pfw, x, rfl, -⟩ := exec_cases h
  · exact hdoes.versionStep hq hb ho r
  · exact .inl rfl
  · cases hreset
  · cases hreset

end

end Sys2Proof.Machine
